-- ==== Sys2Proof/Word.lean ====
section
/-! DEFINITION. The word types of the 4410 (spec 0.5): bytes, field words, tether times, frame numbers, samples. -/

namespace Sys2Proof

/-- One byte on a lane, a bus or in the flash. -/
abbrev Byte := BitVec 8

/-- One 32-bit field word or payload word (0.5). -/
abbrev Word := BitVec 32

/-- A tether time: a 32-bit count of microseconds, compared by modular difference (0.5). -/
abbrev Time := BitVec 32

/-- A display frame number, 0 to 65535, which wraps (0.5). -/
abbrev FrameNo := BitVec 16

/-- A 16-bit audio sample as it travels (0.5). -/
abbrev Sample := BitVec 16

end Sys2Proof
end

