-- ==== Sys2Proof/Syntax.lean ====
section
/-! DEFINITION. The commands of the block: one constructor of `Instr` for each row of spec/opcode_table.json, with the
operands the row's event brings from outside (bytes, words, levels, outcomes). -/

namespace Sys2Proof

/-- POS of a cell (1.1, 12.1). -/
inductive Pos
  | first | mid | last | only
  deriving DecidableEq, Repr

/-- One of two like units: panel A or B, exposure generator A or B. -/
inductive Side
  | a | b
  deriving DecidableEq, Repr

/-- A pattern channel: T, the alert tone, or H, the haptic drive (chapter 9). -/
inductive Channel
  | t | h
  deriving DecidableEq, Repr

/-- A sensor bus (R102). -/
inductive Bus
  | serial4 | twoWire
  deriving DecidableEq, Repr

/-- What brings or ends a power-on reset (R169, R193): a supply voltage in mV seen by the supply monitor, or the pin
RSTN. -/
inductive ResetCause
  | supply (mv : Nat)
  | rstn
  deriving DecidableEq, Repr

/-- The fields of one management request that every operation carries (R39). `short` says that the cell had LEN 1, so
that INDEX and the data words are absent. -/
structure Request where
  pos   : Pos
  tag   : Byte
  count : Byte
  index : Byte
  short : Bool
  data  : List Word
  deriving DecidableEq, Repr

/-- How a poll transaction that was begun completes (R109), a clock-hold failure apart, which has its own row. -/
inductive PollOutcome
  | good (bytes : List Byte)
  | refusedAddress
  | refusedData
  deriving DecidableEq, Repr

/-- How a recovery ends, with the clock pulses given (R116). -/
inductive RecoveryOutcome
  | success (pulses : Fin 10)
  | failure (pulses : Fin 10)
  deriving DecidableEq, Repr

/-- How a relay's last transfer ends (R118): with the bytes read, or at a missing acknowledgement. -/
inductive RelayOutcome
  | ok (bytes : List Byte)
  | refused
  deriving DecidableEq, Repr

/-- The commands, in the order of spec/opcode_table.json. -/
inductive Instr
  | powerOnReset (cause : ResetCause)
  | headerJudgement (b0 b1 b2 b3 : Byte)
  | cellArrival (payload : List Byte) (p0 p1 : Byte)
  | slewEnd
  | cellBoundary
  | read (table : Byte) (r : Request)
  | write (table : Byte) (r : Request)
  | writePower (r : Request)
  | writeLoads (r : Request)
  | writeSideband (r : Request)
  | writeFrameTimer (r : Request)
  | writePanel (r : Request)
  | writePoll (r : Request)
  | writeMotion (r : Request)
  | writeAudio (r : Request)
  | writePattern (r : Request)
  | clear (table : Byte) (r : Request)
  | restart (r : Request)
  | relay (r : Request)
  | busRecover (r : Request)
  | fifoFlush (r : Request)
  | audioRestart (r : Request)
  | play (r : Request)
  | stop (r : Request)
  | testStart (r : Request)
  | testStop (r : Request)
  | restartTakesEffect
  | imageHeaderRead (w0 w1 : Word)
  | imageBodyRead (body : List Word)
  | imageRecord (header : Word) (data : List Word)
  | frameStart
  | evaluation
  | exposurePulseStart (g : Side)
  | exposurePulseEnd (g : Side)
  | frameStartPulseEnd
  | lineOut (p : Side)
  | strobeStart (p : Side)
  | strobeEnd (p : Side)
  | sidebandChange (line : Fin 6) (level : Bool)
  | dueMoment (e : Fin 8)
  | transactionCompletes (bus : Bus) (o : PollOutcome)
  | clockHoldFailure
  | recoveryCompletes (o : RecoveryOutcome)
  | retryExpiry
  | relayCompletes (o : RelayOutcome)
  | relayWaitEnd
  | relayTimeout
  | flushTimeout
  | periodStart
  | idleTimerExpiry
  | micBlockComplete (sample : Sample)
  | stepEnd (c : Channel)
  | elapsedRise (c : Channel)
  | polarityReversal (c : Channel)
  | carrierPeriodStart
  | deadTimeEnd
  | onTimeEnd
  | measurement (mv ma : Nat)
  | powerOnResetEnds (cause : ResetCause)
  | outputFrame
  | microphoneSample (sample : Sample)
  | relayWritePhaseEnd
  deriving DecidableEq, Repr

end Sys2Proof
end

