-- ==== Sys2Proof/Machine/State.lean ====
section
/-! DEFINITION. The state of the 4410 as plain data, one record per block of spec 0.3, the reset state, and the two closed
types of reasons a step can stop. Numeric fields of tables are Nat (the field's range stands in the spec's table);
tether times, sequence numbers and field words are bit vectors. -/

namespace Sys2Proof.Machine

open Sys2Proof

/-- Why a step could stop with a fault: never. The block has no exception entry, and the spec describes every error it
names as a state or an event. -/
inductive Fault
  deriving DecidableEq, Repr

/-- Why a step could be refused. -/
inductive Refusal
  /-- The arm of `exec` for a row that has no meaning yet. No arm raises it. Safe. -/
  | notModelled (mnemonic : String)
  deriving DecidableEq, Repr

/-- Two like things, one for each side (panels A and B, generators A and B). -/
structure Duo (α : Type) where
  a : α
  b : α
  deriving DecidableEq, Repr

/-- The member of a pair on one side. -/
def Duo.get {α : Type} (d : Duo α) : Side → α
  | .a => d.a
  | .b => d.b

/-- The pair with the member on one side replaced. -/
def Duo.set {α : Type} (d : Duo α) (p : Side) (x : α) : Duo α :=
  match p with
  | .a => { d with a := x }
  | .b => { d with b := x }

/-- The pair with the member on one side changed. -/
def Duo.modify {α : Type} (d : Duo α) (p : Side) (f : α → α) : Duo α := d.set p (f (d.get p))

/-- A counter of a read-only table field: 32-bit and saturating (0.5). -/
abbrev Counter := Nat

/-! ### Hold and clock -/

/-- What holds the part in power-on reset (R169, R193). -/
structure ResetHold where
  supplyLow : Bool
  rstnLow   : Bool
  deriving DecidableEq, Repr

/-- The part's own oscillator (12.6, 24.576 MHz) and what is counted on it for the whole part: `osc` ticks since the
power-on reset ended, `usAcc` the running microsecond in 1/3072 of it, `measAt` the tick of the next supply measurement
(R168). Model's own form of the clock: log entry 1. -/
structure Clock where
  osc    : Nat
  usAcc  : Nat
  measAt : Nat
  deriving DecidableEq, Repr

/-! ### Link receiver (chapter 1) -/

/-- Lock state (R5). -/
inductive LockState
  | search | verify | locked
  deriving DecidableEq, Repr

/-- Time state (R9). -/
inductive TimeState
  | unset | running | slewing
  deriving DecidableEq, Repr

/-- The defined kinds of a cell (1.1). -/
inductive CellKind
  | idle | data | mgmt | sync | test
  deriving DecidableEq, Repr

/-- The good header of the cell now being taken in, and whether it was judged in LOCKED (R2, R3). -/
structure RxCell where
  sn     : Fin 32
  kind   : CellKind
  seq    : Byte
  len    : Nat
  pos    : Pos
  locked : Bool
  deriving DecidableEq, Repr

/-- State of the link receiver: lock machine, pass machine, tether time machine, test checker and its part of the link
table (R1 to R18, R24). -/
structure Lrx where
  lock             : LockState
  goodCount        : Nat
  badCount         : Nat
  nextHeader       : Nat
  cell             : Option RxCell
  pass             : Bool
  winCells         : Nat
  winErrors        : Nat
  passThreshold    : Nat
  linkDelay        : Nat
  tt               : Time
  timeState        : TimeState
  deficit          : Nat
  faults           : Nat
  slewHalf         : Bool
  testMode         : Bool
  badHeaders       : Counter
  badKinds         : Counter
  badPayloads      : Counter
  unlockedDiscards : Counter
  badSyncs         : Counter
  targetsDropped   : Counter
  testCells        : Counter
  testBitErrors    : Counter
  deriving DecidableEq, Repr

/-! ### Link transmitter (chapter 1) -/

/-- STATUS of a reply (R40). -/
inductive Status
  | ok | okAdjusted | badOp | badTable | badIndex | badLength | badValue | readOnly | isProtected | busy | timeout | busError
  deriving DecidableEq, Repr

/-- A reply record waiting in the REPLY queue (R40). `restart` marks the reply that answers a RESTART (R54). -/
structure Reply where
  tag     : Byte
  status  : Status
  table   : Byte
  count   : Byte
  index   : Byte
  data    : List Word
  restart : Bool
  deriving DecidableEq, Repr

/-- Where a transmitted cell came from (R20, R18, R23). -/
inductive TxSource
  | idle | test | reply | notice | motion | voice
  deriving DecidableEq, Repr

/-- The cell in transmission (R19, R23): its source, its bytes on the wire, and whether it is the reply to a RESTART. -/
structure TxCell where
  source  : TxSource
  wire    : List Byte
  restart : Bool
  deriving DecidableEq, Repr

/-- State of the link transmitter (R19 to R23). Cells of MOTION and VOICE wait as their payload bytes; the NOTICE queue is
the event unit's. -/
structure Ltx where
  reply      : List Reply
  motion     : List (List Byte)
  voice      : List (List Byte)
  seq        : Vector Byte 4
  fairness   : Nat
  testSeq    : Byte
  tx         : Option TxCell
  voiceDrops : Counter
  deriving DecidableEq, Repr

/-! ### Steering unit (chapter 2) -/

/-- Destination of a steering window (R25). -/
inductive Destination
  | discard | panelA | panelB | panelBoth | audio | sideband
  deriving DecidableEq, Repr

/-- A steering window (R25). -/
structure Window where
  enable      : Bool
  base        : Nat
  mask        : Nat
  destination : Destination
  deriving DecidableEq, Repr

/-- An entry of the stream status table (R28); `tracking` is the state TRACKING, its absence NEW. -/
structure StreamEntry where
  tracking       : Bool
  lastSeq        : Byte
  gapPending     : Bool
  goodCells      : Counter
  gaps           : Counter
  badPcrc        : Counter
  unsteered      : Counter
  kindMismatches : Counter
  deriving DecidableEq, Repr

/-- Source of a side-band line (R32, R34). -/
inductive LineSource
  | input | level0 | level1 | received | linkLock | linkPass | displayLocked | frameStart | strobeA | powerNormal
  deriving DecidableEq, Repr

/-- Loss policy of a RECEIVED line (R35). -/
inductive LossPolicy
  | hold | default
  deriving DecidableEq, Repr

/-- A side-band table entry's writable fields, and `pulse`: the line is showing the 10 microsecond pulse of FRAME_START (R34). -/
structure Line where
  source       : LineSource
  bit          : Nat
  policy       : LossPolicy
  defaultLevel : Bool
  pulse        : Bool
  deriving DecidableEq, Repr

/-- State of the steering unit. `pins` are the levels the outside world puts on SBL0 to SBL5. -/
structure Stu where
  written     : Vector Window 8
  inForce     : Vector Window 8
  streams     : Vector StreamEntry 32
  lines       : Vector Line 6
  word        : BitVec 16
  wordCurrent : Bool
  pins        : Vector Bool 6
  deriving DecidableEq, Repr

/-! ### Management responder and loader (chapter 3) -/

/-- The relay in the slot (R52): what its reply echoes, its read length, and the oscillator count at which it times out. -/
structure Slot where
  tag      : Byte
  count    : Byte
  index    : Byte
  readLen  : Nat
  deadline : Nat
  deriving DecidableEq, Repr

/-- State of the management responder (3, R41, R52, R54). -/
structure Mrs where
  slot            : Option Slot
  restartPending  : Bool
  requestsTaken   : Counter
  requestsDropped : Counter
  badPos          : Counter
  deriving DecidableEq, Repr

/-- Image state (R44, R56). -/
inductive ImageState
  | loading | loaded | loadedWithErrors | absent | bad
  deriving DecidableEq, Repr

/-- State of the configuration loader (R44, R56 to R58). -/
structure Cfl where
  state        : ImageState
  pass         : Nat
  position     : Nat
  version      : Nat
  length       : Nat
  check        : BitVec 16
  applied      : Nat
  adjusted     : Nat
  skipped      : Nat
  firstSkipped : Nat
  deriving DecidableEq, Repr

/-! ### Frame timer (chapter 4) -/

/-- Writable fields of the frame timer table (R59); `linked` is mode LINKED, its absence FREE. -/
structure FtCfg where
  linked     : Bool
  period     : Nat
  phaseStep  : Nat
  lockWindow : Nat
  shiftLead  : Nat
  deriving DecidableEq, Repr

/-- The schedule's state (4.2). -/
inductive Schedule
  | idle | awaiting | starting | running
  deriving DecidableEq, Repr

/-- Display lock state (R66). -/
inductive DisplayState
  | free | pulling | locked | holdover
  deriving DecidableEq, Repr

/-- State of a frame record (R68). -/
inductive RecState
  | opened | evaluated | scanning | done
  deriving DecidableEq, Repr

/-- Flags of a frame record (R68). -/
structure RecFlags where
  noPose       : Bool
  poseAhead    : Bool
  historyShort : Bool
  clamped      : Bool
  lateEval     : Bool
  cutA         : Bool
  cutB         : Bool
  incomplete   : Bool
  deriving DecidableEq, Repr

/-- Yaw and pitch angle in nrad (R129). -/
structure Angles where
  yaw   : Int
  pitch : Int
  deriving DecidableEq, Repr

/-- A panel's horizontal and vertical shift (R131). -/
structure Shift where
  dx : Int
  dy : Int
  deriving DecidableEq, Repr

/-- A frame record (R68). -/
structure FrameRec where
  number   : FrameNo
  state    : RecState
  start    : Time
  pose     : Option Time
  evalTime : Option Time
  angles   : Option Angles
  shifts   : Option (Duo Shift)
  flags    : RecFlags
  missing  : Duo Nat
  strobe   : Duo (Option Nat)
  deriving DecidableEq, Repr

/-- Writable fields of an exposure entry (R75); `aEnd` is reference A_END, its absence FRAME_START; `line` 6 is NONE. -/
structure ExpCfg where
  enable  : Bool
  aEnd    : Bool
  offset  : Nat
  width   : Nat
  divider : Nat
  line    : Nat
  deriving DecidableEq, Repr

/-- State of an exposure generator (4.5). -/
inductive ExpState
  | idle | pending | on
  deriving DecidableEq, Repr

/-- An exposure generator. `startAt` and `endAt` are its pulse's times, `pulseLine` the line the pulse is on (R36),
`frame` the frame in which the pulse began and `crossed` whether a frame start has followed it (R77). -/
structure Generator where
  written    : ExpCfg
  inForce    : ExpCfg
  state      : ExpState
  startAt    : Time
  endAt      : Time
  pulseLine  : Nat
  frame      : FrameNo
  crossed    : Bool
  pulses     : Counter
  suppressed : Counter
  deriving DecidableEq, Repr

/-- State of the frame timer (chapter 4). `upcoming` is the OPEN or EVALUATED record; `pulseEnd` the oscillator count at
which the side-band lines' FRAME_START pulse ends (R34). -/
structure Ftm where
  written        : FtCfg
  inForce        : FtCfg
  schedule       : Schedule
  scanFrame      : Option FrameNo
  sF             : Time
  sNext          : Time
  renumber       : Option FrameNo
  display        : DisplayState
  inCount        : Nat
  outCount       : Nat
  noTarget       : Nat
  targetTaken    : Bool
  lastPhaseError : Int
  frameStarts    : Counter
  extraTargets   : Counter
  upcoming       : Option FrameRec
  scanning       : Option FrameRec
  done           : Option FrameRec
  pendingPanels  : Duo Bool
  gens           : Duo Generator
  pulseEnd       : Option Nat
  deriving DecidableEq, Repr

/-! ### Picture path (chapter 5) -/

/-- One pixel of a line: black, which the part makes itself (R95), or three bytes of the stream (R83). -/
inductive Pixel
  | black
  | rgb (b0 b1 b2 : Byte)
  deriving DecidableEq, Repr

/-- Writable fields of a panel entry (R79); `repeatFill` is missing fill REPEAT, its absence BLACK. -/
structure PanelCfg where
  enable       : Bool
  width        : Nat
  height       : Nat
  linePeriod   : Nat
  repeatFill   : Bool
  brightness   : Nat
  fullPower    : Nat
  strobeOffset : Nat
  maxWidth     : Nat
  deriving DecidableEq, Repr

/-- Scan state of a panel (R81). -/
inductive ScanState
  | off | waiting | active | blank
  deriving DecidableEq, Repr

/-- Strobe state of a panel (5.6). -/
inductive StrobeState
  | idle | pending | on | held
  deriving DecidableEq, Repr

/-- A line held in a ring (R88). -/
structure RingLine where
  frame  : FrameNo
  line   : Nat
  pixels : List Pixel
  deriving DecidableEq, Repr

/-- State of one panel. -/
structure PanelState where
  written         : PanelCfg
  inForce         : PanelCfg
  scan            : ScanState
  pos             : Nat
  scanStart       : Nat
  shift           : Shift
  ring            : List RingLine
  lastLine        : Option (List Pixel)
  ceiling         : Nat
  strobe          : StrobeState
  strobeAt        : Time
  strobeEnd       : Time
  strobeWidth     : Nat
  missingLines    : Counter
  earlyLines      : Counter
  staleLines      : Counter
  cutLines        : Counter
  noScanLines     : Counter
  malformedSlices : Counter
  noContextSlices : Counter
  orphanCells     : Counter
  deriving DecidableEq, Repr

/-- Target of a picture cell (R27). -/
inductive Target
  | one (p : Side)
  | both
  deriving DecidableEq, Repr

/-- A BUSY slice context (R83). `current` holds the bytes of the line in progress. -/
structure SliceCtx where
  sn       : Fin 32
  target   : Target
  frame    : FrameNo
  first    : Nat
  count    : Nat
  width    : Nat
  nextLine : Nat
  current  : List Byte
  received : Nat
  deriving DecidableEq, Repr

/-- State of the picture path. -/
structure Pxp where
  panels   : Duo PanelState
  contexts : Vector (Option SliceCtx) 4
  deriving DecidableEq, Repr

/-! ### Motion unit (chapter 6) -/

/-- Kind of a poll entry and of a sensor record (R104). -/
inductive PollKind
  | imu6 | mag3 | prox | raw
  deriving DecidableEq, Repr

/-- Writable fields of a poll entry (R104); `ready` is trigger READY, `big` byte order BIG. -/
structure PollCfg where
  enable        : Bool
  bus           : Bus
  device        : Nat
  startRegister : Nat
  length        : Nat
  ready         : Bool
  readyLine     : Nat
  period        : Nat
  decimate      : Nat
  kind          : PollKind
  big           : Bool
  toFifo        : Bool
  deriving DecidableEq, Repr

/-- A poll entry with its due schedule (R105) and edge count (R106). -/
structure PollEntry where
  cfg         : PollCfg
  periodForce : Nat
  dueAt       : Option Nat
  edgeCount   : Nat
  samples     : Counter
  overruns    : Counter
  errors      : Counter
  late        : Counter
  deriving DecidableEq, Repr

/-- A queued poll entry (6.3). `stamp` is the oscillator count of its trigger, by which the queue is ordered. -/
structure Queued where
  entry     : Fin 8
  trigger   : Time
  stamp     : Nat
  timeUnset : Bool
  decimated : Bool
  late      : Bool
  deriving DecidableEq, Repr

/-- A poll transaction in progress: the queued entry and the copy of its settings taken at the start (R108). -/
structure PollWork where
  q   : Queued
  cfg : PollCfg
  deriving DecidableEq, Repr

/-- State of a sensor bus (R102). -/
inductive BusState
  | idle | busy | recovering | fault
  deriving DecidableEq, Repr

/-- Cause of a recovery (R116). -/
inductive Cause
  | lineLow | stretch | relayAbort | command | retry
  deriving DecidableEq, Repr

/-- A recovery in progress; `forRelay` says that it was started for a relay phase's line check (R118). -/
structure Recovery where
  cause    : Cause
  forRelay : Bool
  deriving DecidableEq, Repr

/-- A sensor bus with its work and due queue. SERIAL4 never holds a recovery, a pending recovery or a retry timer. -/
structure BusCtl where
  state      : BusState
  poll       : Option PollWork
  queue      : List Queued
  recovery   : Option Recovery
  recPending : Option Cause
  retryAt    : Option Nat
  deriving DecidableEq, Repr

/-- Phase of a relay (R118). -/
inductive RelayPhase
  | waiting | write | wait | read | probe
  deriving DecidableEq, Repr

/-- The relay handed to the motion unit. Phase `waiting` is relay state WAITING, every other is RUNNING; `waitEnd` is the
oscillator count at which the wait phase ends. -/
structure Relay where
  bus        : Bus
  device     : Nat
  writeBytes : List Byte
  readLen    : Nat
  waitAfter  : Nat
  phase      : RelayPhase
  waitEnd    : Nat
  deriving DecidableEq, Repr

/-- Raw or head axis choice (R110). -/
inductive Axis
  | x | y | z
  deriving DecidableEq, Repr

/-- Axis and sign of one head axis; `minus` is sign MINUS (R110). -/
structure AxisMap where
  axis  : Axis
  minus : Bool
  deriving DecidableEq, Repr

/-- Writable fields of the mount table (R110). -/
structure MountCfg where
  gain  : Nat
  yaw   : AxisMap
  pitch : AxisMap
  roll  : AxisMap
  deriving DecidableEq, Repr

/-- Sensor class (R120). -/
inductive SensorClass
  | full | reduced | suspended
  deriving DecidableEq, Repr

/-- An entry of the gyro history (R112), rates in mrad/s. -/
structure GyroEntry where
  time  : Time
  yaw   : Int
  pitch : Int
  roll  : Int
  deriving DecidableEq, Repr

/-- A sensor record in the FIFO (6.5). `joined` is the oscillator count at which its age began. -/
structure SensorRec where
  kind      : PollKind
  entry     : Fin 8
  timeUnset : Bool
  gap       : Bool
  decimated : Bool
  late      : Bool
  time      : Time
  payload   : List Byte
  joined    : Nat
  deriving DecidableEq, Repr

/-- State of the motion unit. `lineSamples` counts the samplings of the two-wire data line: it indexes the free value
`Config.twoWireDataLow` (log entry 8). -/
structure Mou where
  poll             : Vector PollEntry 8
  mountWritten     : MountCfg
  mountForce       : MountCfg
  saturations      : Counter
  watermark        : Nat
  flushTimeout     : Nat
  sensorPower      : Nat
  sensorClass      : SensorClass
  serial4          : BusCtl
  twoWire          : BusCtl
  relay            : Option Relay
  history          : List GyroEntry
  fifo             : List SensorRec
  records          : Counter
  fifoDrops        : Counter
  flushed          : Counter
  batches          : Counter
  historyRejects   : Counter
  recoveries       : Counter
  recoveryFailures : Counter
  lineSamples      : Nat
  deriving DecidableEq, Repr

/-! ### Late shift unit (chapter 7) -/

/-- One panel's fields of the shift table (R122). -/
structure ShiftSide where
  kx     : Nat
  ky     : Nat
  limX   : Nat
  limY   : Nat
  minusX : Bool
  minusY : Bool
  deriving DecidableEq, Repr

/-- Writable fields of the shift table (R122). -/
structure ShiftCfg where
  enable : Bool
  sides  : Duo ShiftSide
  deriving DecidableEq, Repr

/-- State of the late shift unit. -/
structure Lsu where
  written            : ShiftCfg
  inForce            : ShiftCfg
  evaluations        : Counter
  noPoseFrames       : Counter
  poseAheadFrames    : Counter
  shortHistoryFrames : Counter
  clampedFrames      : Counter
  deriving DecidableEq, Repr

/-! ### Audio unit (chapter 8) -/

/-- One stereo frame (R136). -/
structure Stereo where
  left  : Sample
  right : Sample
  deriving DecidableEq, Repr

/-- An audio block: 32 stereo frames (R136). -/
abbrev Block := List Stereo

/-- Playout state (R138). -/
inductive AudioState
  | stopped | filling | playing
  deriving DecidableEq, Repr

/-- The microphone block being built (R149). -/
structure MicBlock where
  time    : Time
  samples : List Sample
  deriving DecidableEq, Repr

/-- State of the audio unit. `frameIdx` is the index of the next output frame in its period (32: the period is over) and
`frameAt` the moment it is due, in 1/128 of an oscillator tick; `micPhase` and `micDue` form the microphone's third
(R141, R149). `playout` is the block in playout, `dac` the frame sent to the DAC port last. -/
structure Auu where
  fillTarget      : Nat
  volume          : Nat
  mute            : Bool
  ampPower        : Nat
  micOn           : Bool
  state           : AudioState
  owner           : Nat
  buffer          : List Block
  playout         : Option Block
  idleAt          : Option Nat
  servoF          : Int
  periodF         : Int
  gain            : Nat
  cap             : Nat
  frameIdx        : Nat
  frameAt         : Nat
  dacLeft         : Int
  dacRight        : Int
  micPhase        : Nat
  micDue          : Bool
  mic             : Option MicBlock
  blocks          : Counter
  foreignBlocks   : Counter
  lateBlocks      : Counter
  malformedBlocks : Counter
  silenceBlocks   : Counter
  gapFlushes      : Counter
  overruns        : Counter
  underruns       : Counter
  idleStops       : Counter
  micBlocks       : Counter
  deriving DecidableEq, Repr

/-! ### Pattern engine (chapter 9) -/

/-- Envelope of a step (R157). -/
inductive Envelope
  | flat | rise | fall
  deriving DecidableEq, Repr

/-- A step of the pattern table (R153); `next` none is END. -/
structure Step where
  halfPeriod : Nat
  level      : Nat
  envelope   : Envelope
  duration   : Nat
  next       : Option (Fin 48)
  deriving DecidableEq, Repr

/-- A pattern in progress on a channel (9.2). `began` is the oscillator count at which the step began and `reversed` that
of the last reversal or the step's beginning (R158). -/
structure Pattern where
  priority   : Nat
  budgetLeft : Nat
  stepsBegun : Nat
  step       : Fin 48
  copy       : Step
  elapsed    : Nat
  level      : Nat
  negative   : Bool
  began      : Nat
  reversed   : Nat
  deriving DecidableEq, Repr

/-- Bridge state (9.5). -/
inductive BridgeState
  | idle | driving | held
  deriving DecidableEq, Repr

/-- State of the pattern engine. `carrierAt` is the oscillator count of the next carrier period start, `periodStart` that
of the period in progress and `onLevel` its on-time in 1/255 of the period (R164); `deadEnd` is the end of a dead time
in progress. -/
structure Pte where
  steps       : Vector Step 48
  hapticPower : Nat
  deadTime    : Nat
  chanT       : Option Pattern
  chanH       : Option Pattern
  bridge      : BridgeState
  capHanded   : Nat
  capForce    : Nat
  carrierAt   : Nat
  periodStart : Nat
  onLevel     : Nat
  hp          : Bool
  hn          : Bool
  deadEnd     : Option Nat
  deriving DecidableEq, Repr

/-! ### Power manager (chapter 10) -/

/-- Writable fields of the power table (R167). -/
structure PowerCfg where
  limit      : Nat
  reserve    : Nat
  vWarn      : Nat
  vShed      : Nat
  vTrip      : Nat
  hysteresis : Nat
  iMax       : Nat
  protect    : Bool
  deriving DecidableEq, Repr

/-- Power state (10.3). -/
inductive PowerState
  | held | normal | constrained | shed | trip
  deriving DecidableEq, Repr

/-- Load state (R181). -/
inductive LoadState
  | off | full | reduced | shed
  deriving DecidableEq, Repr

/-- A load (R177). `switch` is the written switch, used in entry 7 (AUX). -/
structure Load where
  priority : Nat
  floor    : Nat
  switch   : Bool
  request  : Nat
  grant    : Nat
  state    : LoadState
  sheds    : Counter
  deriving DecidableEq, Repr

/-- One supply measurement (R168). -/
structure Sense where
  mv : Nat
  ma : Nat
  deriving DecidableEq, Repr

/-- State of the power manager. -/
structure Pmg where
  cfg          : PowerCfg
  state        : PowerState
  budget       : Nat
  latest       : Sense
  filtered     : Sense
  window       : List Sense
  overCount    : Nat
  underCount   : Nat
  recoverCount : Nat
  hold         : Bool
  trips        : Counter
  currentHolds : Counter
  stateChanges : Counter
  loads        : Vector Load 8
  ceilings     : Duo Nat
  auxOn        : Bool
  deriving DecidableEq, Repr

/-! ### Event unit (chapter 11) -/

/-- The 28 event kinds, in order of their numbers (11.1). -/
inductive EventKind
  | linkLock | linkUnlock | passLost | passRegained | timeSet | timeStep | timeFault | timeLost
  | displayLock | displayUnlock | frameRenumber | frameReport | missingLines | shiftClamped | historyShort
  | fifoOverflow | pollError | busFault | busRecovered | audioUnderrun | audioOverrun | audioGap
  | powerState | grantChange | patternDone | sidebandChange | imageStatus | mgmtDropped
  deriving DecidableEq, Repr

/-- An entry of the event table (R184); its queued field is computed from the NOTICE queue. -/
structure EventEntry where
  enable      : Bool
  priority    : Nat
  coalesce    : Bool
  occurrences : Counter
  lost        : Counter
  deriving DecidableEq, Repr

/-- A notice (R186). -/
structure Notice where
  kind      : EventKind
  priority  : Nat
  count     : Nat
  timeUnset : Bool
  time      : Time
  detail    : List Byte
  deriving DecidableEq, Repr

/-- State of the event unit: the event table and the NOTICE queue, head first (R188). -/
structure Evu where
  table : Vector EventEntry 28
  queue : List Notice
  deriving DecidableEq, Repr

/-! ### The whole part -/

/-- The state of the part and the queue of commands waiting for it, first in first out. -/
structure State where
  pending : List Instr
  hold    : ResetHold
  clock   : Clock
  lrx     : Lrx
  ltx     : Ltx
  stu     : Stu
  mrs     : Mrs
  cfl     : Cfl
  ftm     : Ftm
  pxp     : Pxp
  mou     : Mou
  lsu     : Lsu
  auu     : Auu
  pte     : Pte
  pmg     : Pmg
  evu     : Evu
  deriving DecidableEq, Repr

/-! ### Reset values -/

/-- LRX after power-on reset (R5, R7, R8, R9, R16, R24). -/
def Lrx.reset : Lrx :=
  { lock := .search, goodCount := 0, badCount := 0, nextHeader := 0, cell := none, pass := false, winCells := 0
    winErrors := 0, passThreshold := 16, linkDelay := 0, tt := 0, timeState := .unset, deficit := 0, faults := 0
    slewHalf := false, testMode := false, badHeaders := 0, badKinds := 0, badPayloads := 0, unlockedDiscards := 0
    badSyncs := 0, targetsDropped := 0, testCells := 0, testBitErrors := 0 }

/-- LTX after power-on reset and after RESTART (R18, R20 to R23). -/
def Ltx.reset : Ltx :=
  { reply := [], motion := [], voice := [], seq := Vector.replicate 4 0, fairness := 0, testSeq := 0, tx := none
    voiceDrops := 0 }

/-- A steering window at its Reset values (R25). -/
def Window.reset : Window := { enable := false, base := 0, mask := 0, destination := .discard }

/-- A stream status entry at its Reset values (R28). -/
def StreamEntry.reset : StreamEntry :=
  { tracking := false, lastSeq := 0, gapPending := false, goodCells := 0, gaps := 0, badPcrc := 0, unsteered := 0
    kindMismatches := 0 }

/-- A side-band entry at its Reset values (R32). -/
def Line.reset : Line := { source := .input, bit := 0, policy := .hold, defaultLevel := false, pulse := false }

/-- STU after power-on reset (R25, R28, R32, R33). The pin levels are the model's choice: log entry 25. -/
def Stu.reset : Stu :=
  { written := Vector.replicate 8 Window.reset, inForce := Vector.replicate 8 Window.reset
    streams := Vector.replicate 32 StreamEntry.reset, lines := Vector.replicate 6 Line.reset
    word := 0, wordCurrent := false, pins := Vector.replicate 6 false }

/-- MRS after power-on reset and after RESTART (R44, R52). -/
def Mrs.reset : Mrs :=
  { slot := none, restartPending := false, requestsTaken := 0, requestsDropped := 0, badPos := 0 }

/-- CFL after power-on reset and after RESTART: LOADING, pass 1, position 0 (R44, R56). -/
def Cfl.reset : Cfl :=
  { state := .loading, pass := 1, position := 0, version := 0, length := 0, check := 0, applied := 0, adjusted := 0
    skipped := 0, firstSkipped := 0 }

/-- The frame timer table's Reset column (R59). -/
def FtCfg.reset : FtCfg := { linked := false, period := 11111, phaseStep := 20, lockWindow := 50, shiftLead := 500 }

/-- No flag set. -/
def RecFlags.none : RecFlags :=
  { noPose := false, poseAhead := false, historyShort := false, clamped := false, lateEval := false, cutA := false
    cutB := false, incomplete := false }

/-- The exposure table's Reset column (R75). -/
def ExpCfg.reset : ExpCfg := { enable := false, aEnd := false, offset := 0, width := 100, divider := 1, line := 6 }

/-- An exposure generator after reset (R60, R75). -/
def Generator.reset : Generator :=
  { written := ExpCfg.reset, inForce := ExpCfg.reset, state := .idle, startAt := 0, endAt := 0, pulseLine := 6
    frame := 0, crossed := false, pulses := 0, suppressed := 0 }

/-- FTM after power-on reset and after RESTART (R60). -/
def Ftm.reset : Ftm :=
  { written := FtCfg.reset, inForce := FtCfg.reset, schedule := .idle, scanFrame := none, sF := 0, sNext := 0
    renumber := none, display := .free, inCount := 0, outCount := 0, noTarget := 0, targetTaken := false
    lastPhaseError := 0, frameStarts := 0, extraTargets := 0, upcoming := none, scanning := none, done := none
    pendingPanels := ⟨false, false⟩, gens := ⟨Generator.reset, Generator.reset⟩, pulseEnd := none }

/-- The panel table's Reset column (R79). -/
def PanelCfg.reset : PanelCfg :=
  { enable := false, width := 1440, height := 1600, linePeriod := 600, repeatFill := false, brightness := 0
    fullPower := 1000, strobeOffset := 0, maxWidth := 2000 }

/-- A panel after power-on reset and after RESTART (R79, R81, 5.6). -/
def PanelState.reset : PanelState :=
  { written := PanelCfg.reset, inForce := PanelCfg.reset, scan := .off, pos := 0, scanStart := 0, shift := ⟨0, 0⟩
    ring := [], lastLine := none, ceiling := 0, strobe := .idle, strobeAt := 0, strobeEnd := 0, strobeWidth := 0
    missingLines := 0, earlyLines := 0, staleLines := 0, cutLines := 0, noScanLines := 0, malformedSlices := 0
    noContextSlices := 0, orphanCells := 0 }

/-- PXP after power-on reset and after RESTART (R83). -/
def Pxp.reset : Pxp :=
  { panels := ⟨PanelState.reset, PanelState.reset⟩, contexts := Vector.replicate 4 none }

/-- The poll table's Reset column (R104). -/
def PollCfg.reset : PollCfg :=
  { enable := false, bus := .serial4, device := 0, startRegister := 0, length := 1, ready := false, readyLine := 0
    period := 4, decimate := 1, kind := .raw, big := false, toFifo := true }

/-- A poll entry after reset (R104). -/
def PollEntry.reset : PollEntry :=
  { cfg := PollCfg.reset, periodForce := 4, dueAt := none, edgeCount := 0, samples := 0, overruns := 0, errors := 0
    late := 0 }

/-- A sensor bus after reset (R102). -/
def BusCtl.reset : BusCtl :=
  { state := .idle, poll := none, queue := [], recovery := none, recPending := none, retryAt := none }

/-- The mount table's Reset column (R110). -/
def MountCfg.reset : MountCfg := { gain := 16384, yaw := ⟨.z, false⟩, pitch := ⟨.x, false⟩, roll := ⟨.y, false⟩ }

/-- MOU after power-on reset and after RESTART (R102, R110, R112, R115, R120, R121). -/
def Mou.reset : Mou :=
  { poll := Vector.replicate 8 PollEntry.reset, mountWritten := MountCfg.reset, mountForce := MountCfg.reset
    saturations := 0, watermark := 8, flushTimeout := 2000, sensorPower := 150, sensorClass := .suspended
    serial4 := BusCtl.reset, twoWire := BusCtl.reset, relay := none, history := [], fifo := [], records := 0
    fifoDrops := 0, flushed := 0, batches := 0, historyRejects := 0, recoveries := 0, recoveryFailures := 0
    lineSamples := 0 }

/-- One panel's fields of the shift table's Reset column (R122). -/
def ShiftSide.reset : ShiftSide := { kx := 0, ky := 0, limX := 0, limY := 0, minusX := false, minusY := false }

/-- The shift table's Reset column (R122). -/
def ShiftCfg.reset : ShiftCfg := { enable := false, sides := ⟨ShiftSide.reset, ShiftSide.reset⟩ }

/-- LSU after power-on reset and after RESTART (R122). -/
def Lsu.reset : Lsu :=
  { written := ShiftCfg.reset, inForce := ShiftCfg.reset, evaluations := 0, noPoseFrames := 0, poseAheadFrames := 0
    shortHistoryFrames := 0, clampedFrames := 0 }

/-- AUU after power-on reset (R135, R138, R145, R147, R148, R150). The phase of the frame clock is the model's choice: log
entry 20. -/
def Auu.reset : Auu :=
  { fillTarget := 6, volume := 0, mute := false, ampPower := 500, micOn := false, state := .stopped, owner := 0
    buffer := [], playout := none, idleAt := none, servoF := 0, periodF := 0, gain := 0, cap := 0, frameIdx := 32
    frameAt := 0, dacLeft := 0, dacRight := 0, micPhase := 0, micDue := false, mic := none, blocks := 0
    foreignBlocks := 0, lateBlocks := 0, malformedBlocks := 0, silenceBlocks := 0, gapFlushes := 0, overruns := 0
    underruns := 0, idleStops := 0, micBlocks := 0 }

/-- The pattern table's Reset column (R153). -/
def Step.reset : Step := { halfPeriod := 48, level := 0, envelope := .flat, duration := 1, next := none }

/-- PTE after power-on reset (R153, R154, R163). -/
def Pte.reset : Pte :=
  { steps := Vector.replicate 48 Step.reset, hapticPower := 800, deadTime := 2, chanT := none, chanH := none
    bridge := .idle, capHanded := 0, capForce := 0, carrierAt := 0, periodStart := 0, onLevel := 0, hp := false
    hn := false, deadEnd := none }

/-- The power table's Reset column (R167). -/
def PowerCfg.reset : PowerCfg :=
  { limit := 2500, reserve := 500, vWarn := 4600, vShed := 4400, vTrip := 4100, hysteresis := 100, iMax := 1600
    protect := false }

/-- A load after reset with its own priority and floor (R177, R181). -/
def Load.reset (priority floor : Nat) : Load :=
  { priority := priority, floor := floor, switch := false, request := 0, grant := 0, state := .off, sheds := 0 }

/-- PMG after power-on reset and after RESTART (R167, R168, R170, R176, R177, R183). -/
def Pmg.reset : Pmg :=
  { cfg := PowerCfg.reset, state := .held, budget := 0, latest := ⟨0, 0⟩, filtered := ⟨0, 0⟩, window := []
    overCount := 0, underCount := 0, recoverCount := 0, hold := false, trips := 0, currentHolds := 0
    stateChanges := 0
    loads := #v[Load.reset 7 900, Load.reset 7 900, Load.reset 5 200, Load.reset 5 200, Load.reset 4 50,
      Load.reset 2 0, Load.reset 6 70, Load.reset 1 300]
    ceilings := ⟨0, 0⟩, auxOn := false }

/-- An event entry at its Reset values, from its row of the kind table (11.1, R184). -/
def EventEntry.reset (enable : Bool) (priority : Nat) (coalesce : Bool) : EventEntry :=
  { enable := enable, priority := priority, coalesce := coalesce, occurrences := 0, lost := 0 }

/-- EVU after power-on reset and after RESTART (R184, R190). -/
def Evu.reset : Evu :=
  { table := #v[
      EventEntry.reset true 2 true, EventEntry.reset true 3 true, EventEntry.reset true 2 true,
      EventEntry.reset true 1 true, EventEntry.reset true 2 true, EventEntry.reset true 2 true,
      EventEntry.reset true 2 true, EventEntry.reset true 3 true, EventEntry.reset true 1 true,
      EventEntry.reset true 2 true, EventEntry.reset true 1 true, EventEntry.reset false 0 false,
      EventEntry.reset true 1 true, EventEntry.reset true 1 true, EventEntry.reset true 1 true,
      EventEntry.reset true 1 true, EventEntry.reset true 1 true, EventEntry.reset true 3 true,
      EventEntry.reset true 1 true, EventEntry.reset true 1 true, EventEntry.reset true 1 true,
      EventEntry.reset true 0 true, EventEntry.reset true 3 true, EventEntry.reset true 2 true,
      EventEntry.reset true 2 false, EventEntry.reset true 2 true, EventEntry.reset true 3 true,
      EventEntry.reset true 3 true]
    queue := [] }

/-- The part right after power-on reset, with no command waiting: every block at its reset values, the loader at the
start of pass 1, the power state HELD (R56, R169, R193). -/
def State.reset : State :=
  { pending := [], hold := ⟨false, false⟩, clock := { osc := 0, usAcc := 0, measAt := 24576 }
    lrx := Lrx.reset, ltx := Ltx.reset, stu := Stu.reset, mrs := Mrs.reset, cfl := Cfl.reset, ftm := Ftm.reset
    pxp := Pxp.reset, mou := Mou.reset, lsu := Lsu.reset, auu := Auu.reset, pte := Pte.reset, pmg := Pmg.reset
    evu := Evu.reset }

end Sys2Proof.Machine
end

