-- ==== Sys2Proof/Machine/Arith.lean ====
section
/-! DEFINITION. The conventions of spec 0.5 in numbers: modular comparison of times, saturating counters, clamping, the
three roundings, bytes of words, and the length of an interval in ticks of the part's own oscillator (12.6). -/

namespace Sys2Proof.Machine

open Sys2Proof

/-- The modular difference `a − b` of two tether times, read as signed (0.5). -/
def tdiff (a b : Time) : Int := (a - b).toInt

/-- Tether time has reached `t`: `t − now`, read as signed, is no longer positive (R62). -/
def reached (now t : Time) : Bool := decide (tdiff t now ≤ 0)

/-- `a` is before `b`: `b − a` is positive (0.5). -/
def before (a b : Time) : Bool := decide (0 < tdiff b a)

/-- A tether time moved by a signed number of microseconds. -/
def tadd (t : Time) (d : Int) : Time := t + BitVec.ofInt 32 d

/-- The largest value of a 32-bit counter. -/
def counterMax : Nat := 4294967295

/-- A 32-bit saturating counter raised by `k` (0.5). -/
def satAdd (n k : Nat) : Nat := min (n + k) counterMax

/-- A 32-bit saturating counter raised by 1 (0.5). -/
def satInc (n : Nat) : Nat := satAdd n 1

/-- A value limited to the stated bounds (0.5, "clamp" and "saturate"). -/
def clampInt (lo hi x : Int) : Int := max lo (min hi x)

/-- Division rounded toward plus infinity (0.5, "ceil"). -/
def ceilDiv (a b : Nat) : Nat := (a + b - 1) / b

/-- Division rounded to the nearest integer, halves away from zero (0.5, "round"). -/
def roundDiv (n : Int) (d : Nat) : Int :=
  if n < 0 then -(((2 * n.natAbs + d) / (2 * d) : Nat) : Int) else (((2 * n.natAbs + d) / (2 * d) : Nat) : Int)

/-- Oscillator ticks in a millisecond: 24.576 MHz (12.6). -/
def msTicks : Nat := 24576

/-- The first whole number of oscillator ticks at or after `us` microseconds: 24.576 ticks each. -/
def usTicks (us : Nat) : Nat := ceilDiv (us * 3072) 125

/-- The first whole number of oscillator ticks at or after `y` line periods of `period` × 10 ns (R93): 0.24576 ticks in
10 ns. -/
def lineTicks (y period : Nat) : Nat := ceilDiv (y * period * 768) 3125

/-- The `k` low bytes of a number, least significant first (0.5). -/
def leBytes : Nat → Nat → List Byte
  | 0, _ => []
  | k + 1, n => BitVec.ofNat 8 n :: leBytes k (n / 256)

/-- The `k` low bytes of the two's complement of an integer, least significant first. -/
def leBytesInt (k : Nat) (x : Int) : List Byte := leBytes k (x % (2 ^ (8 * k) : Nat)).toNat

/-- The number whose bytes are given least significant first. -/
def ofLe : List Byte → Nat
  | [] => 0
  | b :: bs => b.toNat + 256 * ofLe bs

/-- Payload bytes read as 32-bit words, least significant byte first; a last partial word is filled with zeros. -/
def wordsOf : Nat → List Byte → List Word
  | 0, _ => []
  | _, [] => []
  | k + 1, bs => BitVec.ofNat 32 (ofLe (bs.take 4)) :: wordsOf k (bs.drop 4)

/-- The bytes of words, each least significant byte first. -/
def bytesOf (ws : List Word) : List Byte := ws.flatMap fun w => leBytes 4 w.toNat

/-- Zero bytes appended up to a whole number of words (R192). -/
def padWord (bs : List Byte) : List Byte := bs ++ List.replicate ((4 - bs.length % 4) % 4) 0

/-- A number as a field word. -/
def fw (n : Nat) : Word := BitVec.ofNat 32 n

/-- A signed number as a field word, in two's complement. -/
def fwInt (x : Int) : Word := BitVec.ofInt 32 x

/-- A flag as a field word. -/
def fwBool (b : Bool) : Word := if b then 1 else 0

/-- A flag as a number. -/
def bit (b : Bool) : Nat := if b then 1 else 0

end Sys2Proof.Machine
end

