-- ==== Sys2Proof/Machine/Flags.lean ====
section
/-! DEFINITION. Flag sets as the formats carry them: the FRAME_LOG flags and present mask (R74), a sensor record's flag
byte and a notice's header byte (12.4). -/

namespace Sys2Proof.Machine

open Sys2Proof

/-- The FRAME_LOG flags word: the sum of the values of the flags set (R74). -/
def RecFlags.sum (f : RecFlags) : Nat :=
  bit f.noPose * 1 + bit f.poseAhead * 2 + bit f.historyShort * 4 + bit f.clamped * 8 + bit f.lateEval * 16
    + bit f.cutA * 32 + bit f.cutB * 64 + bit f.incomplete * 128

/-- The present mask of a frame record: pose time 1, evaluation 2, strobe width A 4, strobe width B 8 (R74). -/
def FrameRec.present (r : FrameRec) : Nat :=
  bit r.pose.isSome * 1 + bit r.evalTime.isSome * 2 + bit r.strobe.a.isSome * 4 + bit r.strobe.b.isSome * 8

/-- The flag byte of a sensor record: bit 0 TIME_UNSET, bit 1 GAP, bit 2 DECIMATED, bit 3 LATE (12.4). -/
def SensorRec.flagByte (r : SensorRec) : Nat :=
  bit r.timeUnset * 1 + bit r.gap * 2 + bit r.decimated * 4 + bit r.late * 8

/-- Byte 3 of a notice: detail length in bits 0 to 5, TIME_UNSET in bit 7 (12.4). -/
def Notice.lengthByte (n : Notice) : Nat := n.detail.length % 64 + bit n.timeUnset * 128

end Sys2Proof.Machine
end

