-- ==== Sys2Proof/Machine/Formats.lean ====
section
/-! DEFINITION. Checks and layouts of chapter 12: the two CRCs, the test pattern, cell headers, cells as sent, notices,
sensor records and microphone blocks as payload bytes. -/

namespace Sys2Proof.Machine

open Sys2Proof

/-- One bit into a check register: the remainder of the polynomial division (R191). -/
def crcBit {n : Nat} (poly r : BitVec n) (b : Bool) : BitVec n :=
  if r.msb != b then (r <<< 1) ^^^ poly else r <<< 1

/-- One byte into a check register, from its bit 7 to its bit 0 (R191). -/
def crcByte {n : Nat} (poly r : BitVec n) (b : Byte) : BitVec n :=
  [7, 6, 5, 4, 3, 2, 1, 0].foldl (fun r k => crcBit poly r (b.getLsbD k)) r

/-- HCHK over header bytes: polynomial x^8+x^2+x+1, starting at all ones (1.1, R191). -/
def hchk (bs : List Byte) : BitVec 8 := bs.foldl (crcByte 0x07#8) 0xFF#8

/-- PCRC, also the image check: polynomial x^16+x^12+x^5+1, starting at all ones (1.1, 3.9, R191). -/
def pcrc (bs : List Byte) : BitVec 16 := bs.foldl (crcByte 0x1021#16) 0xFFFF#16

/-- One step of the test pattern's shift register: the new bit is the exclusive-or of bits 0, 2, 3 and 5 and enters bit
15 as the state moves one place toward bit 0 (R17). -/
def lfsrStep (x : BitVec 16) : BitVec 16 :=
  let b := x.getLsbD 0 ^^ x.getLsbD 2 ^^ x.getLsbD 3 ^^ x.getLsbD 5
  (x >>> 1) ||| (if b then 0x8000#16 else 0#16)

/-- Eight steps of the test pattern. -/
def lfsrByte (x : BitVec 16) : BitVec 16 :=
  lfsrStep (lfsrStep (lfsrStep (lfsrStep (lfsrStep (lfsrStep (lfsrStep (lfsrStep x)))))))

/-- `n` payload bytes of the test pattern from a state: byte k is the low 8 bits after 8 × (k+1) steps (R17). -/
def patternFrom : Nat → BitVec 16 → List Byte
  | 0, _ => []
  | n + 1, x => (lfsrByte x).setWidth 8 :: patternFrom n (lfsrByte x)

/-- The first `n` payload bytes of the test pattern for a sequence number: seed 0xB400 exclusive-or SEQ × 257 (R17). -/
def testPattern (n : Nat) (seq : Byte) : List Byte :=
  patternFrom n (0xB400#16 ^^^ BitVec.ofNat 16 (seq.toNat * 257))

/-- Number of bits set in a byte. -/
def byteOnes (b : Byte) : Nat := ((List.range 8).map fun k => bit (b.getLsbD k)).sum

/-- Number of differing bits of two byte strings, compared byte by byte (R17). -/
def bitErrors (xs ys : List Byte) : Nat := ((List.zipWith (fun x y => byteOnes (x ^^^ y)) xs ys)).sum

/-- KIND as the header carries it; codes 5 to 7 are undefined (12.1). -/
def CellKind.ofCode (n : Nat) : Option CellKind :=
  match n with
  | 0 => some .idle
  | 1 => some .data
  | 2 => some .mgmt
  | 3 => some .sync
  | 4 => some .test
  | _ => none

/-- Code of a KIND (12.1). -/
def CellKind.code : CellKind → Nat
  | .idle => 0
  | .data => 1
  | .mgmt => 2
  | .sync => 3
  | .test => 4

/-- POS as the header carries it (12.1). -/
def Pos.ofCode (n : Nat) : Pos :=
  match n with
  | 0 => .first
  | 1 => .mid
  | 2 => .last
  | _ => .only

/-- What a header's bytes 0 to 2 say: SN, KIND if defined, SEQ, LEN, POS (12.1). The spare bit is not read (R191). -/
def readHeader (b0 b1 b2 : Byte) (locked : Bool) : Option RxCell :=
  (CellKind.ofCode (b0.toNat / 32)).map fun k =>
    { sn := Fin.ofNat 32 b0.toNat, kind := k, seq := b1, len := b2.toNat % 32 + 1
      pos := Pos.ofCode (b2.toNat / 32 % 4), locked := locked }

/-- A U-lane cell as sent: header with HCHK, LEN payload words, PCRC low byte first; POS is ONLY (12.1, R20, R23, R191). -/
def cellWire (sn : Nat) (k : CellKind) (seq : Byte) (payload : List Byte) : List Byte :=
  let h := [BitVec.ofNat 8 (sn + 32 * k.code), seq, BitVec.ofNat 8 (payload.length / 4 - 1 + 96)]
  h ++ [hchk h] ++ payload ++ leBytes 2 (pcrc payload).toNat

/-- STATUS codes (R40). -/
def Status.code : Status → Nat
  | .ok => 0
  | .okAdjusted => 1
  | .badOp => 2
  | .badTable => 3
  | .badIndex => 4
  | .badLength => 5
  | .badValue => 6
  | .readOnly => 7
  | .isProtected => 8
  | .busy => 9
  | .timeout => 10
  | .busError => 11

/-- A reply record as payload bytes (12.2). -/
def Reply.payload (r : Reply) : List Byte :=
  [r.tag, BitVec.ofNat 8 r.status.code, r.table, r.count, r.index, 0, 0, 0] ++ bytesOf r.data

/-- Number of an event kind (11.1). -/
def EventKind.code : EventKind → Fin 28
  | .linkLock => 0
  | .linkUnlock => 1
  | .passLost => 2
  | .passRegained => 3
  | .timeSet => 4
  | .timeStep => 5
  | .timeFault => 6
  | .timeLost => 7
  | .displayLock => 8
  | .displayUnlock => 9
  | .frameRenumber => 10
  | .frameReport => 11
  | .missingLines => 12
  | .shiftClamped => 13
  | .historyShort => 14
  | .fifoOverflow => 15
  | .pollError => 16
  | .busFault => 17
  | .busRecovered => 18
  | .audioUnderrun => 19
  | .audioOverrun => 20
  | .audioGap => 21
  | .powerState => 22
  | .grantChange => 23
  | .patternDone => 24
  | .sidebandChange => 25
  | .imageStatus => 26
  | .mgmtDropped => 27

/-- A notice as payload bytes (12.4). -/
def Notice.payload (n : Notice) : List Byte :=
  padWord ([BitVec.ofNat 8 n.kind.code.val, BitVec.ofNat 8 n.priority, BitVec.ofNat 8 n.count,
    BitVec.ofNat 8 n.lengthByte] ++ leBytes 4 n.time.toNat ++ n.detail)

/-- Code of a poll kind (R104, 12.4). -/
def PollKind.code : PollKind → Nat
  | .imu6 => 0
  | .mag3 => 1
  | .prox => 2
  | .raw => 3

/-- A sensor record as payload bytes (12.4). -/
def SensorRec.bytes (r : SensorRec) : List Byte :=
  padWord ([BitVec.ofNat 8 r.kind.code, BitVec.ofNat 8 r.entry.val, BitVec.ofNat 8 r.flagByte,
    BitVec.ofNat 8 r.payload.length] ++ leBytes 4 r.time.toNat ++ r.payload)

/-- A microphone block as payload bytes (12.4). -/
def MicBlock.payload (m : MicBlock) : List Byte :=
  leBytes 4 m.time.toNat ++ m.samples.flatMap fun x => leBytes 2 x.toNat

/-- An audio block's frames from its 128 payload bytes (R136). -/
def blockOf (bs : List Byte) : Block :=
  (List.range 32).map fun k =>
    { left := BitVec.ofNat 16 (ofLe ((bs.drop (4 * k)).take 2))
      right := BitVec.ofNat 16 (ofLe ((bs.drop (4 * k + 2)).take 2)) }

/-- A silence block: 32 frames of 0 (R136). -/
def silence : Block := List.replicate 32 ⟨0, 0⟩

end Sys2Proof.Machine
end

