-- ==== Sys2Proof/Machine/Ops.lean ====
section
/-! DEFINITION. The named operations over State that every block uses: one updater per block, the guard of a part held in
power-on reset, the saturating counters of a block, and raising an event (chapter 11). -/

namespace Sys2Proof.Machine

open Sys2Proof

/-- Change the clock. -/
def State.onClock (s : State) (f : Clock → Clock) : State := { s with clock := f s.clock }
/-- Change the link receiver. -/
def State.onLrx (s : State) (f : Lrx → Lrx) : State := { s with lrx := f s.lrx }
/-- Change the link transmitter. -/
def State.onLtx (s : State) (f : Ltx → Ltx) : State := { s with ltx := f s.ltx }
/-- Change the steering unit. -/
def State.onStu (s : State) (f : Stu → Stu) : State := { s with stu := f s.stu }
/-- Change the management responder. -/
def State.onMrs (s : State) (f : Mrs → Mrs) : State := { s with mrs := f s.mrs }
/-- Change the configuration loader. -/
def State.onCfl (s : State) (f : Cfl → Cfl) : State := { s with cfl := f s.cfl }
/-- Change the frame timer. -/
def State.onFtm (s : State) (f : Ftm → Ftm) : State := { s with ftm := f s.ftm }
/-- Change the picture path. -/
def State.onPxp (s : State) (f : Pxp → Pxp) : State := { s with pxp := f s.pxp }
/-- Change the motion unit. -/
def State.onMou (s : State) (f : Mou → Mou) : State := { s with mou := f s.mou }
/-- Change the late shift unit. -/
def State.onLsu (s : State) (f : Lsu → Lsu) : State := { s with lsu := f s.lsu }
/-- Change the audio unit. -/
def State.onAuu (s : State) (f : Auu → Auu) : State := { s with auu := f s.auu }
/-- Change the pattern engine. -/
def State.onPte (s : State) (f : Pte → Pte) : State := { s with pte := f s.pte }
/-- Change the power manager. -/
def State.onPmg (s : State) (f : Pmg → Pmg) : State := { s with pmg := f s.pmg }
/-- Change the event unit. -/
def State.onEvu (s : State) (f : Evu → Evu) : State := { s with evu := f s.evu }

/-- Change one panel. -/
def State.onPanel (s : State) (p : Side) (f : PanelState → PanelState) : State :=
  s.onPxp fun x => { x with panels := x.panels.modify p f }

/-- Change one exposure generator. -/
def State.onGen (s : State) (g : Side) (f : Generator → Generator) : State :=
  s.onFtm fun x => { x with gens := x.gens.modify g f }

/-- The element of a fixed table changed in place. -/
def tabMod {α : Type} {n : Nat} (v : Vector α n) (i : Fin n) (f : α → α) : Vector α n := v.set i (f v[i])

/-- Change one poll entry. -/
def State.onPoll (s : State) (e : Fin 8) (f : PollEntry → PollEntry) : State :=
  s.onMou fun m => { m with poll := tabMod m.poll e f }

/-- Change one stream status entry. -/
def State.onStream (s : State) (n : Fin 32) (f : StreamEntry → StreamEntry) : State :=
  s.onStu fun u => { u with streams := tabMod u.streams n f }

/-- Change one bus. -/
def State.onBus (s : State) (b : Bus) (f : BusCtl → BusCtl) : State :=
  s.onMou fun m => match b with
    | .serial4 => { m with serial4 := f m.serial4 }
    | .twoWire => { m with twoWire := f m.twoWire }

/-- A bus. -/
def State.bus (s : State) : Bus → BusCtl
  | .serial4 => s.mou.serial4
  | .twoWire => s.mou.twoWire

/-- A panel. -/
def State.panel (s : State) (p : Side) : PanelState := s.pxp.panels.get p

/-- Tether time now. -/
def State.now (s : State) : Time := s.lrx.tt

/-- Oscillator ticks now. -/
def State.osc (s : State) : Nat := s.clock.osc

/-- The part is held in power-on reset (R169, R193). -/
def State.held (s : State) : Bool := s.hold.supplyLow || s.hold.rstnLow

/-- What a command does to a part that is not held in power-on reset; a part that is held ignores every input (R193). -/
def State.live (s : State) (f : State → State) : State := if s.held then s else f s

/-! ### Raising an event (R185 to R189) -/

/-- The NOTICE queue's capacity (R188). -/
def noticeCapacity : Nat := 16

/-- A notice placed behind every notice of its own priority or higher and ahead of every lower one (R188). -/
def insertNotice (n : Notice) : List Notice → List Notice
  | [] => [n]
  | m :: ms => if m.priority < n.priority then n :: m :: ms else m :: insertNotice n ms

/-- The queue with the count of its first notice of a kind raised by 1, up to 255 (R185). -/
def foldNotice (k : EventKind) : List Notice → List Notice
  | [] => []
  | m :: ms => if m.kind = k then { m with count := min (m.count + 1) 255 } :: ms else m :: foldNotice k ms

/-- The queue holds a notice of the kind. -/
def hasNotice (k : EventKind) (q : List Notice) : Bool := q.any fun m => m.kind = k

/-- The lost counter of a kind raised (R189). -/
def Evu.loseKind (e : Evu) (k : EventKind) (n : Nat) : Evu :=
  { e with table := tabMod e.table k.code fun x => { x with lost := satAdd x.lost n } }

/-- A new notice offered to the queue: it enters while there is room; at a full queue it displaces the newest notice of
the lowest priority present when that is lower, and is counted lost otherwise (R188, R189). -/
def Evu.offerNotice (e : Evu) (n : Notice) : Evu :=
  if e.queue.length < noticeCapacity then { e with queue := insertNotice n e.queue }
  else match e.queue.getLast? with
    | some m =>
      if m.priority < n.priority then
        { e.loseKind m.kind m.count with queue := insertNotice n e.queue.dropLast }
      else e.loseKind n.kind 1
    | none => e.loseKind n.kind 1

/-- One occurrence of an event taken by the event unit at a tether time (R185). -/
def Evu.take (e : Evu) (k : EventKind) (detail : List Byte) (time : Time) (unset : Bool) : Evu :=
  let e1 : Evu := { e with table := tabMod e.table k.code fun x => { x with occurrences := satInc x.occurrences } }
  let x := e.table[k.code]
  if !x.enable then e1
  else if x.coalesce && hasNotice k e.queue then { e1 with queue := foldNotice k e.queue }
  else e1.offerNotice { kind := k, priority := x.priority, count := 1, timeUnset := unset, time := time, detail := detail }

/-- The time state is UNSET. -/
def State.timeUnset (s : State) : Bool := decide (s.lrx.timeState = .unset)

/-- A block raises an event at the event that causes it, with its detail (R185, R186). -/
def State.raise (s : State) (k : EventKind) (detail : List Byte) : State :=
  s.onEvu fun e => e.take k detail s.now s.timeUnset

end Sys2Proof.Machine
end

