-- ==== Sys2Proof/Machine/Channels.lean ====
section
/-! DEFINITION. The pattern engine's shared operations: steps and envelopes, the start and end of patterns, the haptic
bridge and its carrier (chapter 9). -/

namespace Sys2Proof.Machine

open Sys2Proof

/-- Envelope level of a step at an elapsed time in ms (R157). -/
def envelopeLevel (c : Step) (e : Nat) : Nat :=
  match c.envelope with
  | .flat => c.level
  | .rise => c.level * e / c.duration
  | .fall => c.level * (c.duration - e) / c.duration

/-- A step begun at a moment within a pattern: its copy is taken, elapsed is 0 and the polarity POSITIVE (R156). -/
def Pattern.beginStep (p : Pattern) (steps : Vector Step 48) (n : Fin 48) (moment : Nat) : Pattern :=
  { p with step := n, copy := steps[n], elapsed := 0, level := envelopeLevel steps[n] 0, negative := false
           began := moment, reversed := moment }

/-- A pattern as PLAY starts it (R155). -/
def startPattern (steps : Vector Step 48) (n : Fin 48) (priority budget osc : Nat) : Pattern :=
  { priority := priority, budgetLeft := budget - 1, stepsBegun := 1, step := n, copy := steps[n], elapsed := 0
    level := envelopeLevel steps[n] 0, negative := false, began := osc, reversed := osc }

/-- The pattern on a channel. -/
def Pte.chan (x : Pte) : Channel → Option Pattern
  | .t => x.chanT
  | .h => x.chanH

/-- A channel's pattern set. -/
def Pte.setChan (x : Pte) (c : Channel) (p : Option Pattern) : Pte :=
  match c with
  | .t => { x with chanT := p }
  | .h => { x with chanH := p }

/-- Why a pattern ends (R160). -/
inductive EndReason
  | done | budget | stopped | preempted | power
  deriving DecidableEq, Repr

/-- Code of an end reason (12.4). -/
def EndReason.code : EndReason → Nat
  | .done => 0
  | .budget => 1
  | .stopped => 2
  | .preempted => 3
  | .power => 4

/-- Code of a channel (R50, 12.4). -/
def Channel.code : Channel → Nat
  | .t => 0
  | .h => 1

/-- The bridge after channel H has stopped playing: HELD stays, otherwise IDLE (R160, R166). -/
def BridgeState.stopped : BridgeState → BridgeState
  | .held => .held
  | _ => .idle

/-- The bridge after channel H has started to play: HELD stays, otherwise DRIVING (R164, R166). -/
def BridgeState.started : BridgeState → BridgeState
  | .held => .held
  | _ => .driving

/-- The engine after the pattern of a channel has ended for a reason: on channel H both outputs are low at once (R160). A dead
time in progress runs on (R164). The on-time of the period in progress stays as fixed where another pattern begins at once
(R155, R164), and is 0 otherwise, so that a pattern started from IDLE drives from the next carrier period start (log entry 31). -/
def Pte.endChan (x : Pte) (c : Channel) (r : EndReason) : Pte :=
  match c with
  | .t => { x with chanT := none }
  | .h =>
    { x with
      chanH := none, bridge := x.bridge.stopped, hp := false, hn := false
      onLevel := if r = .preempted then x.onLevel else 0 }

/-- PATTERN_DONE detail (R160, 12.4). -/
def patternDetail (c : Channel) (r : EndReason) (p : Pattern) : List Byte :=
  leBytes 1 (Channel.code c) ++ leBytes 1 r.code ++ leBytes 1 p.step.val ++ leBytes 2 p.stepsBegun ++ leBytes 1 p.priority

/-- The end of the pattern on a channel for a reason; nothing happens on an IDLE channel (R160). The haptic load's request
is the caller's. -/
def State.endPattern (s : State) (c : Channel) (r : EndReason) : State :=
  match s.pte.chan c with
  | none => s
  | some p => (s.onPte fun x => x.endChan c r).raise .patternDone (patternDetail c r p)

/-- Entry to TRIP: both patterns end with reason POWER and the bridge is held low (R166). -/
def State.patternTrip (s : State) : State :=
  ((s.endPattern .t .power).endPattern .h .power).onPte fun x => { x with bridge := .held, hp := false, hn := false }

/-- The power state leaves TRIP: the bridge drives again if channel H is playing (R166). -/
def Pte.leaveTrip (x : Pte) : Pte := { x with bridge := if x.chanH.isSome then .driving else .idle }

/-- Ticks of a carrier period: 24 kHz (R162). -/
def carrierTicks : Nat := 1024

/-- The on-time of the period in progress has not run out at an oscillator count: onLevel / 255 of the period (R164). DESIGN
CHOICE: it ends at the first tick at or after its end (log entry 43). -/
def Pte.onAt (x : Pte) (osc : Nat) : Bool := decide ((osc - x.periodStart) * 255 < x.onLevel * carrierTicks)

/-- Channel H's polarity is NEGATIVE. -/
def Pte.negative (x : Pte) : Bool := (x.chanH.map Pattern.negative).getD false

/-- The outputs as the period's on-time gives them: the active side high while it runs, the other low (R164). -/
def Pte.drive (x : Pte) (osc : Nat) : Pte :=
  let on := x.onAt osc && decide (x.bridge = BridgeState.driving)
  { x with hp := on && !x.negative, hn := on && x.negative }

/-- A reversal on channel H: both outputs low at once for the dead time in force (R164). DESIGN CHOICE: the dead time ends at the
first tick at or after its end (log entry 43). -/
def Pte.reversal (x : Pte) (osc : Nat) : Pte :=
  { x with hp := false, hn := false, deadEnd := some (osc + usTicks x.deadTime) }

/-- A channel with a step just begun, POSITIVE, after the polarity stood NEGATIVE or not: on channel H the change from NEGATIVE
is a reversal (R158). -/
def Pte.turned (x : Pte) (c : Channel) (wasNegative : Bool) (osc : Nat) : Pte :=
  if c = .h ∧ wasNegative = true then x.reversal osc else x

/-- A pattern begun on a channel, after the polarity stood NEGATIVE or not (R155, R158, R164). -/
def Pte.play (x : Pte) (c : Channel) (n : Fin 48) (priority budget : Nat) (wasNegative : Bool) (osc : Nat) : Pte :=
  let p := startPattern x.steps n priority budget osc
  match c with
  | .t => { x with chanT := some p }
  | .h => ({ x with chanH := some p, bridge := x.bridge.started } : Pte).turned .h wasNegative osc

/-- A carrier period start: the cap handed comes into force and the on-time is fixed (R163, R164). -/
def Pte.carrier (x : Pte) (osc : Nat) : Pte :=
  let level := (x.chanH.map Pattern.level).getD 0
  let x1 := { x with
    capForce := x.capHanded
    periodStart := x.carrierAt
    carrierAt := x.carrierAt + carrierTicks
    onLevel := if x.bridge = BridgeState.driving then min level x.capHanded else 0 }
  if x1.deadEnd.isSome then { x1 with hp := false, hn := false } else x1.drive osc

/-- Oscillator count at which the step in progress ends (R156). -/
def Pattern.stepEndsAt (p : Pattern) : Nat := p.began + p.copy.duration * msTicks

/-- Oscillator count of the next polarity reversal; a half period is in units of 1/48,000 s (R158). -/
def Pattern.reversesAt (p : Pattern) : Nat := p.reversed + p.copy.halfPeriod * 512

/-- A step's duration has run (R156). -/
def Pattern.stepEndDue (p : Pattern) (osc : Nat) : Bool := decide (p.stepEndsAt ≤ osc)

/-- A whole millisecond of the step has passed and is not its last (R157). -/
def Pattern.elapsedDue (p : Pattern) (osc : Nat) : Bool :=
  decide (p.elapsed + 1 < p.copy.duration) && decide (p.began + (p.elapsed + 1) * msTicks ≤ osc)

/-- A half period has run within the step (R158). -/
def Pattern.reversalDue (p : Pattern) (osc : Nat) : Bool :=
  decide (p.reversesAt < p.stepEndsAt) && decide (p.reversesAt ≤ osc)

/-- The tone value channel T presents (R161). -/
def Pte.tone (x : Pte) : Int :=
  match x.chanT with
  | none => 0
  | some p => if p.negative then -((p.level * 64 : Nat) : Int) else ((p.level * 64 : Nat) : Int)

/-- The step after the one that ends begins, or the pattern ends DONE or BUDGET (R156). On channel H a step that begins
while the polarity is NEGATIVE makes a reversal (R158). -/
def State.patternStep (s : State) (c : Channel) (p : Pattern) : State :=
  match p.copy.next with
  | none => s.endPattern c .done
  | some n =>
    if p.budgetLeft = 0 then s.endPattern c .budget
    else
      let p1 := { p with budgetLeft := p.budgetLeft - 1, stepsBegun := p.stepsBegun + 1 }
      s.onPte fun x => (x.setChan c (some (p1.beginStep x.steps n p.stepEndsAt))).turned c p.negative s.osc

end Sys2Proof.Machine
end

