-- ==== Sys2Proof/Config.lean ====
section
/-! DEFINITION. What the spec leaves free. -/

namespace Sys2Proof.Config

/-- FREE VALUE. Whether the two-wire data line is found LOW at the n-th time the part samples it before a
transfer (R103, R118): the level is what the devices put there, and the spec gives no value. It has no body, so
nothing can be proved of it. Log entry 8. -/
opaque twoWireDataLow : Nat → Bool

end Sys2Proof.Config
end

