-- ==== Sys2Proof/Machine/Sensors.lean ====
section
/-! DEFINITION. The motion unit's shared operations: due queues and the start rule, recovery, the relay and its slot, gyro
conversion and history, the sample FIFO and its batches, the sensor class (chapter 6, R53). -/

namespace Sys2Proof.Machine

open Sys2Proof

/-! ### Relay slot (R53) -/

/-- The relay reply placed in the REPLY queue in its reserved place; the reservation ends and the slot is FREE. A reply OK
carries the read length as its COUNT and the bytes read, four to a word (R53). -/
def State.slotReply (s : State) (status : Status) (bytes : List Byte) : State :=
  match s.mrs.slot with
  | none => s
  | some k =>
    let ok := decide (status = .ok)
    (s.onMrs fun m => { m with slot := none }).onLtx fun t =>
      { t with reply := t.reply ++ [
          { tag := k.tag, status := status, table := 1
            count := if ok then BitVec.ofNat 8 k.readLen else k.count, index := k.index
            data := if ok then wordsOf ((k.readLen + 3) / 4) bytes else [], restart := false }] }

/-- The relay ends with an outcome handed to the slot; its relay state is NONE (R118). -/
def State.relayDone (s : State) (status : Status) (bytes : List Byte) : State :=
  (s.onMou fun m => { m with relay := none }).slotReply status bytes

/-! ### Bus work and the start rule (R102, R108, R116) -/

/-- A recovery starts on TWO_WIRE: the bus is RECOVERING, the recovery-pending mark is cleared, the retry timer is stopped
(R116, R117). -/
def State.startRecovery (s : State) (cause : Cause) (forRelay : Bool) : State :=
  s.onBus .twoWire fun c =>
    { c with state := .recovering, poll := none, recovery := some ⟨cause, forRelay⟩, recPending := none, retryAt := none }

/-- The two-wire data line, sampled now, is low: a free value (R103, log entry 8). -/
def State.dataLow (s : State) : Bool := Config.twoWireDataLow s.mou.lineSamples

/-- One more sampling of the two-wire data line has been made. -/
def State.sampled (s : State) : State := s.onMou fun m => { m with lineSamples := m.lineSamples + 1 }

/-- The relay's phase set. -/
def State.relayPhase (s : State) (ph : RelayPhase) : State :=
  s.onMou fun m => { m with relay := m.relay.map fun r => { r with phase := ph } }

/-- A relay phase that starts a transfer: on TWO_WIRE the data line is sampled first, and a low line starts a recovery
after which the phase proceeds (R118). -/
def State.beginTransfer (s : State) (b : Bus) (ph : RelayPhase) : State :=
  match b with
  | .serial4 => s.relayPhase ph
  | .twoWire =>
    if s.dataLow then (s.relayPhase ph).sampled.startRecovery .lineLow true else (s.relayPhase ph).sampled

/-- A WAITING relay starts: the bus is BUSY and its first phase begins (R118). -/
def State.startRelay (s : State) (r : Relay) : State :=
  (s.onBus r.bus fun c => { c with state := .busy }).beginTransfer r.bus
    (if r.writeBytes ≠ [] then .write else if 0 < r.readLen then .read else .probe)

/-- A queued entry's transaction starts: it leaves its queue, a late mark is counted, and the settings in force are
copied; on TWO_WIRE a low data line ends it at once as failed with cause LINE_LOW (R103, R108, R109). -/
def State.startPoll (s : State) (b : Bus) (q : Queued) (rest : List Queued) : State :=
  let s1 := (s.onBus b fun c => { c with queue := rest }).onPoll q.entry fun p =>
    { p with late := satAdd p.late (bit q.late) }
  let w : PollWork := { q := q, cfg := s.mou.poll[q.entry].cfg }
  match b with
  | .serial4 => s1.onBus .serial4 fun c => { c with state := .busy, poll := some w }
  | .twoWire =>
    if s1.dataLow then
      (s1.sampled.onPoll q.entry fun p => { p with errors := satInc p.errors }).startRecovery .lineLow false
    else s1.sampled.onBus .twoWire fun c => { c with state := .busy, poll := some w }

/-- The head of a bus's due queue starts, if there is one (R108). -/
def State.startHead (s : State) (b : Bus) : State :=
  match (s.bus b).queue with
  | [] => s
  | q :: rest => s.startPoll b q rest

/-- The relay, if it is WAITING on the bus. -/
def State.waitingRelay (s : State) (b : Bus) : Option Relay :=
  match s.mou.relay with
  | some r => if r.bus = b ∧ r.phase = .waiting then some r else none
  | none => none

/-- The recovery pending on a bus; SERIAL4 has none. -/
def State.pendingRecovery (s : State) : Bus → Option Cause
  | .serial4 => none
  | .twoWire => s.mou.twoWire.recPending

/-- The start rule: an IDLE bus starts a pending recovery, else a WAITING relay, else its queue's head (R108). -/
def State.startNext (s : State) (b : Bus) : State :=
  if (s.bus b).state = .idle then
    match s.pendingRecovery b with
    | some cause => s.startRecovery cause false
    | none =>
      match s.waitingRelay b with
      | some r => s.startRelay r
      | none => s.startHead b
  else s

/-- The bus's work has ended without a recovery: it is IDLE and starts its next work (R102, R108). -/
def State.busFree (s : State) (b : Bus) : State :=
  (s.onBus b fun c => { c with state := .idle, poll := none }).startNext b

/-! ### Triggers (R105 to R107) -/

/-- An entry stands in a due queue. -/
def inQueue (q : List Queued) (e : Fin 8) : Bool := q.any fun x => decide (x.entry = e)

/-- An entry is queued (R104). -/
def State.isQueued (s : State) (e : Fin 8) : Bool := inQueue s.mou.serial4.queue e || inQueue s.mou.twoWire.queue e

/-- A due queue with an entry placed by its trigger, entries of the same moment in index order (R107). -/
def insertQueued (x : Queued) : List Queued → List Queued
  | [] => [x]
  | y :: ys =>
    if x.stamp < y.stamp ∨ (x.stamp = y.stamp ∧ x.entry < y.entry) then x :: y :: ys else y :: insertQueued x ys

/-- A relay is WAITING or RUNNING on the bus (R108). -/
def State.relayOn (s : State) (b : Bus) : Bool :=
  match s.mou.relay with
  | some r => decide (r.bus = b)
  | none => false

/-- The class factor (R105, R120). -/
def State.classFactor (s : State) : Nat := if s.mou.sensorClass = .reduced then 2 else 1

/-- The queue element of an entry triggered now with a trigger time (R107, R108). -/
def State.queuedNow (s : State) (e : Fin 8) (t : Time) : Queued :=
  { entry := e, trigger := t, stamp := s.osc, timeUnset := s.timeUnset
    decimated := decide (s.mou.sensorClass = .reduced), late := s.relayOn s.mou.poll[e].cfg.bus }

/-- A poll entry is triggered: dropped on a FAULT bus or with the class SUSPENDED, an overrun when it is queued already,
otherwise it joins its bus's due queue, and an IDLE bus starts (R107, R108). -/
def State.trigger (s : State) (e : Fin 8) (t : Time) : State :=
  let b := s.mou.poll[e].cfg.bus
  if (s.bus b).state = .fault ∨ s.mou.sensorClass = .suspended then s
  else if s.isQueued e then s.onPoll e fun p => { p with overruns := satInc p.overruns }
  else (s.onBus b fun c => { c with queue := insertQueued (s.queuedNow e t) c.queue }).startNext b

/-- A rising edge of a side-band line acts on one READY entry (R106). -/
def State.readyEntry (s : State) (line : Fin 6) (e : Fin 8) : State :=
  let p := s.mou.poll[e]
  if p.cfg.enable ∧ p.cfg.ready ∧ p.cfg.readyLine = line.val then
    if p.cfg.decimate * s.classFactor ≤ p.edgeCount + 1 then
      (s.onPoll e fun p => { p with edgeCount := 0 }).trigger e s.now
    else s.onPoll e fun p => { p with edgeCount := p.edgeCount + 1 }
  else s

/-- The poll entries in index order. -/
def allEntries : List (Fin 8) := [0, 1, 2, 3, 4, 5, 6, 7]

/-- A rising edge of a side-band line, handed by the steering unit (R38, R106). -/
def State.readyEdge (s : State) (line : Fin 6) : State := allEntries.foldl (fun s e => s.readyEntry line e) s

/-- An entry leaves its due queue, without count (R107). -/
def State.unqueue (s : State) (e : Fin 8) : State :=
  let drop (c : BusCtl) : BusCtl := { c with queue := c.queue.filter fun x => !decide (x.entry = e) }
  (s.onBus .serial4 drop).onBus .twoWire drop

/-! ### Recovery failure (R117) -/

/-- The 64 ms retry interval in oscillator ticks (R117). DESIGN CHOICE: the retry timer counts on the part's own oscillator; the
spec names no clock for it (log entry 43). -/
def retryTicks : Nat := 64 * msTicks

/-- Code of a recovery cause (12.4). -/
def Cause.code : Cause → Nat
  | .lineLow => 0
  | .stretch => 1
  | .relayAbort => 2
  | .command => 3
  | .retry => 4

/-- A relay that the entry to FAULT ends: one WAITING on TWO_WIRE, or the one whose line check was being recovered
(R117, R118). -/
def State.faultEndsRelay (s : State) (forRelay : Bool) : Bool :=
  match s.mou.relay with
  | some r => decide (r.bus = .twoWire) && (forRelay || decide (r.phase = .waiting))
  | none => false

/-- A recovery fails: the bus enters FAULT, its due queue is emptied, the retry timer starts, BUS_FAULT is raised, and a
relay that depends on the bus is refused (R116 to R118). The timer's clock is log entry 43's. -/
def State.recoveryFails (s : State) (r : Recovery) (pulses : Nat) : State :=
  let s1 := (s.onBus .twoWire fun c =>
    { c with state := .fault, queue := [], recovery := none, retryAt := some (s.osc + retryTicks) }).onMou fun m =>
      { m with recoveryFailures := satInc m.recoveryFailures }
  let s2 := s1.raise .busFault (leBytes 1 r.cause.code ++ leBytes 1 pulses)
  if s2.faultEndsRelay r.forRelay then s2.relayDone .busError [] else s2

/-- A recovery succeeds: BUS_RECOVERED is raised; the bus is BUSY again for a relay phase's line check, and otherwise
IDLE, when it starts its next work (R116). -/
def State.recoverySucceeds (s : State) (r : Recovery) (pulses : Nat) : State :=
  let st : BusState := if r.forRelay then .busy else .idle
  let s1 := ((s.onBus .twoWire fun c => { c with state := st, recovery := none }).onMou fun m =>
    { m with recoveries := satInc m.recoveries }).raise .busRecovered (leBytes 1 r.cause.code ++ leBytes 1 pulses)
  if r.forRelay then s1 else s1.startNext .twoWire

/-! ### Gyro conversion and history (6.4) -/

/-- The k-th signed 16-bit value of a transaction's bytes in a byte order (R111). -/
def valueAt (big : Bool) (bs : List Byte) (k : Nat) : Int :=
  let x := (bs.getD (2 * k) 0).toNat
  let y := (bs.getD (2 * k + 1) 0).toNat
  (BitVec.ofNat 16 (if big then x * 256 + y else x + y * 256)).toInt

/-- Position of a raw axis among the first three values (R111). -/
def Axis.index : Axis → Nat
  | .x => 0
  | .y => 1
  | .z => 2

/-- raw × G ÷ 2^14, rounded halves away from zero, before saturation (R111). -/
def rawRate (raw : Int) (gain : Nat) : Int := roundDiv (raw * gain) 16384

/-- A head rate: saturated to ±32767, negated under MINUS (R111). -/
def headRate (raw : Int) (gain : Nat) (minus : Bool) : Int :=
  let v := clampInt (-32767) 32767 (rawRate raw gain)
  if minus then -v else v

/-- The conversion of an axis saturates (R111). -/
def saturates (raw : Int) (gain : Nat) : Bool := decide (clampInt (-32767) 32767 (rawRate raw gain) ≠ rawRate raw gain)

/-- The raw value a head axis takes (R111). -/
def rawFor (big : Bool) (bs : List Byte) (m : AxisMap) : Int := valueAt big bs m.axis.index

/-- The history entry of an IMU6 transaction under a mount table (R111, R112). -/
def gyroEntry (t : Time) (big : Bool) (bs : List Byte) (c : MountCfg) : GyroEntry :=
  { time := t
    yaw := headRate (rawFor big bs c.yaw) c.gain c.yaw.minus
    pitch := headRate (rawFor big bs c.pitch) c.gain c.pitch.minus
    roll := headRate (rawFor big bs c.roll) c.gain c.roll.minus }

/-- At least one of the three axes saturated (R111). -/
def anySaturates (big : Bool) (bs : List Byte) (c : MountCfg) : Bool :=
  saturates (rawFor big bs c.yaw) c.gain || saturates (rawFor big bs c.pitch) c.gain
    || saturates (rawFor big bs c.roll) c.gain

/-- Capacity of the gyro history (R112). -/
def historyCapacity : Nat := 64

/-- The history after an append: the oldest entry goes when it is full (R112). -/
def pushHistory (h : List GyroEntry) (e : GyroEntry) : List GyroEntry :=
  (if h.length < historyCapacity then h else h.drop 1) ++ [e]

/-- A trigger time is after the newest timestamp of the history, or the history is empty (R112). -/
def afterNewest (h : List GyroEntry) (t : Time) : Bool :=
  match h.getLast? with
  | some e => before e.time t
  | none => true

/-- A good IMU6 completion: the mount table comes into force, the rates are converted and appended, or rejected (R110 to
R112). -/
def Mou.gyro (m : Mou) (t : Time) (big : Bool) (bs : List Byte) : Mou :=
  let c := m.mountWritten
  let m1 := { m with mountForce := c, saturations := satAdd m.saturations (bit (anySaturates big bs c)) }
  if afterNewest m.history t then { m1 with history := pushHistory m.history (gyroEntry t big bs c) }
  else { m1 with historyRejects := satInc m.historyRejects }

/-! ### Sample FIFO and batches (6.5) -/

/-- The first n byte pairs swapped. -/
def swapPairs : Nat → List Byte → List Byte
  | n + 1, x :: y :: bs => y :: x :: swapPairs n bs
  | _, bs => bs

/-- Payload of a sensor record: the 16-bit values of IMU6 and MAG3 rewritten as little-endian, any other byte as read
(R113). -/
def recordPayload (c : PollCfg) (bs : List Byte) : List Byte :=
  if c.big then
    match c.kind with
    | .imu6 => swapPairs 6 bs
    | .mag3 => swapPairs 3 bs
    | .prox => bs
    | .raw => bs
  else bs

/-- The sensor record of a good transaction (R113). -/
def recordOf (w : PollWork) (bs : List Byte) (osc : Nat) : SensorRec :=
  { kind := w.cfg.kind, entry := w.q.entry, timeUnset := w.q.timeUnset, gap := false, decimated := w.q.decimated
    late := w.q.late, time := w.q.trigger, payload := recordPayload w.cfg bs, joined := osc }

/-- Capacity of the sample FIFO (R113). -/
def fifoCapacity : Nat := 64

/-- The FIFO with its oldest record marked GAP (R113). -/
def markGap : List SensorRec → List SensorRec
  | [] => []
  | r :: rs => { r with gap := true } :: rs

/-- A full FIFO loses its oldest record at a join: the drop is counted, the record now oldest takes GAP, and FIFO_OVERFLOW
is raised (R113). -/
def State.fifoDrop (s : State) : State :=
  match s.mou.fifo with
  | [] => s
  | r :: rest =>
    if s.mou.fifo.length < fifoCapacity then s
    else
      let drops := satInc s.mou.fifoDrops
      (s.onMou fun m => { m with fifo := markGap rest, fifoDrops := drops }).raise .fifoOverflow
        (leBytes 1 r.entry.val ++ leBytes 4 r.time.toNat ++ leBytes 4 drops)

/-- Bytes a batch holds at most (R114). -/
def batchBytes : Nat := 96

/-- How many of the oldest records fit together in the room left (R114). -/
def fitCount : Nat → List SensorRec → Nat
  | _, [] => 0
  | room, r :: rs => if r.bytes.length ≤ room then fitCount (room - r.bytes.length) rs + 1 else 0

/-- Capacity of the MOTION queue (R21). -/
def motionCapacity : Nat := 8

/-- The age of the oldest record has reached the flush timeout (R114). DESIGN CHOICE: the age is counted on the part's own
oscillator, to the first tick at or after the timeout (log entry 43). -/
def State.flushDue (s : State) : Bool :=
  match s.mou.fifo with
  | [] => false
  | r :: _ => decide (r.joined + usTicks s.mou.flushTimeout ≤ s.osc)

/-- The batch condition (R114). -/
def State.batchDue (s : State) : Bool := decide (s.mou.watermark ≤ s.mou.fifo.length) || s.flushDue

/-- One batch built from the oldest records and placed in the MOTION queue (R114). -/
def State.buildBatch (s : State) : State :=
  let n := fitCount batchBytes s.mou.fifo
  (s.onMou fun m => { m with fifo := m.fifo.drop n, batches := satInc m.batches }).onLtx fun t =>
    { t with motion := t.motion ++ [(s.mou.fifo.take n).flatMap SensorRec.bytes] }

/-- Batches built while the condition holds and the MOTION queue has room, at most as many as the queue holds (R114). -/
def buildBatches : Nat → State → State
  | 0, s => s
  | n + 1, s =>
    if s.batchDue = true ∧ s.ltx.motion.length < motionCapacity ∧ s.mou.fifo ≠ [] then buildBatches n s.buildBatch else s

/-- The batch condition judged (R114). -/
def State.judgeBatch (s : State) : State := buildBatches motionCapacity s

/-- A record joins the sample FIFO as its newest, and the batch condition is judged (R113, R114). -/
def State.fifoJoin (s : State) (r : SensorRec) : State :=
  (s.fifoDrop.onMou fun m => { m with fifo := m.fifo ++ [r], records := satInc m.records }).judgeBatch

/-! ### Completions (R109) -/

/-- A good completion's effect apart from the bus (R109). -/
def State.pollGood (s : State) (w : PollWork) (bs : List Byte) : State :=
  let s1 := s.onPoll w.q.entry fun p => { p with samples := satInc p.samples }
  let s2 := if w.cfg.kind = .imu6 then s1.onMou fun m => m.gyro w.q.trigger w.cfg.big bs else s1
  if w.cfg.toFifo then s2.fifoJoin (recordOf w bs s.osc) else s2

/-- A refused completion's effect apart from the bus; phase 0 is ADDRESS, 1 DATA (R109, 12.4). -/
def State.pollRefused (s : State) (w : PollWork) (phase : Nat) : State :=
  (s.onPoll w.q.entry fun p => { p with errors := satInc p.errors }).raise .pollError
    (leBytes 1 w.q.entry.val ++ leBytes 1 w.cfg.device ++ leBytes 1 phase)

/-! ### Relay phases (R118, R119) -/

/-- The read phase begins, or the relay completes OK when there is nothing to read (R118). -/
def State.relayToRead (s : State) (r : Relay) : State :=
  if 0 < r.readLen then s.beginTransfer r.bus .read else (s.relayDone .ok []).busFree r.bus

/-- The write phase has ended: the bus is held for the wait-after interval, or the read phase begins (R118). DESIGN CHOICE: the
interval is counted on the part's own oscillator, rounded up to a whole tick; the spec names no clock for it (log entry 43). -/
def State.relayWriteEnds (s : State) (r : Relay) : State :=
  if 0 < r.waitAfter then
    s.onMou fun m =>
      { m with relay := some { r with phase := .wait, waitEnd := s.osc + usTicks r.waitAfter } }
  else s.relayToRead r

/-- The relay handed over from the slot becomes WAITING; every entry queued on its bus takes the late mark; an IDLE bus
starts it at once (R108, R118). -/
def State.relayHandOver (s : State) (r : Relay) : State :=
  ((s.onMou fun m => { m with relay := some r }).onBus r.bus fun c =>
    { c with queue := c.queue.map fun q => { q with late := true } }).startNext r.bus

/-- The slot's timeout aborts the relay (R119). A recovery-pending mark already set keeps its cause: log entry 17. -/
def State.relayAbort (s : State) : State :=
  match s.mou.relay with
  | none => s
  | some r =>
    let s1 := s.onMou fun m => { m with relay := none }
    match r.bus with
    | .serial4 => if r.phase = .waiting then s1 else s1.busFree .serial4
    | .twoWire =>
      if r.phase = .waiting then
        (s1.onBus .twoWire fun c => { c with recPending := some (c.recPending.getD .relayAbort) }).startNext .twoWire
      else s1.startRecovery .relayAbort false

/-! ### Sensor class (R120) -/

/-- The sensor class handed by the power manager: SUSPENDED empties both due queues (R120). -/
def State.handClass (s : State) (c : SensorClass) : State :=
  let s1 := s.onMou fun m => { m with sensorClass := c }
  if c = .suspended then
    (s1.onBus .serial4 fun b => { b with queue := [] }).onBus .twoWire fun b => { b with queue := [] }
  else s1

/-! ### Re-base (R112) -/

/-- A queued entry's trigger time moved by a step of tether time (R112). -/
def Queued.rebase (q : Queued) (d : Int) : Queued := { q with trigger := tadd q.trigger d }

/-- A bus's trigger times moved (R112). -/
def BusCtl.rebase (c : BusCtl) (d : Int) : BusCtl :=
  { c with queue := c.queue.map fun q => q.rebase d, poll := c.poll.map fun w => { w with q := w.q.rebase d } }

/-- The motion unit's times moved by Δ: the gyro history, the queued entries and the transactions in progress (R112). -/
def Mou.rebase (m : Mou) (d : Int) : Mou :=
  { m with
    history := m.history.map fun e => { e with time := tadd e.time d }
    serial4 := m.serial4.rebase d
    twoWire := m.twoWire.rebase d }

end Sys2Proof.Machine
end

