-- ==== Sys2Proof/Machine/Lines.lean ====
section
/-! DEFINITION. The side-band lines: levels, claims, rising edges, the side-band word, and the two rows that act on lines
only (2.4, 2.5). -/

namespace Sys2Proof.Machine

open Sys2Proof

/-- A generator claims a line: enabled in force with that line in force, or its pulse is on and stands on that line (R36). DESIGN
CHOICE: where two frame starts change the line while one pulse is on, the claim on the line between the two ends at the second
(log entry 54). -/
def Generator.claims (g : Generator) (i : Fin 6) : Bool :=
  (g.inForce.enable && decide (g.inForce.line = i.val))
    || (decide (g.state = .on) && decide (g.pulseLine = i.val))

/-- A generator's pulse is on and stands on a line (R36). -/
def Generator.shows (g : Generator) (i : Fin 6) : Bool := decide (g.state = .on) && decide (g.pulseLine = i.val)

/-- A line is claimed (R36). -/
def State.claimed (s : State) (i : Fin 6) : Bool := s.ftm.gens.a.claims i || s.ftm.gens.b.claims i

/-- The claim field of a line: 0 NONE, 1 A, 2 B, 3 BOTH (R32, R36). -/
def State.claimCode (s : State) (i : Fin 6) : Nat := bit (s.ftm.gens.a.claims i) + 2 * bit (s.ftm.gens.b.claims i)

/-- Level a RECEIVED line shows (R34, R35). -/
def Stu.receivedLevel (u : Stu) (l : Line) : Bool :=
  if u.wordCurrent then u.word.getLsbD l.bit
  else match l.policy with
    | .hold => u.word.getLsbD l.bit
    | .default => l.defaultLevel

/-- Level of an unclaimed line by its source in force (R34). -/
def State.sourceLevel (s : State) (i : Fin 6) : Bool :=
  let l := s.stu.lines[i]
  match l.source with
  | .input => s.stu.pins[i]
  | .level0 => false
  | .level1 => true
  | .received => s.stu.receivedLevel l
  | .linkLock => decide (s.lrx.lock = .locked)
  | .linkPass => s.lrx.pass
  | .displayLocked => decide (s.ftm.display = .locked)
  | .frameStart => l.pulse
  | .strobeA => decide (s.pxp.panels.a.strobe = .on)
  | .powerNormal => decide (s.pmg.state = .normal)

/-- Level of a line now (R34 to R36). -/
def State.lineLevel (s : State) (i : Fin 6) : Bool :=
  if s.claimed i then s.ftm.gens.a.shows i || s.ftm.gens.b.shows i else s.sourceLevel i

/-- The lines in order. -/
def allLines : List (Fin 6) := [0, 1, 2, 3, 4, 5]

/-- The levels of the six lines, SBL0 in bit 0 (12.4). -/
def State.levels (s : State) : BitVec 6 := BitVec.ofFnLE fun i => s.lineLevel i

/-- Rising edges handed to the motion unit, one line after the other: each line at 0 in `old` and at 1 in `new` (R38). -/
def State.handEdges (s : State) (old new : BitVec 6) : State :=
  allLines.foldl (fun s i => if !old.getLsbD i.val && new.getLsbD i.val then s.readyEdge i else s) s

/-- An act with the rising edges it makes handed on at its end (R38; log entry 15). -/
def State.edged (s : State) (f : State → State) : State := (f s).handEdges s.levels (f s).levels

/-- A side-band cell: the word takes the low 16 bits of the first payload word and the word state is CURRENT (R33). -/
def Stu.sidebandCell (u : Stu) (bytes : List Byte) : Stu :=
  { u with word := BitVec.ofNat 16 (ofLe (bytes.take 2)), wordCurrent := true }

/-- SIDEBAND_CHANGE detail: the line and all six levels (R37, 12.4). -/
def State.sidebandDetail (s : State) (i : Fin 6) : List Byte := leBytes 1 i.val ++ leBytes 1 s.levels.toNat

/-- The level the outside world puts on a pin changes. On an unclaimed line with source INPUT it raises SIDEBAND_CHANGE
(R37). -/
def State.pinChange (s : State) (i : Fin 6) (level : Bool) : State :=
  if s.stu.pins[i] = level then s
  else
    let s1 := s.onStu fun u => { u with pins := u.pins.set i level }
    if s.stu.lines[i].source = .input ∧ s.claimed i = false then s1.raise .sidebandChange (s1.sidebandDetail i) else s1

/-- SIDEBAND_CHANGE (R37). A part held in power-on reset ignores the change (R193), but the level that the outside world puts
on the pin is the new one, and the line shows it when the reset ends (R32; log entry 25). -/
def execSidebandChange (line : Fin 6) (level : Bool) (s : State) : Host.Outcome State Fault Refusal :=
  .next (if s.held then s.onStu fun u => { u with pins := u.pins.set line level }
    else s.edged fun s => s.pinChange line level)

/-- The 10 µs pulse of the FRAME_START lines ends (R34). -/
def State.pulseEnds (s : State) : State :=
  (s.onStu fun u => { u with lines := u.lines.map fun l => { l with pulse := false } }).onFtm fun t =>
    { t with pulseEnd := none }

/-- The FRAME_START pulse's 10 µs have run (R34). -/
def State.pulseEndDue (s : State) : Bool :=
  match s.ftm.pulseEnd with
  | some t => decide (t ≤ s.osc)
  | none => false

/-- FRAME_START_PULSE_END (R34). -/
def execFrameStartPulseEnd (s : State) : Host.Outcome State Fault Refusal :=
  .next (s.live fun s => if s.pulseEndDue then s.edged State.pulseEnds else s)

end Sys2Proof.Machine
end

