-- ==== Sys2Proof/Machine/Records.lean ====
section
/-! DEFINITION. Frame records: their creation, the writes other blocks make into them, and how the SCANNING record becomes
DONE (R68 to R73, R187). -/

namespace Sys2Proof.Machine

open Sys2Proof

/-- A record created OPEN for a frame number with a start time (R68). -/
def FrameRec.fresh (n : FrameNo) (start : Time) : FrameRec :=
  { number := n, state := .opened, start := start, pose := none, evalTime := none, angles := none, shifts := none
    flags := RecFlags.none, missing := ⟨0, 0⟩, strobe := ⟨none, none⟩ }

/-- The record at a renumber: it takes the new number, loses its pose time, evaluation time, angles, shifts and flags, and
is OPEN again (R68). -/
def FrameRec.renumbered (r : FrameRec) (n : FrameNo) : FrameRec :=
  { r with number := n, state := .opened, pose := none, evalTime := none, angles := none, shifts := none
           flags := RecFlags.none }

/-- An optional time as a field word or detail: 0 when absent (R74, R187). -/
def timeOr0 (t : Option Time) : Nat := (t.map BitVec.toNat).getD 0

/-- Yaw of an optional pair of angles, 0 when absent. -/
def FrameRec.yawOr0 (r : FrameRec) : Int := (r.angles.map Angles.yaw).getD 0

/-- Pitch of an optional pair of angles, 0 when absent. -/
def FrameRec.pitchOr0 (r : FrameRec) : Int := (r.angles.map Angles.pitch).getD 0

/-- A panel's shift of a record, 0 when absent. -/
def FrameRec.shiftOr0 (r : FrameRec) (p : Side) : Shift := (r.shifts.map fun d => d.get p).getD ⟨0, 0⟩

/-- FRAME_REPORT detail of a record (R187, 12.4). -/
def FrameRec.report (r : FrameRec) : List Byte :=
  leBytes 2 r.number.toNat ++ leBytes 4 r.start.toNat ++ leBytes 4 (timeOr0 r.pose) ++ leBytes 4 (timeOr0 r.evalTime)
    ++ leBytesInt 4 r.yawOr0 ++ leBytesInt 4 r.pitchOr0
    ++ leBytesInt 1 (r.shiftOr0 .a).dx ++ leBytesInt 1 (r.shiftOr0 .a).dy
    ++ leBytesInt 1 (r.shiftOr0 .b).dx ++ leBytesInt 1 (r.shiftOr0 .b).dy
    ++ leBytes 1 r.flags.sum ++ leBytes 1 r.present
    ++ leBytes 2 r.missing.a ++ leBytes 2 r.missing.b
    ++ leBytes 2 (r.strobe.a.getD 0) ++ leBytes 2 (r.strobe.b.getD 0)

/-- A write into the SCANNING record; dropped when none is live (R73). -/
def State.onScanning (s : State) (f : FrameRec → FrameRec) : State :=
  s.onFtm fun t => { t with scanning := t.scanning.map f }

/-- A write into the OPEN or EVALUATED record; dropped when none is live. -/
def State.onUpcoming (s : State) (f : FrameRec → FrameRec) : State :=
  s.onFtm fun t => { t with upcoming := t.upcoming.map f }

/-- The SCANNING record becomes DONE, an older DONE record is retired, and FRAME_REPORT is raised (R70, R72, R187). -/
def State.finishRecord (s : State) : State :=
  match s.ftm.scanning with
  | none => s
  | some r =>
    let d : FrameRec := { r with state := .done }
    (s.onFtm fun t => { t with scanning := none, done := some d, pendingPanels := ⟨false, false⟩ }).raise
      .frameReport d.report

/-- A panel's completion handed to the frame timer: it leaves the pending set of the SCANNING record, which becomes DONE
when the set is empty; a completion of a panel not pending is ignored (R72). -/
def State.completion (s : State) (p : Side) : State :=
  if s.ftm.scanning.isSome && s.ftm.pendingPanels.get p then
    let left := s.ftm.pendingPanels.set p false
    let s1 := s.onFtm fun t => { t with pendingPanels := left }
    if left.a || left.b then s1 else s1.finishRecord
  else s

/-- A slice header's pose time: stored when the OPEN record has its frame number and no pose time (R73). -/
def State.writePose (s : State) (n : FrameNo) (t : Time) : State :=
  s.onUpcoming fun r => if r.state = .opened ∧ r.number = n ∧ r.pose = none then { r with pose := some t } else r

/-- The record's missing lines of a panel. -/
def FrameRec.addMissing (r : FrameRec) (p : Side) : FrameRec := { r with missing := r.missing.modify p (· + 1) }

/-- The record takes a panel's cut flag (R82, R97). -/
def FrameRec.cut (r : FrameRec) : Side → FrameRec
  | .a => { r with flags := { r.flags with cutA := true } }
  | .b => { r with flags := { r.flags with cutB := true } }

/-- The record takes a panel's strobe width, once per panel (R73, R99). -/
def FrameRec.takeStrobe (r : FrameRec) (p : Side) (w : Nat) : FrameRec :=
  if (r.strobe.get p).isNone then { r with strobe := r.strobe.set p (some w) } else r

/-- Evaluation of the OPEN record is due at its moment S = s_next − shift lead in force (R71). -/
def State.evalAt (s : State) : Time := s.ftm.sNext - BitVec.ofNat 32 s.ftm.inForce.shiftLead

/-- A frame start is due: schedule STARTING or RUNNING and tether time has reached s_next (R62). -/
def State.frameStartDue (s : State) : Bool :=
  (s.ftm.schedule = .starting || s.ftm.schedule = .running) && reached s.now s.ftm.sNext

/-- An evaluation is due: the upcoming record is OPEN, S is strictly before the scheduled start and has been reached, and
no frame start is due (R71). -/
def State.evaluationDue (s : State) : Bool :=
  (match s.ftm.upcoming with
    | some r => decide (r.state = .opened)
    | none => false)
    && before s.evalAt s.ftm.sNext && reached s.now s.evalAt && !s.frameStartDue

end Sys2Proof.Machine
end

