-- ==== Sys2Proof/Machine/Panel.lean ====
section
/-! DEFINITION. The picture path's shared operations: line rings, output lines, the end of a scan, power loss, strobes and
slice contexts (chapter 5). -/

namespace Sys2Proof.Machine

open Sys2Proof

/-! ### Rings (5.4) -/

/-- Stream position of a line of frame `f` with scan frame F and height H in force (R88). -/
def linePos (F f : FrameNo) (height line : Nat) : Nat := (f - F).toNat * height + line

/-- The lines of a ring whose position is not below pos − 16 (R91). -/
def keepWindow (F : FrameNo) (height pos : Nat) (ring : List RingLine) : List RingLine :=
  ring.filter fun r => decide (pos ≤ linePos F r.frame height r.line + 16)

/-- How many slots a ring has (R88). -/
def ringSlots : Nat := 96

/-- The slot of a line: its stream position modulo the number of slots (R90). -/
def ringSlot (F : FrameNo) (height : Nat) (r : RingLine) : Nat := linePos F r.frame height r.line % ringSlots

/-- A line placed in its slot, replacing the line that the slot held (R90). A ring is the list of its slots in use. -/
def placeLine (F : FrameNo) (height : Nat) (x : RingLine) (ring : List RingLine) : List RingLine :=
  ring.filter (fun r => decide (ringSlot F height r ≠ ringSlot F height x)) ++ [x]

/-- What becomes of a committed line offered to a ring (R89, R90). -/
inductive Offer
  | noScan | early | stale | placed
  deriving DecidableEq, Repr

/-- The judgement of a committed line of frame `f` (R89, R90). -/
def judgeLine (scanFrame : Option FrameNo) (x : PanelState) (f : FrameNo) (line : Nat) : Offer :=
  match scanFrame with
  | none => .noScan
  | some F =>
    if x.scan = .off then .noScan
    else if (f - F).toNat ≤ 1 then
      if linePos F f x.inForce.height line + 16 < x.pos then .stale
      else if x.pos + 79 < linePos F f x.inForce.height line then .early
      else .placed
    else if (f - F).toNat ≤ 32767 then .early
    else .stale

/-- A panel after a committed line has been offered to its ring (R89, R90). -/
def PanelState.offer (x : PanelState) (scanFrame : Option FrameNo) (l : RingLine) : PanelState :=
  match judgeLine scanFrame x l.frame l.line with
  | .noScan => { x with noScanLines := satInc x.noScanLines }
  | .early => { x with earlyLines := satInc x.earlyLines }
  | .stale => { x with staleLines := satInc x.staleLines }
  | .placed => { x with ring := placeLine (scanFrame.getD 0) x.inForce.height l x.ring }

/-- The highest line number in the window of a panel that begins a scan: −16 to 79 (R92). -/
def lastFirstLine : Nat := 79

/-- A panel at a frame start whose ring is re-based to the new F: lines of F stay, lines of the old F go without a count,
any other line is counted stale (R92). DESIGN CHOICE: at a renumber to the scan frame's own number (R65, k = 65535) a line
outside the new window is freed, without a count as a line of the old scan frame; R92 would keep it, against R88 and R90
(log entry 41). In every other case all lines of F lie in the new window. -/
def PanelState.rebase (x : PanelState) (old : Option FrameNo) (F : FrameNo) : PanelState :=
  { x with
    ring := x.ring.filter fun r => decide (r.frame = F ∧ r.line ≤ lastFirstLine)
    staleLines := satAdd x.staleLines
      (x.ring.filter fun r => decide (r.frame ≠ F) && decide (some r.frame ≠ old)).length }

/-! ### Output lines (5.5) -/

/-- A black line of a width. -/
def blackLine (width : Nat) : List Pixel := List.replicate width .black

/-- A source line shifted by dx: output pixel x takes source pixel x − dx, black outside the line (R95). -/
def shiftLine (width : Nat) (dx : Int) (px : List Pixel) : List Pixel :=
  (List.range width).map fun x =>
    let i : Int := (x : Int) - dx
    if 0 ≤ i ∧ i < width then px.getD i.toNat .black else .black

/-- The line of the scan frame with a number, if the ring holds it. -/
def findLine (scanFrame : Option FrameNo) (ring : List RingLine) (line : Int) : Option RingLine :=
  ring.find? fun r => decide (some r.frame = scanFrame ∧ (r.line : Int) = line)

/-- The source line of output line y is missing (R95 step 2). -/
def PanelState.missingAt (x : PanelState) (scanFrame : Option FrameNo) (y : Nat) : Bool :=
  let src : Int := (y : Int) + x.shift.dy
  decide (0 ≤ src ∧ src < x.inForce.height) && (findLine scanFrame x.ring src).isNone

/-- Output line y of a panel (R95). DESIGN CHOICE: a REPEAT copy after a frame start that brought a new width into force is the
last line output with the number of pixels it was output with; the spec does not say (log entry 42). -/
def PanelState.lineFor (x : PanelState) (scanFrame : Option FrameNo) (y : Nat) : List Pixel :=
  let src : Int := (y : Int) + x.shift.dy
  if 0 ≤ src ∧ src < x.inForce.height then
    match findLine scanFrame x.ring src with
    | some r => shiftLine x.inForce.width x.shift.dx r.pixels
    | none => if x.inForce.repeatFill then x.lastLine.getD (blackLine x.inForce.width) else blackLine x.inForce.width
  else blackLine x.inForce.width

/-- A panel with pos moved up and its window with it (R91). -/
def PanelState.moveTo (x : PanelState) (scanFrame : Option FrameNo) (pos : Nat) : PanelState :=
  { x with
    pos := pos
    ring := match scanFrame with
      | some F => keepWindow F x.inForce.height pos x.ring
      | none => x.ring }

/-- The line-out of line y: pos and the window move, the output line is formed and sent, and a missing source line is
counted on the panel and in the SCANNING record (R95). -/
def State.outputLine (s : State) (p : Side) (y : Nat) : State :=
  let F := s.ftm.scanFrame
  let x := (s.panel p).moveTo F y
  let miss := x.missingAt F y
  let s1 := s.onPanel p fun _ =>
    { x with lastLine := some (x.lineFor F y), missingLines := satAdd x.missingLines (bit miss) }
  if miss then s1.onScanning fun r => r.addMissing p else s1

/-- The panel's number in a MISSING_LINES detail (12.4). -/
def Side.code : Side → Nat
  | .a => 0
  | .b => 1

/-- End-of-scan judgement: with missing lines in the SCANNING record for this panel, the record takes INCOMPLETE and
MISSING_LINES is raised (R96). -/
def State.endScan (s : State) (p : Side) : State :=
  match s.ftm.scanning with
  | none => s
  | some r =>
    if 0 < r.missing.get p then
      (s.onScanning fun r => { r with flags := { r.flags with incomplete := true } }).raise .missingLines
        (leBytes 1 (Side.code p) ++ leBytes 2 r.number.toNat ++ leBytes 2 (r.missing.get p))
    else s

/-- A panel's completion, handed once its active scan has ended and its strobe is neither PENDING nor ON (R101). -/
def State.tryComplete (s : State) (p : Side) : State :=
  if (s.panel p).scan ≠ .active ∧ (s.panel p).strobe ≠ .pending ∧ (s.panel p).strobe ≠ .on then s.completion p else s

/-- The end-of-scan steps that a scan's last line-out and a cut share: pos becomes H, the window moves, and the missing lines
are judged (R91, R96). `F` is the frame scanned. -/
def State.closeScan (s : State) (p : Side) (F : Option FrameNo) : State :=
  (s.onPanel p fun x => x.moveTo F x.inForce.height).endScan p

/-- A panel's ACTIVE scan is cut: the lines after pos are counted cut against the height of the scan, the SCANNING record
takes the cut flag, and the end-of-scan steps are taken (R82, R96, R97). -/
def State.cutScan (s : State) (p : Side) (F : Option FrameNo) : State :=
  ((s.onPanel p fun x => { x with cutLines := satAdd x.cutLines (x.inForce.height - 1 - x.pos) }).onScanning
    fun r => r.cut p).closeScan p F

/-- The strobe with a pulse that is ON ended and a PENDING one cancelled; HELD stays (R82, R98). -/
def StrobeState.cleared : StrobeState → StrobeState
  | .held => .held
  | _ => .idle

/-- A panel whose grant has fallen to 0 goes OFF (R82). -/
def State.panelOff (s : State) (p : Side) : State :=
  let s1 := if (s.panel p).scan = .active then s.cutScan p s.ftm.scanFrame else s
  (s1.onPanel p fun x =>
    { x with scan := .off, ring := [], lastLine := none, strobe := x.strobe.cleared }).tryComplete p

/-- A panel whose grant has risen above 0 with enable in force goes from OFF to WAITING, with pos at H (R81). -/
def State.panelWake (s : State) (p : Side) : State :=
  s.onPanel p fun x =>
    if x.scan = .off ∧ x.inForce.enable then { x with scan := .waiting, pos := x.inForce.height } else x

/-! ### Strobes (5.6) -/

/-- At entry to TRIP a panel's strobe is ended or cancelled and held (R100). -/
def State.holdStrobe (s : State) (p : Side) : State :=
  (s.onPanel p fun x => { x with strobe := .held }).tryComplete p

/-- When the power state leaves TRIP a held strobe becomes IDLE (R100). -/
def State.releaseStrobe (s : State) (p : Side) : State :=
  s.onPanel p fun x => if x.strobe = .held then { x with strobe := .idle } else x

/-- A PENDING strobe's time has been reached (R99). -/
def State.strobeStartDue (s : State) (p : Side) : Bool :=
  decide ((s.panel p).strobe = .pending) && reached s.now (s.panel p).strobeAt

/-- An ON strobe's end has been reached (R99). -/
def State.strobeEndDue (s : State) (p : Side) : Bool :=
  decide ((s.panel p).strobe = .on) && reached s.now (s.panel p).strobeEnd

/-- Width of a strobe that begins: clamped so that the pulse ends no later than s_next (R99). DESIGN CHOICE: with s_next before the
strobe time the width is 0 (log entry 55). -/
def strobeWidthAt (x : PanelState) (sNext : Time) : Nat := min x.strobeWidth (tdiff sNext x.strobeAt).toNat

/-- The pulse of a PENDING strobe begins, or is passed over with width 0; the width is recorded (R99). -/
def State.beginStrobe (s : State) (p : Side) : State :=
  let w := strobeWidthAt (s.panel p) s.ftm.sNext
  ((s.onPanel p fun x =>
    if 0 < w then { x with strobe := .on, strobeEnd := x.strobeAt + BitVec.ofNat 32 w }
    else { x with strobe := .idle }).onScanning fun r => r.takeStrobe p w).tryComplete p

/-- The pulse of an ON strobe ends (R99). -/
def State.endStrobe (s : State) (p : Side) : State :=
  (s.onPanel p fun x => { x with strobe := .idle }).tryComplete p

/-- Level the brightness and the ceiling in force allow (R98). -/
def PanelState.applied (x : PanelState) : Nat := min x.inForce.brightness x.ceiling

/-- Width the applied level gives a strobe (R98). -/
def PanelState.levelWidth (x : PanelState) : Nat := x.applied * x.inForce.maxWidth / 1023

/-- A panel that begins a scan schedules its strobe, after its ceiling has come into force; nothing is scheduled while the
strobe is HELD or when its time is not before s_next (R98). -/
def PanelState.scheduleStrobe (x : PanelState) (ceiling : Nat) (sF sNext : Time) : PanelState :=
  let x1 := { x with ceiling := ceiling }
  let t := sF + BitVec.ofNat 32 x.inForce.strobeOffset
  if x1.strobe = .held then x1
  else if before t sNext then { x1 with strobe := .pending, strobeAt := t, strobeWidth := x1.levelWidth }
  else x1

/-! ### Slices (5.3) -/

/-- The change made to each panel of a target (R79). -/
def State.onTarget (s : State) (t : Target) (f : PanelState → PanelState) : State :=
  match t with
  | .one p => s.onPanel p f
  | .both => (s.onPanel .a f).onPanel .b f

/-- The target includes the panel. -/
def Target.includes (t : Target) (p : Side) : Bool :=
  match t with
  | .one q => decide (q = p)
  | .both => true

/-- Malformed slices rises by 1 against a target. -/
def State.countMalformed (s : State) (t : Target) : State :=
  s.onTarget t fun x => { x with malformedSlices := satInc x.malformedSlices }

/-- A slice context set or freed. -/
def State.setCtx (s : State) (i : Fin 4) (c : Option SliceCtx) : State :=
  s.onPxp fun x => { x with contexts := x.contexts.set i c }

/-- The context of a stream, if it holds one. -/
def Pxp.ctxOf (x : Pxp) (sn : Fin 32) : Option (Fin 4) :=
  ([0, 1, 2, 3] : List (Fin 4)).find? fun i => match x.contexts[i] with
    | some c => decide (c.sn = sn)
    | none => false

/-- The lowest-numbered FREE context (R85). -/
def Pxp.freeCtx (x : Pxp) : Option (Fin 4) :=
  ([0, 1, 2, 3] : List (Fin 4)).find? fun i => (x.contexts[i]).isNone

/-- A context aborted and counted as one malformed slice against its target (R84, R86, R87). -/
def State.abortCtx (s : State) (i : Fin 4) : State :=
  match s.pxp.contexts[i] with
  | some c => (s.setCtx i none).countMalformed c.target
  | none => s

/-- Pixels of a line's bytes, three bytes each (R83). -/
def pixelsOf : Nat → List Byte → List Pixel
  | 0, _ => []
  | n + 1, bs => .rgb (bs.getD 0 0) (bs.getD 1 0) (bs.getD 2 0) :: pixelsOf n (bs.drop 3)

/-- Bytes of a slice after its 8 header bytes, with the padding to a whole number of words: T − 8 (R83). DEDUCED that the
bytes received, which leave the header out (R85), are judged against this length: log entry 10. -/
def SliceCtx.bodyBytes (c : SliceCtx) : Nat := (c.count * c.width * 3 + 3) / 4 * 4

/-- The lines whose last byte has come, committed in order to the rings of the target (R87). -/
def commitLines : Nat → SliceCtx → State → SliceCtx × State
  | 0, c, s => (c, s)
  | n + 1, c, s =>
    if c.nextLine < c.first + c.count ∧ c.width * 3 ≤ c.current.length then
      let l : RingLine := { frame := c.frame, line := c.nextLine, pixels := pixelsOf c.width c.current }
      commitLines n { c with nextLine := c.nextLine + 1, current := c.current.drop (c.width * 3) }
        (s.onTarget c.target fun x => x.offer s.ftm.scanFrame l)
    else (c, s)

/-- The bytes of a cell taken into a context, after the cell has been judged whole against the slice length (R86, R87).
`final` says that the cell is LAST or ONLY. -/
def State.sliceBytes (s : State) (i : Fin 4) (c : SliceCtx) (bytes : List Byte) (final : Bool) : State :=
  let got := c.received + bytes.length
  if c.bodyBytes < got ∨ (final = true ∧ got < c.bodyBytes) then s.abortCtx i
  else
    let r := commitLines 16 { c with current := c.current ++ bytes, received := got } s
    r.2.setCtx i (if final then none else some r.1)

/-- A cell the steering unit hands the picture path (R27). -/
structure PicCell where
  sn     : Fin 32
  pos    : Pos
  bytes  : List Byte
  gap    : Option Nat
  target : Target
  deriving DecidableEq, Repr

/-- The panel whose table values a target is judged by. -/
def Target.lead : Target → Side
  | .one p => p
  | .both => .a

/-- The fields of a slice header (12.3). -/
structure SliceHeader where
  frame : FrameNo
  first : Nat
  count : Nat
  pose  : Time
  deriving DecidableEq, Repr

/-- A slice header read from a cell's first 8 bytes (12.3). -/
def readSlice (bs : List Byte) : SliceHeader :=
  let w := ofLe ((bs.drop 2).take 2)
  { frame := BitVec.ofNat 16 (ofLe (bs.take 2)), first := w % 4096, count := w / 4096 + 1
    pose := BitVec.ofNat 32 (ofLe ((bs.drop 4).take 4)) }

/-- The four checks of a slice header against the panel table values in force (R84). -/
def Pxp.headerGood (x : Pxp) (c : PicCell) : Bool :=
  let h := readSlice c.bytes
  let f := (x.panels.get c.target.lead).inForce
  decide (8 ≤ c.bytes.length) && decide (h.first + h.count ≤ f.height)
    && (match c.target with
      | .both => decide (x.panels.a.inForce.width = x.panels.b.inForce.width)
          && decide (x.panels.a.inForce.height = x.panels.b.inForce.height)
      | .one _ => true)

/-- A FIRST or ONLY cell on a picture stream (R84 to R86). -/
def State.sliceFirst (s : State) (c : PicCell) : State :=
  let s1 := match s.pxp.ctxOf c.sn with
    | some i => s.abortCtx i
    | none => s
  if s1.pxp.headerGood c then
    let h := readSlice c.bytes
    let s2 := s1.writePose h.frame h.pose
    match s2.pxp.freeCtx with
    | none => s2.onTarget c.target fun x => { x with noContextSlices := satInc x.noContextSlices }
    | some i =>
      let k : SliceCtx :=
        { sn := c.sn, target := c.target, frame := h.frame, first := h.first, count := h.count
          width := (s2.panel c.target.lead).inForce.width, nextLine := h.first, current := [], received := 0 }
      (s2.setCtx i (some k)).sliceBytes i k (c.bytes.drop 8) (decide (c.pos = .only))
  else s1.countMalformed c.target

/-- A MID or LAST cell on a picture stream (R86). -/
def State.sliceNext (s : State) (c : PicCell) : State :=
  match s.pxp.ctxOf c.sn with
  | none => s.onTarget c.target fun x => { x with orphanCells := satInc x.orphanCells }
  | some i =>
    match s.pxp.contexts[i] with
    | none => s
    | some k => if c.gap.isSome then s.abortCtx i else s.sliceBytes i k c.bytes (decide (c.pos = .last))

/-- A DATA cell handed to the picture path (R84 to R87). -/
def State.pictureCell (s : State) (c : PicCell) : State :=
  match c.pos with
  | .first => s.sliceFirst c
  | .only => s.sliceFirst c
  | .mid => s.sliceNext c
  | .last => s.sliceNext c

/-- All four contexts freed at a lock loss, without any count (R6, R87). -/
def Pxp.abortAll (x : Pxp) : Pxp := { x with contexts := Vector.replicate 4 none }

end Sys2Proof.Machine
end

