-- ==== Sys2Proof/Machine/Playout.lean ====
section
/-! DEFINITION. The audio unit's shared operations: the jitter buffer, blocks and gaps, the gain ramp, the servo, the mixer
and the microphone's blocks (chapter 8). -/

namespace Sys2Proof.Machine

open Sys2Proof

/-- Capacity of the jitter buffer (R139). -/
def bufferCapacity : Nat := 24

/-- The audio idle timeout in oscillator ticks: 100 ms (R142). -/
def idleTicks : Nat := 100 * msTicks

/-- Detail of AUDIO_UNDERRUN and AUDIO_OVERRUN: the owning stream and the kind's counter (R186, 12.4). -/
def audioDetail (owner counter : Nat) : List Byte := leBytes 1 owner ++ leBytes 4 counter

/-- A block appended to the jitter buffer; at a full buffer the oldest goes first and AUDIO_OVERRUN is raised (R139). -/
def State.audioAppend (s : State) (b : Block) : State :=
  if s.auu.buffer.length < bufferCapacity then s.onAuu fun a => { a with buffer := a.buffer ++ [b] }
  else
    ((s.onAuu fun a => { a with buffer := a.buffer.drop 1, overruns := satInc a.overruns }).raise .audioOverrun
      (audioDetail s.auu.owner (satInc s.auu.overruns))).onAuu fun a => { a with buffer := a.buffer ++ [b] }

/-- `n` silence blocks appended (R140). -/
def State.audioSilence : Nat → State → State
  | 0, s => s
  | n + 1, s => State.audioSilence n (s.audioAppend silence)

/-- In FILLING, the fill judged against the fill target in force (R139). -/
def Auu.judgeFill (a : Auu) : Auu :=
  if a.state = .filling ∧ a.fillTarget ≤ a.buffer.length then { a with state := .playing } else a

/-- A block of the owning stream by its gap indication, in FILLING or PLAYING (R137, R140). DESIGN CHOICE: where one arrival both
overruns the buffer and raises AUDIO_GAP, every AUDIO_OVERRUN is raised before AUDIO_GAP; the spec gives no order (log entry
45). -/
def State.audioOwned (s : State) (b : Block) (gap : Option Nat) : State :=
  match gap with
  | none => (s.audioAppend b).onAuu fun a => ({ a with blocks := satInc a.blocks } : Auu).judgeFill
  | some g =>
    if g ≤ 3 then
      (((s.audioSilence g).audioAppend b).onAuu fun a =>
        ({ a with silenceBlocks := satAdd a.silenceBlocks g, blocks := satInc a.blocks } : Auu).judgeFill).raise .audioGap
          (leBytes 1 s.auu.owner ++ leBytes 1 g)
    else if g ≤ 127 then
      ((s.onAuu fun a => { a with buffer := [], state := .filling }).audioAppend b).onAuu fun a =>
        ({ a with gapFlushes := satInc a.gapFlushes, blocks := satInc a.blocks } : Auu).judgeFill
    else s.onAuu fun a => { a with lateBlocks := satInc a.lateBlocks }

/-- The first block while STOPPED: its stream becomes the owner, and the state FILLING (R137). -/
def State.audioFirst (s : State) (sn : Fin 32) (b : Block) : State :=
  ((s.onAuu fun a => { a with owner := sn.val }).audioAppend b).onAuu fun a =>
    ({ a with blocks := satInc a.blocks, state := .filling, idleAt := some (s.osc + idleTicks) } : Auu).judgeFill

/-- A DATA cell handed to the audio unit (R137); the amp's request is the caller's. -/
def State.audioCell (s : State) (sn : Fin 32) (len : Nat) (bytes : List Byte) (gap : Option Nat) : State :=
  let b : Block := if len = 32 then blockOf bytes else silence
  let s1 := if len = 32 then s else s.onAuu fun a => { a with malformedBlocks := satInc a.malformedBlocks }
  if s.auu.state = .stopped then s1.audioFirst sn b
  else if s.auu.owner = sn.val then
    (s1.onAuu fun a => { a with idleAt := some (s.osc + idleTicks) }).audioOwned b gap
  else s1.onAuu fun a => { a with foreignBlocks := satInc a.foreignBlocks }

/-- Audio becomes STOPPED: the buffer is flushed, a block in playout is abandoned, the owner is released and the idle
timer stops (R142). -/
def Auu.halt (a : Auu) : Auu :=
  { a with state := .stopped, buffer := [], playout := none, owner := 0, idleAt := none }

/-- Target of the gain (R148). -/
def Auu.gainTarget (a : Auu) : Nat := min (if a.mute then 0 else a.volume) a.cap

/-- The gain stepped toward a target by at most 512 (R148). -/
def gainStep (gain target : Nat) : Nat :=
  if target + 512 < gain then gain - 512 else if gain + 512 < target then gain + 512 else target

/-- The servo's step for an error of fill against its target, clamped to ±16 (R145). -/
def servoStep (f : Int) (fill target : Nat) : Int :=
  let err : Int := (fill : Int) - target
  clampInt (-16) 16 (if 2 ≤ err then f - 1 else if err ≤ -2 then f + 1 else f)

/-- A period start is due: the period's 32 frames are out and the next frame's moment has come (R141). DESIGN CHOICE: a moment that
falls between two oscillator ticks is taken at the later one (log entry 53). -/
def State.periodDue (s : State) : Bool :=
  decide (s.auu.frameIdx = 32) && decide (s.auu.frameAt ≤ s.osc * 128)

/-- An output frame is due within the period (R141). DESIGN CHOICE: `frameAt` keeps the fraction of a tick that the divisor gives,
and a moment between two oscillator ticks is taken at the later one (log entry 53). -/
def State.frameDue (s : State) : Bool :=
  decide (s.auu.frameIdx < 32) && decide (s.auu.frameAt ≤ s.osc * 128)

/-- The period start's own work: a new period with the F of this moment, and the gain stepped (R141, R143, R148). -/
def Auu.newPeriod (a : Auu) : Auu :=
  { a with frameIdx := 0, periodF := a.servoF, gain := gainStep a.gain a.gainTarget }

/-- A period start (R143 to R145). -/
def State.period (s : State) : State :=
  let s1 := s.onAuu Auu.newPeriod
  if s1.auu.state = .playing then
    match s1.auu.buffer with
    | b :: rest =>
      s1.onAuu fun a =>
        { a with buffer := rest, playout := some b, servoF := servoStep a.servoF rest.length a.fillTarget }
    | [] =>
      (s1.onAuu fun a => { a with state := .filling, playout := none, underruns := satInc a.underruns }).raise
        .audioUnderrun (audioDetail s.auu.owner (satInc s.auu.underruns))
  else s1.onAuu fun a => { a with playout := none }

/-- One channel of the mixer: stream sample plus tone, saturated, times the gain, rounded and saturated (R146). -/
def mix (sample tone : Int) (gain : Nat) : Int :=
  clampInt (-32768) 32767 (roundDiv (clampInt (-32768) 32767 (sample + tone) * gain) 32768)

/-- The frame of the block in playout for this output frame, zeros without one (R143, R146). -/
def Auu.streamFrame (a : Auu) : Stereo := (a.playout.map fun b => b.getD a.frameIdx ⟨0, 0⟩).getD ⟨0, 0⟩

/-- An output frame: the mixer's result goes to the DAC port, the frame clock moves on by 512 + F/128 ticks, and every
third frame brings a microphone sample (R141, R146, R149). -/
def Auu.output (a : Auu) (tone : Int) : Auu :=
  { a with
    dacLeft := mix a.streamFrame.left.toInt tone a.gain
    dacRight := mix a.streamFrame.right.toInt tone a.gain
    frameIdx := a.frameIdx + 1
    frameAt := a.frameAt + (65536 + a.periodF).toNat
    micPhase := (a.micPhase + 1) % 3
    micDue := a.micDue || decide (a.micPhase = 2) }

/-- Capacity of the VOICE queue (R21). -/
def voiceCapacity : Nat := 8

/-- A microphone block enqueued; a full VOICE queue loses its oldest cell, counted (R21). -/
def Ltx.enqueueVoice (t : Ltx) (payload : List Byte) : Ltx :=
  if t.voice.length < voiceCapacity then { t with voice := t.voice ++ [payload] }
  else { t with voice := t.voice.drop 1 ++ [payload], voiceDrops := satInc t.voiceDrops }

/-- Samples of a complete microphone block (R149). -/
def micSamples : Nat := 44

/-- The block being built with one sample more; the first sample takes the tether time (R149). -/
def micTake (m : Option MicBlock) (now : Time) (x : Sample) : MicBlock :=
  match m with
  | none => { time := now, samples := [x] }
  | some b => { b with samples := b.samples ++ [x] }

/-- A microphone sample is due and captured (R149). -/
def State.micReady (s : State) : Bool := s.auu.micOn && s.auu.micDue

/-- A microphone sample taken into the block being built; the forty-fourth completes the block, which is handed to the
VOICE queue (R149, R150). -/
def State.micSample (s : State) (x : Sample) : State :=
  let b := micTake s.auu.mic s.now x
  if b.samples.length < micSamples then s.onAuu fun a => { a with micDue := false, mic := some b }
  else
    (s.onAuu fun a => { a with micDue := false, mic := none, micBlocks := satInc a.micBlocks }).onLtx fun t =>
      t.enqueueVoice b.payload

end Sys2Proof.Machine
end

