-- ==== Sys2Proof/Machine/Power.lean ====
section
/-! DEFINITION. The power manager: load requests, budget, allocation and what it hands to the other blocks, the power state
and the measurement (chapter 10). -/

namespace Sys2Proof.Machine

open Sys2Proof

/-! ### Requests (R178) -/

/-- The loads in entry order. -/
def allLoads : List (Fin 8) := [0, 1, 2, 3, 4, 5, 6, 7]

/-- A panel load's request: its floor while the panel is wanted (R80, R178). -/
def panelRequest (x : PanelState) (floor : Nat) : Nat := if x.written.enable || x.inForce.enable then floor else 0

/-- A backlight's request (R80). -/
def backlightRequest (x : PanelState) : Nat :=
  if x.written.enable then ceilDiv (x.written.fullPower * x.written.brightness) 1023 else 0

/-- Some poll entry has written enable 1 (R120). -/
def Mou.anyEnabled (m : Mou) : Bool := allEntries.any fun e => m.poll[e].cfg.enable

/-- The request of each load as its owner makes it (R178). -/
def State.wanted (s : State) (i : Fin 8) : Nat :=
  match i with
  | 0 => panelRequest (s.panel .a) s.pmg.loads[0].floor
  | 1 => panelRequest (s.panel .b) s.pmg.loads[1].floor
  | 2 => backlightRequest (s.panel .a)
  | 3 => backlightRequest (s.panel .b)
  | 4 => if s.auu.state = .stopped then 0 else s.auu.ampPower
  | 5 => if s.pte.chanH.isSome then s.pte.hapticPower else 0
  | 6 => if s.mou.anyEnabled then s.mou.sensorPower else 0
  | 7 => if s.pmg.loads[7].switch then s.pmg.loads[7].floor else 0

/-- The loads with the requests their owners make now. -/
def State.requested (s : State) : Vector Load 8 :=
  Vector.ofFn fun i => { s.pmg.loads[i] with request := s.wanted i }

/-! ### Budget and passes (R176, R179, R180) -/

/-- The budget of a power state (R176); natural subtraction is the max with 0. -/
def budgetOf (c : PowerCfg) : PowerState → Nat
  | .held => 0
  | .normal => c.limit - c.reserve
  | .constrained => c.limit * 3 / 4 - c.reserve
  | .shed => c.limit / 2 - c.reserve
  | .trip => 0

/-- Effective floor of a load (R178). -/
def Load.effFloor (l : Load) : Nat := min l.floor l.request

/-- A load's top-up (R180). -/
def Load.topUp (l : Load) : Nat := l.request - l.effFloor

/-- The loads in allocation order: priority from 7 down, entry number within a priority (R179). -/
def loadOrder (v : Vector Load 8) : List (Fin 8) :=
  [7, 6, 5, 4, 3, 2, 1, 0].flatMap fun p => allLoads.filter fun i => decide (v[i].priority = p)

/-- An allocation in progress: the remainder, each load's grant so far, and whether it is eligible for pass 2. -/
structure Alloc where
  rest     : Nat
  grants   : Vector Nat 8
  eligible : Vector Bool 8
  deriving DecidableEq, Repr

/-- An amount taken from the remainder for a load. -/
def Alloc.give (a : Alloc) (i : Fin 8) (n : Nat) : Alloc :=
  { a with rest := a.rest - n, grants := tabMod a.grants i (· + n) }

/-- Pass 1 for one load (R179). -/
def Alloc.pass1 (v : Vector Load 8) (a : Alloc) (i : Fin 8) : Alloc :=
  if v[i].effFloor ≤ a.rest then a.give i v[i].effFloor else { a with eligible := a.eligible.set i false }

/-- A load's top-up in pass 2: none for a load that pass 1 left out (R179, R180; log entry 30). -/
def Alloc.top (v : Vector Load 8) (a : Alloc) (i : Fin 8) : Nat := if a.eligible[i] then v[i].topUp else 0

/-- What the two members of the backlight pair take of a remainder: A is offered the larger half, and what one leaves of
its offer passes to the other (R180). -/
def pairTake (rest topA topB : Nat) : Nat × Nat :=
  let offerA := rest - rest / 2
  let offerB := rest / 2
  let a := min offerA topA
  let b := min offerB topB
  (a + min (offerB - b) (topA - a), b + min (offerA - a) (topB - b))

/-- Pass 2 for one load: the mode decides what it takes; the pair takes its turn at entry 2 (R180). -/
def Alloc.pass2 (v : Vector Load 8) (a : Alloc) (i : Fin 8) : Alloc :=
  match i with
  | 0 => a
  | 1 => a
  | 2 =>
    let t := pairTake a.rest (a.top v 2) (a.top v 3)
    (a.give 2 t.1).give 3 t.2
  | 3 => a
  | 4 => a.give 4 (min (a.top v 4) a.rest)
  | 5 => a.give 5 (min (a.top v 5) a.rest)
  | 6 => if a.top v 6 ≤ a.rest then a.give 6 (a.top v 6) else a
  | 7 => a

/-- The grants of an allocation of a budget (R179, R180). -/
def grantsOf (v : Vector Load 8) (budget : Nat) : Vector Nat 8 :=
  let start : Alloc := { rest := budget, grants := Vector.replicate 8 0, eligible := Vector.replicate 8 true }
  let one := (loadOrder v).foldl (Alloc.pass1 v) start
  ((loadOrder v).foldl (Alloc.pass2 v) one).grants

/-- HELD and TRIP grant nothing (R179). -/
def PowerState.grantsNone : PowerState → Bool
  | .held => true
  | .normal => false
  | .constrained => false
  | .shed => false
  | .trip => true

/-- Load state of a request and a grant (R181). -/
def loadState (request grant : Nat) : LoadState :=
  if request = 0 then .off else if grant = request then .full else if 0 < grant then .reduced else .shed

/-- A load with a grant set: its state is set anew, and a move into SHED is counted (R181). -/
def Load.granted (l : Load) (grant : Nat) : Load :=
  { l with
    grant := grant
    state := loadState l.request grant
    sheds := satAdd l.sheds (bit (decide (loadState l.request grant = .shed ∧ l.state ≠ .shed))) }

/-- The loads table after an allocation (R179 to R181). -/
def allocated (v : Vector Load 8) (st : PowerState) (budget : Nat) : Vector Load 8 :=
  let g := if st.grantsNone then Vector.replicate 8 0 else grantsOf v budget
  Vector.ofFn fun i => v[i].granted g[i]

/-! ### Derived values (R182, R183) -/

/-- A derived value: floor(grant × top ÷ divisor) up to the top, the top with divisor 0, and 0 in HELD and TRIP (R182). -/
def derived (st : PowerState) (grant divisor top : Nat) : Nat :=
  if st.grantsNone then 0 else if divisor = 0 then top else min top (grant * top / divisor)

/-- The sensor class of the SENSORS load (R120, R183). -/
def classOf (st : PowerState) (l : Load) : SensorClass :=
  if st.grantsNone then .suspended
  else if l.request ≤ l.grant then .full
  else if l.effFloor ≤ l.grant then .reduced
  else .suspended

/-- Code of a power state (R167). -/
def PowerState.code : PowerState → Nat
  | .held => 0
  | .normal => 1
  | .constrained => 2
  | .shed => 3
  | .trip => 4

/-- GRANT_CHANGE detail (R181, 12.4). -/
def Pmg.grantDetail (p : Pmg) : List Byte :=
  leBytes 1 p.state.code ++ leBytes 2 p.budget ++ allLoads.flatMap fun i => leBytes 2 p.loads[i].grant

/-- The panel's load entry. -/
def Side.load : Side → Fin 8
  | .a => 0
  | .b => 1

/-- A panel's power handed to the picture path: a grant that falls to 0 or rises above 0 (R81, R82, R183). -/
def State.handPanel (s : State) (p : Side) (old new : Nat) : State :=
  if 0 < old ∧ new = 0 then s.panelOff p else if old = 0 ∧ 0 < new then s.panelWake p else s

/-- The derived values handed to PXP, AUU, PTE and the AUX switch (R182, R183). -/
def State.handDerived (s : State) : State :=
  let st := s.pmg.state
  let v := s.pmg.loads
  ((s.onPmg fun p =>
    { p with
      ceilings := ⟨derived st v[2].grant (s.panel .a).written.fullPower 1023,
        derived st v[3].grant (s.panel .b).written.fullPower 1023⟩
      auxOn := decide (0 < v[7].grant) }).onAuu fun a =>
        { a with cap := derived st v[4].grant s.auu.ampPower 32768 }).onPte fun x =>
          { x with capHanded := derived st v[5].grant s.pte.hapticPower 255 }

/-- Allocation: the grants and load states of the requests as they stand, GRANT_CHANGE if a grant changed, and every
hand-over (R179 to R183). -/
def State.allocate (s : State) : State :=
  let old := s.pmg.loads
  let new := allocated s.requested s.pmg.state s.pmg.budget
  let s1 := s.onPmg fun p => { p with loads := new }
  let s2 := if (allLoads.any fun i => decide (old[i].grant ≠ new[i].grant)) then
      s1.raise .grantChange s1.pmg.grantDetail
    else s1
  (((s2.handDerived).handClass (classOf s.pmg.state new[6])).handPanel .a old[0].grant new[0].grant).handPanel .b
    old[1].grant new[1].grant

/-- Some load's request differs from the one PMG holds (R178). -/
def State.requestChanged (s : State) : Bool := allLoads.any fun i => decide (s.pmg.loads[i].request ≠ s.wanted i)

/-- Changed requests are followed by allocation (R178, R179). DESIGN CHOICE: requests that one event changes together are followed
by one allocation (log entry 14), and a request that is 0 before and after, its power being 0, is no change (log entry 46). -/
def State.refreshLoads (s : State) : State := if s.requestChanged then s.allocate else s

/-- The budget is formed (R176), and PMG allocates (R179). -/
def State.budgetAndAllocate (s : State) : State :=
  (s.onPmg fun p => { p with budget := budgetOf p.cfg p.state }).allocate

/-! ### The power state (R170 to R175) -/

/-- Cause of a change of the power state (R175). -/
inductive PowerCause
  | loadEnd | ladder | trip | recovery | current | store
  deriving DecidableEq, Repr

/-- Code of a cause (12.4). -/
def PowerCause.code : PowerCause → Nat
  | .loadEnd => 0
  | .ladder => 1
  | .trip => 2
  | .recovery => 3
  | .current => 4
  | .store => 5

/-- POWER_STATE detail (R175, 12.4). -/
def powerDetail (old new : PowerState) (f : Sense) (c : PowerCause) : List Byte :=
  leBytes 1 old.code ++ leBytes 1 new.code ++ leBytes 2 f.mv ++ leBytes 2 f.ma ++ leBytes 1 c.code

/-- The power manager's own part of a change of state; an entry to TRIP is counted and its recovery count restarts (R172,
R175). -/
def Pmg.toState (p : Pmg) (new : PowerState) : Pmg :=
  { p with
    state := new
    stateChanges := satInc p.stateChanges
    recoverCount := if new = .trip then 0 else p.recoverCount
    trips := satAdd p.trips (bit (decide (new = .trip))) }

/-- TRIP handed to the picture path and the pattern engine, at its entry or when it is left (R100, R166, R172). -/
def State.handTrip (s : State) (old new : PowerState) : State :=
  if new = .trip then (((s.holdStrobe .a).holdStrobe .b).patternTrip)
  else if old = .trip then ((s.releaseStrobe .a).releaseStrobe .b).onPte Pte.leaveTrip
  else s

/-- A change of the power state without its allocation: POWER_STATE is raised and the state published (R175). DESIGN CHOICE:
POWER_STATE comes before what the TRIP hand-overs raise (log entry 18). -/
def State.moveState (s : State) (new : PowerState) (c : PowerCause) : State :=
  ((s.onPmg fun p => p.toState new).raise .powerState (powerDetail s.pmg.state new s.pmg.filtered c)).handTrip
    s.pmg.state new

/-- A change of the power state followed by budget and allocation (R175, R176, R179). -/
def State.powerTo (s : State) (new : PowerState) (c : PowerCause) : State :=
  if s.pmg.state = new then s else (s.moveState new c).budgetAndAllocate

/-- The voltage ladder from a state with a filtered voltage; under the current hold no row climbs (R171, R173). -/
def ladder (c : PowerCfg) (hold : Bool) (st : PowerState) (f : Nat) : PowerState :=
  let climb (new : PowerState) : PowerState := if hold then st else new
  match st with
  | .normal => if f < c.vShed then .shed else if f < c.vWarn then climb .constrained else .normal
  | .constrained =>
    if f < c.vShed then .shed else if c.vWarn + c.hysteresis ≤ f then climb .normal else .constrained
  | .shed =>
    if c.vWarn + c.hysteresis ≤ f then climb .normal
    else if c.vShed + c.hysteresis ≤ f then climb .constrained
    else .shed
  | .held => .held
  | .trip => .trip

/-- The choice made when loading ends (R170). -/
def loadEndChoice (p : Pmg) : PowerState :=
  if p.latest.mv < p.cfg.vTrip then .trip
  else
    let c : PowerState :=
      if p.cfg.vWarn ≤ p.filtered.mv then .normal else if p.cfg.vShed ≤ p.filtered.mv then .constrained else .shed
    if p.hold = true ∧ c ≠ .shed then .shed else c

/-- The loader has entered an end state, and the power state leaves HELD; with no measurement taken it stays HELD until
the first one (R170). -/
def State.loadEndPower (s : State) : State :=
  if s.pmg.state = .held ∧ s.pmg.window ≠ [] then s.powerTo (loadEndChoice s.pmg) .loadEnd else s

/-- Floor of a mean over the window (R168). -/
def meanOf (xs : List Nat) : Nat := xs.sum / xs.length

/-- Steps 1 to 3 of a measurement (R168). The measurement range is that of 12.6. -/
def Pmg.sense (p : Pmg) (mv ma : Nat) : Pmg :=
  let x : Sense := ⟨min mv 8000, min ma 4000⟩
  let w := (if p.window.length < 8 then p.window else p.window.drop 1) ++ [x]
  { p with latest := x, window := w, filtered := ⟨meanOf (w.map Sense.mv), meanOf (w.map Sense.ma)⟩ }

/-- The measurement is good for TRIP recovery (R172). -/
def Pmg.recovers (p : Pmg) : Bool :=
  decide (p.cfg.vShed + p.cfg.hysteresis ≤ p.filtered.mv) && decide (p.cfg.vTrip ≤ p.latest.mv)

/-- TRIP entry and recovery at a measurement that found the state `st` (R172). -/
def State.judgeTrip (s : State) (st : PowerState) : State :=
  match st with
  | .held => s
  | .trip =>
    if s.pmg.recovers then
      if s.pmg.recoverCount + 1 = 8 then
        (s.onPmg fun p => { p with recoverCount := 0 }).powerTo .shed .recovery
      else s.onPmg fun p => { p with recoverCount := p.recoverCount + 1 }
    else s.onPmg fun p => { p with recoverCount := 0 }
  | .normal => if s.pmg.latest.mv < s.pmg.cfg.vTrip then s.powerTo .trip .trip else s
  | .constrained => if s.pmg.latest.mv < s.pmg.cfg.vTrip then s.powerTo .trip .trip else s
  | .shed => if s.pmg.latest.mv < s.pmg.cfg.vTrip then s.powerTo .trip .trip else s

/-- The counts of the current hold at a measurement (R173). -/
def Pmg.currentCounts (p : Pmg) : Pmg :=
  if p.hold then
    if p.filtered.ma ≤ p.cfg.iMax then
      if p.underCount + 1 = 8 then { p with hold := false, underCount := 0 }
      else { p with underCount := p.underCount + 1 }
    else { p with underCount := 0 }
  else if p.cfg.iMax < p.filtered.ma then
    if p.overCount + 1 = 4 then
      { p with hold := true, overCount := 0, underCount := 0, currentHolds := satInc p.currentHolds }
    else { p with overCount := p.overCount + 1 }
  else { p with overCount := 0 }

/-- The current hold at a measurement; when it begins, NORMAL and CONSTRAINED become SHED (R173). -/
def State.judgeCurrent (s : State) : State :=
  let s1 := s.onPmg Pmg.currentCounts
  if s1.pmg.hold = true ∧ s.pmg.hold = false ∧ (s.pmg.state = .normal ∨ s.pmg.state = .constrained) then
    s1.powerTo .shed .current
  else s1

/-- The voltage ladder at a measurement that found NORMAL, CONSTRAINED or SHED and has not entered TRIP (R171). -/
def State.judgeLadder (s : State) (st : PowerState) : State :=
  if st = .held ∨ st = .trip then s
  else s.powerTo (ladder s.pmg.cfg s.pmg.hold s.pmg.state s.pmg.filtered.mv) .ladder

/-- A measurement (R168, R170 to R173). A HELD state whose loading has ended makes its choice here (R170). -/
def State.measure (s : State) (mv ma : Nat) : State :=
  let st := s.pmg.state
  let s1 := ((s.onPmg fun p => p.sense mv ma).judgeTrip st).judgeCurrent.judgeLadder st
  if s1.cfl.state = .loading then s1 else s1.loadEndPower

/-- A measurement is due on the 1 ms cadence (R168). -/
def State.measureDue (s : State) : Bool := decide (s.clock.measAt ≤ s.osc)

/-- MEASUREMENT (R168). -/
def execMeasurement (mv ma : Nat) (s : State) : Host.Outcome State Fault Refusal :=
  .next (s.live fun s =>
    if s.measureDue then
      (s.onClock fun c => { c with measAt := c.measAt + msTicks }).edged fun s => s.measure mv ma
    else s)

/-- The power state re-evaluated from the measurements held: the TRIP rule, then the ladder; HELD and TRIP stay (R174). -/
def Pmg.rejudged (p : Pmg) : PowerState :=
  match p.state with
  | .held => .held
  | .trip => .trip
  | st => if p.latest.mv < p.cfg.vTrip then .trip else ladder p.cfg p.hold st p.filtered.mv

/-- A store of the power table: the new values are in force, the state is re-evaluated from the measurements held, then
budget and allocation once (R174). -/
def State.storePower (s : State) (c : PowerCfg) : State :=
  let s1 := s.onPmg fun p => { p with cfg := c }
  (if s1.pmg.state = s1.pmg.rejudged then s1 else s1.moveState s1.pmg.rejudged .store).budgetAndAllocate

end Sys2Proof.Machine
end

