-- ==== Sys2Proof/Machine/Audio.lean ====
section
/-! DEFINITION. The audio unit's rows: PERIOD_START, OUTPUT_FRAME, IDLE_TIMER_EXPIRY, MICROPHONE_SAMPLE and
MIC_BLOCK_COMPLETE (chapter 8). -/

namespace Sys2Proof.Machine

open Sys2Proof

/-- PERIOD_START (R143). -/
def execPeriodStart (s : State) : Host.Outcome State Fault Refusal :=
  .next (s.live fun s => if s.periodDue then s.period else s)

/-- OUTPUT_FRAME (R146). -/
def execOutputFrame (s : State) : Host.Outcome State Fault Refusal :=
  .next (s.live fun s => if s.frameDue then s.onAuu fun a => a.output s.pte.tone else s)

/-- The audio idle timer has run (R142). -/
def State.idleExpired (s : State) : Bool :=
  match s.auu.idleAt with
  | some t => decide (t ≤ s.osc)
  | none => false

/-- IDLE_TIMER_EXPIRY (R142): audio is STOPPED, the stop is counted, and the amp's request falls to 0 (R151). -/
def execIdleTimerExpiry (s : State) : Host.Outcome State Fault Refusal :=
  .next (s.live fun s =>
    if s.idleExpired then (s.onAuu fun a => { a.halt with idleStops := satInc a.idleStops }).refreshLoads else s)

/-- Samples in the microphone block being built. -/
def Auu.micCount (a : Auu) : Nat := (a.mic.map fun b => b.samples.length).getD 0

/-- MICROPHONE_SAMPLE (R149): the sample that is due is taken. -/
def execMicrophoneSample (x : Sample) (s : State) : Host.Outcome State Fault Refusal :=
  .next (s.live fun s => if s.micReady then s.micSample x else s)

/-- MIC_BLOCK_COMPLETE (R149): the forty-fourth sample. -/
def execMicBlockComplete (x : Sample) (s : State) : Host.Outcome State Fault Refusal :=
  .next (s.live fun s =>
    if s.micReady then (if s.auu.micCount + 1 = micSamples then s.micSample x else s) else s)

end Sys2Proof.Machine
end

