-- ==== Sys2Proof/Machine/LateShift.lean ====
section
/-! DEFINITION. The late shift unit: one evaluation of the OPEN frame record (chapter 7). -/

namespace Sys2Proof.Machine

open Sys2Proof

/-- The pose case of an evaluation (R124). -/
inductive PoseCase
  | noPose | poseAhead | empty | integrate
  deriving DecidableEq, Repr

/-- The pose case of a record's pose time against the evaluation time (R124). -/
def poseCase (pose : Option Time) (S : Time) : PoseCase :=
  match pose with
  | none => .noPose
  | some p => if tdiff S p < 0 then .poseAhead else if tdiff S p = 0 then .empty else .integrate

/-- Length of the overlap of a stretch (c, t] with (p, 0], all counted from the evaluation time (R126). -/
def overlap (c t p : Int) : Int := max 0 (min t 0 - max c p)

/-- The contributions of the entries after `prev`, and the newest entry's extrapolation, to one angle: entry k covers the
interval since the entry before it, at most 5000 µs, and the newest reaches at most 5000 µs past its timestamp (R125 to
R127). Times are counted from S, so P stands at `p`. DESIGN CHOICE: the 5000 µs are taken off and added without wrapping (log
entry 44). -/
def integrateFrom (S : Time) (p : Int) (rate : GyroEntry → Int) : GyroEntry → List GyroEntry → Int
  | newest, [] =>
    rate newest * overlap (tdiff newest.time S) (min 0 (tdiff newest.time S + 5000)) p
  | prev, k :: ks =>
    rate k * overlap (max (tdiff prev.time S) (tdiff k.time S - 5000)) (tdiff k.time S) p + integrateFrom S p rate k ks

/-- The largest magnitude of an angle, in nrad (R129). -/
def angleMax : Int := 2147483647

/-- One angle from the gyro history over (P, S], saturated once at the end; an empty history gives 0 (R125 to R129). -/
def integrateAngle (S P : Time) (rate : GyroEntry → Int) (history : List GyroEntry) : Int :=
  match history with
  | [] => 0
  | e :: es => clampInt (-angleMax) angleMax (integrateFrom S (tdiff P S) rate e es)

/-- The history is short for an integration from P: it is empty, or P is before its oldest timestamp t_1 (R128, 0.5). -/
def shortHistory (P : Time) (history : List GyroEntry) : Bool :=
  match history with
  | [] => true
  | e :: _ => before P e.time

/-- An unclamped shift: angle × gain ÷ 2^32, rounded halves away from zero, negated under MINUS (R130). -/
def unclampedShift (angle : Int) (gain : Nat) (minus : Bool) : Int :=
  let v := roundDiv (angle * gain) 4294967296
  if minus then -v else v

/-- A panel's unclamped shifts (R130). -/
def unclampedSide (g : Angles) (c : ShiftSide) : Shift :=
  { dx := unclampedShift g.yaw c.kx c.minusX, dy := unclampedShift g.pitch c.ky c.minusY }

/-- A panel's shifts clamped to its limits in force (R131). -/
def clampSide (u : Shift) (c : ShiftSide) : Shift :=
  { dx := clampInt (-c.limX) c.limX u.dx, dy := clampInt (-c.limY) c.limY u.dy }

/-- The four unclamped shifts (R130). -/
def unclampedBoth (g : Angles) (c : ShiftCfg) : Duo Shift :=
  { a := unclampedSide g c.sides.a, b := unclampedSide g c.sides.b }

/-- The four clamped shifts (R131). -/
def clampBoth (u : Duo Shift) (c : ShiftCfg) : Duo Shift :=
  { a := clampSide u.a c.sides.a, b := clampSide u.b c.sides.b }

/-- The angles of an evaluation (R123 step 5). -/
def evalAngles (S : Time) (pose : Option Time) (history : List GyroEntry) : Angles :=
  match poseCase pose S, pose with
  | .integrate, some p =>
    { yaw := integrateAngle S p GyroEntry.yaw history, pitch := integrateAngle S p GyroEntry.pitch history }
  | _, _ => { yaw := 0, pitch := 0 }

/-- The evaluation sets HISTORY_SHORT (R128). -/
def evalShort (S : Time) (pose : Option Time) (history : List GyroEntry) : Bool :=
  match poseCase pose S, pose with
  | .integrate, some p => shortHistory p history
  | _, _ => false

/-- The evaluation clamps: the shift is enabled and a limit changed one of the four values (R131, R133). -/
def evalClamps (g : Angles) (c : ShiftCfg) : Bool :=
  c.enable && decide (clampBoth (unclampedBoth g c) c ≠ unclampedBoth g c)

/-- The shifts an evaluation writes: the clamped ones, or 0 with the shift disabled (R131, R133). -/
def evalShifts (g : Angles) (c : ShiftCfg) : Duo Shift :=
  if c.enable then clampBoth (unclampedBoth g c) c else ⟨⟨0, 0⟩, ⟨0, 0⟩⟩

/-- The record as an evaluation at S leaves it (R69, R123 step 7). -/
def evalRecord (r : FrameRec) (S : Time) (history : List GyroEntry) (c : ShiftCfg) : FrameRec :=
  let g := evalAngles S r.pose history
  { r with
    state := .evaluated
    evalTime := some S
    angles := some g
    shifts := some (evalShifts g c)
    flags := { r.flags with
      noPose := decide (poseCase r.pose S = .noPose)
      poseAhead := decide (poseCase r.pose S = .poseAhead)
      historyShort := evalShort S r.pose history
      clamped := evalClamps g c } }

/-- HISTORY_SHORT detail: frame number, P, S, t_1, with t_1 as 0 when the history is empty (R128, 12.4). -/
def shortDetail (r : FrameRec) (S : Time) (history : List GyroEntry) : List Byte :=
  leBytes 2 r.number.toNat ++ leBytes 4 (timeOr0 r.pose) ++ leBytes 4 S.toNat
    ++ leBytes 4 (timeOr0 (history.head?.map GyroEntry.time))

/-- SHIFT_CLAMPED detail: frame number and the four unclamped values (R131, 12.4). -/
def clampDetail (r : FrameRec) (u : Duo Shift) : List Byte :=
  leBytes 2 r.number.toNat ++ leBytesInt 4 u.a.dx ++ leBytesInt 4 u.a.dy ++ leBytesInt 4 u.b.dx ++ leBytesInt 4 u.b.dy

/-- The late shift unit's counters after an evaluation, with the written table come into force (R122, R123). -/
def Lsu.afterEval (l : Lsu) (r : FrameRec) : Lsu :=
  { l with
    inForce := l.written
    evaluations := satInc l.evaluations
    noPoseFrames := satAdd l.noPoseFrames (bit r.flags.noPose)
    poseAheadFrames := satAdd l.poseAheadFrames (bit r.flags.poseAhead)
    shortHistoryFrames := satAdd l.shortHistoryFrames (bit r.flags.historyShort)
    clampedFrames := satAdd l.clampedFrames (bit r.flags.clamped) }

/-- The evaluation of the OPEN record at this event (R69, R123). Nothing happens when no record is OPEN. -/
def State.evaluate (s : State) : State :=
  match s.ftm.upcoming with
  | none => s
  | some r =>
    if r.state = .opened then
      let c := s.lsu.written
      let r1 := evalRecord r s.now s.mou.history c
      let s1 := (s.onLsu fun l => l.afterEval r1).onFtm fun t => { t with upcoming := some r1 }
      let s2 := if r1.flags.historyShort then s1.raise .historyShort (shortDetail r s.now s.mou.history) else s1
      if r1.flags.clamped then
        s2.raise .shiftClamped (clampDetail r (unclampedBoth (evalAngles s.now r.pose s.mou.history) c))
      else s2
    else s

/-- EVALUATION (R71): the evaluation due at S. -/
def execEvaluation (s : State) : Host.Outcome State Fault Refusal :=
  .next (s.live fun s => if s.evaluationDue then s.evaluate else s)

end Sys2Proof.Machine
end

