-- ==== Sys2Proof/Machine/FrameTimer.lean ====
section
/-! DEFINITION. The frame timer: the schedule, targets, display lock, frame starts and the exposure generators (chapter 4),
with what the picture path does at a frame start (5.1 to 5.6). -/

namespace Sys2Proof.Machine

open Sys2Proof

/-! ### Placing the schedule (R60, R61) -/

/-- A FREE placement: the first start one written nominal period from now, for frame 0 (R60, R61). -/
def Ftm.placeFree (t : Ftm) (now : Time) : Ftm :=
  let start := now + BitVec.ofNat 32 t.written.period
  { t with sNext := start, upcoming := some (FrameRec.fresh 0 start), schedule := .starting }

/-- The schedule leaves IDLE as the loader enters an end state (R60). -/
def Ftm.leaveIdle (t : Ftm) (now : Time) : Ftm :=
  if t.written.linked then { t with schedule := .awaiting } else t.placeFree now

/-- How many nominal periods bring a start at least 100 µs after now (R61). -/
def placePeriods (d : Int) (period : Nat) : Nat := ceilDiv (100 - d).toNat period

/-- The placement of the first frame by the first target in AWAITING (R61). -/
def Ftm.place (t : Ftm) (n : FrameNo) (target now : Time) : Ftm :=
  let k := placePeriods (tdiff target now) t.written.period
  let start := target + BitVec.ofNat 32 (k * t.written.period)
  { t with
    sNext := start, upcoming := some (FrameRec.fresh (n + BitVec.ofNat 16 k) start), lastPhaseError := 0
    display := .pulling, inCount := 1, outCount := 0, targetTaken := true, schedule := .starting }

/-! ### Targets (R64 to R66) -/

/-- F, or 0 before the first frame start (R59). -/
def Ftm.F (t : Ftm) : FrameNo := t.scanFrame.getD 0

/-- k of a used target (R65). -/
def Ftm.targetK (t : Ftm) (n : FrameNo) : Nat := (n - (t.F + 1)).toNat

/-- e of a used target (R65). -/
def Ftm.targetE (t : Ftm) (n : FrameNo) (target : Time) : Int :=
  if t.targetK n ≤ 3 then tdiff target (t.sNext + BitVec.ofNat 32 (t.targetK n * t.inForce.period))
  else tdiff target t.sNext

/-- s_next after the correction of a used target: at most the phase step, and never earlier than 100 µs from now (R65). -/
def Ftm.corrected (t : Ftm) (e : Int) (now : Time) : Time :=
  let x := tadd t.sNext (clampInt (-t.inForce.phaseStep) t.inForce.phaseStep e)
  if before x (now + 100) then now + 100 else x

/-- The correction and, for a target the schedule does not expect, the pending renumber (R65, R68). -/
def Ftm.useTarget (t : Ftm) (n : FrameNo) (target now : Time) : Ftm :=
  let e := t.targetE n target
  let start := t.corrected e now
  let t1 := { t with
    lastPhaseError := e, sNext := start, targetTaken := true, noTarget := 0
    upcoming := t.upcoming.map fun r => { r with start := start } }
  if t.targetK n ≤ 3 then t1
  else { t1 with renumber := some n, upcoming := t1.upcoming.map fun r => r.renumbered n }

/-- DISPLAY_LOCK detail (R186). -/
def lockDetail (f : FrameNo) (e : Int) : List Byte := leBytes 2 f.toNat ++ leBytesInt 4 e

/-- DISPLAY_UNLOCK detail; cause 0 OUT_OF_WINDOW, 1 HOLDOVER, 2 MODE (R186). -/
def unlockDetail (f : FrameNo) (cause : Nat) : List Byte := leBytes 2 f.toNat ++ leBytes 1 cause

/-- The display becomes LOCKED (R66). -/
def State.displayLocks (s : State) (e : Int) : State :=
  (s.onFtm fun t => { t with display := .locked, outCount := 0 }).raise .displayLock (lockDetail s.ftm.F e)

/-- The display becomes PULLING with an in-window count (R66). -/
def Ftm.pull (t : Ftm) (n : Nat) : Ftm := { t with display := .pulling, inCount := n }

/-- The display lock machine at a used target with phase error e (R66). -/
def State.judgeLock (s : State) (e : Int) : State :=
  let inWindow := decide (e.natAbs ≤ s.ftm.inForce.lockWindow)
  match s.ftm.display, inWindow with
  | .free, true => s.onFtm fun t => t.pull 1
  | .free, false => s.onFtm fun t => t.pull 0
  | .pulling, true =>
    let s1 := s.onFtm fun t => { t with inCount := t.inCount + 1 }
    if 4 ≤ s.ftm.inCount + 1 then s1.displayLocks e else s1
  | .pulling, false => s.onFtm fun t => { t with inCount := 0 }
  | .locked, true => s.onFtm fun t => { t with outCount := 0 }
  | .locked, false =>
    let s1 := s.onFtm fun t => { t with outCount := t.outCount + 1 }
    if 2 ≤ s.ftm.outCount + 1 then (s1.onFtm fun t => t.pull 0).raise .displayUnlock (unlockDetail s.ftm.F 0) else s1
  | .holdover, true => s.displayLocks e
  | .holdover, false => s.onFtm fun t => t.pull 0

/-- An evaluation that has fallen due at this event is taken at it (R71). -/
def State.evaluateIfDue (s : State) : State := if s.evaluationDue then s.evaluate else s

/-- Extra targets rises by 1. -/
def Ftm.extra (t : Ftm) : Ftm := { t with extraTargets := satInc t.extraTargets }

/-- A target handed by the link receiver (R61, R64 to R66). DESIGN CHOICE: the display lock is judged before an evaluation that
the target has made due; the spec gives their events no order (log entry 12). -/
def State.target (s : State) (n : FrameNo) (target : Time) : State :=
  match s.ftm.schedule with
  | .idle => s
  | .awaiting => (s.onFtm fun t => t.place n target s.now).evaluateIfDue
  | .starting => if s.ftm.targetTaken then s.onFtm Ftm.extra else s
  | .running =>
    if !s.ftm.inForce.linked then s
    else if s.ftm.targetTaken then s.onFtm Ftm.extra
    else ((s.onFtm fun t => t.useTarget n target s.now).judgeLock (s.ftm.targetE n target)).evaluateIfDue

/-! ### Re-base (R63) -/

/-- A generator's times moved: the start of a PENDING pulse, the end of one that is ON, whose start is already past (R63). -/
def Generator.rebase (g : Generator) (d : Int) : Generator :=
  match g.state with
  | .idle => g
  | .pending => { g with startAt := tadd g.startAt d }
  | .on => { g with endAt := tadd g.endAt d }

/-- The frame timer's future times moved (R63). -/
def Ftm.rebase (t : Ftm) (d : Int) : Ftm :=
  { t with
    sNext := if t.schedule = .starting ∨ t.schedule = .running then tadd t.sNext d else t.sNext
    upcoming := t.upcoming.map fun r => { r with start := tadd r.start d }
    gens := ⟨t.gens.a.rebase d, t.gens.b.rebase d⟩ }

/-- A panel's strobe times moved (R99). -/
def PanelState.rebaseStrobe (x : PanelState) (d : Int) : PanelState :=
  match x.strobe with
  | .idle => x
  | .pending => { x with strobeAt := tadd x.strobeAt d }
  | .on => { x with strobeEnd := tadd x.strobeEnd d }
  | .held => x

/-- The re-base of FTM, PXP and MOU at a load of tether time (R63, R99, R112). -/
def State.rebase (s : State) (d : Int) : State :=
  ((s.onFtm fun t => t.rebase d).onPxp fun x =>
    { x with panels := ⟨x.panels.a.rebaseStrobe d, x.panels.b.rebaseStrobe d⟩ }).onMou fun m => m.rebase d

/-! ### Exposure generators (R75 to R77) -/

/-- A pulse suppressed and counted. -/
def Generator.suppress (g : Generator) : Generator := { g with suppressed := satInc g.suppressed }

/-- A generator at a frame start of frame F, its written values in force (R76). -/
def Generator.frameStart (g : Generator) (F : FrameNo) (sF sNext : Time) : Generator :=
  let g1 : Generator :=
    match g.state with
    | .idle => { g with inForce := g.written }
    | .pending => { g.suppress with inForce := g.written, state := .idle }
    | .on => { g with inForce := g.written, crossed := true }
  let t := sF + BitVec.ofNat 32 g.written.offset
  if g.written.enable = true ∧ g.written.aEnd = false ∧ F.toNat % g.written.divider = 0 then
    if !before t sNext || decide (g.state = .on) then g1.suppress else { g1 with state := .pending, startAt := t }
  else g1

/-- A PENDING pulse's start has been reached (R76). -/
def State.expStartDue (s : State) (g : Side) : Bool :=
  decide ((s.ftm.gens.get g).state = .pending) && reached s.now (s.ftm.gens.get g).startAt

/-- An ON pulse's end has been reached (R76). -/
def State.expEndDue (s : State) (g : Side) : Bool :=
  decide ((s.ftm.gens.get g).state = .on) && reached s.now (s.ftm.gens.get g).endAt

/-- A pulse begins, on the line in force (R76). -/
def Generator.begin (g : Generator) (F : FrameNo) : Generator :=
  { g with
    state := .on, pulses := satInc g.pulses, endAt := g.startAt + BitVec.ofNat 32 g.inForce.width
    pulseLine := g.inForce.line, frame := F, crossed := false }

/-- Generator B at the end of A's pulse (R77). -/
def Generator.follow (b a : Generator) (sNext : Time) : Generator :=
  let t := a.endAt + BitVec.ofNat 32 b.inForce.offset
  if b.inForce.enable = true ∧ b.inForce.aEnd = true ∧ a.frame.toNat % b.inForce.divider = 0 then
    if a.crossed || !before t sNext || decide (b.state ≠ .idle) then b.suppress
    else { b with state := .pending, startAt := t }
  else b

/-- A pulse starts (R76). -/
def State.startPulse (s : State) (g : Side) : State := s.onGen g fun x => x.begin s.ftm.F

/-- A pulse ends; after A's, B acts (R76, R77). -/
def State.endPulse (s : State) (g : Side) : State :=
  let s1 := s.onGen g fun x => { x with state := .idle }
  match g with
  | .a => s1.onGen .b fun b => b.follow s.ftm.gens.a s.ftm.sNext
  | .b => s1

/-- EXPOSURE_PULSE_START (R76). -/
def execExposurePulseStart (g : Side) (s : State) : Host.Outcome State Fault Refusal :=
  .next (s.live fun s => if s.expStartDue g then s.edged fun s => s.startPulse g else s)

/-- EXPOSURE_PULSE_END (R76, R77). -/
def execExposurePulseEnd (g : Side) (s : State) : Host.Outcome State Fault Refusal :=
  .next (s.live fun s => if s.expEndDue g then s.edged fun s => s.endPulse g else s)

/-! ### The frame start (R62) -/

/-- Number of the frame that starts (R62 step 1). -/
def Ftm.nextNumber (t : Ftm) : FrameNo :=
  if t.schedule = .starting then (t.upcoming.map FrameRec.number).getD 0
  else match t.renumber with
    | some n => n
    | none => t.F + 1

/-- A pending renumber that the frame start applies is reported (R62 step 1). -/
def State.reportRenumber (s : State) : State :=
  match s.ftm.renumber with
  | some n =>
    if s.ftm.schedule = .starting then s
    else s.raise .frameRenumber (leBytes 2 (s.ftm.F + 1).toNat ++ leBytes 2 n.toNat)
  | none => s

/-- The frame timer through steps 1 to 3 of a frame start (R62). -/
def Ftm.begin (t : Ftm) (F : FrameNo) (now : Time) : Ftm :=
  { t with
    scanFrame := some F, renumber := none, sF := now, frameStarts := satInc t.frameStarts, schedule := .running
    inForce := t.written }

/-- The display lock machine at a frame start, the new values in force (R67). In display state FREE the counts stay 0:
log entry 19. -/
def State.lockBookkeeping (s : State) : State :=
  let t := s.ftm
  if !t.inForce.linked then
    let s1 := s.onFtm fun t => { t with display := .free, inCount := 0, outCount := 0, noTarget := 0 }
    if t.display = .locked then s1.raise .displayUnlock (unlockDetail t.F 2) else s1
  else if t.targetTaken = false ∧ t.display ≠ .free then
    let n := min (t.noTarget + 1) 8
    let s1 := s.onFtm fun t => { t with noTarget := n }
    if n = 8 ∧ t.display = .locked then
      (s1.onFtm fun t => { t with display := .holdover }).raise .displayUnlock (unlockDetail t.F 1)
    else s1
  else s

/-- The next start and the cleared target-taken flag (R62 step 5). -/
def Ftm.scheduleNext (t : Ftm) : Ftm :=
  { t with targetTaken := false, sNext := t.sF + BitVec.ofNat 32 t.inForce.period }

/-- An ACTIVE panel's scan of frame F is cut at a frame start, against the height it was scanned with (R97). -/
def State.cutAtStart (s : State) (p : Side) (F : Option FrameNo) : State :=
  if (s.panel p).scan = .active then s.cutScan p F else s

/-- The upcoming record is evaluated at the frame start if it is still OPEN, and takes LATE_EVAL (R70 step 2). -/
def State.lateEvaluate (s : State) : State :=
  match s.ftm.upcoming with
  | some r =>
    if r.state = .opened then
      s.evaluate.onUpcoming fun r => { r with flags := { r.flags with lateEval := true } }
    else s
  | none => s

/-- The upcoming record becomes SCANNING at s_F, and a new OPEN record is created for F+1 (R70 steps 2 and 3). -/
def Ftm.moveRecords (t : Ftm) : Ftm :=
  { t with
    scanning := t.upcoming.map fun r => { r with state := .scanning, start := t.sF }
    upcoming := some (FrameRec.fresh (t.F + 1) t.sNext) }

/-- The panel's power: a grant above 0 (5.2). -/
def State.powered (s : State) (p : Side) : Bool := decide (0 < (s.pmg.loads[Side.load p]).grant)

/-- A panel's geometry changes as its written values come into force (R79). -/
def PanelState.reshapes (x : PanelState) : Bool :=
  decide (x.written.width ≠ x.inForce.width) || decide (x.written.height ≠ x.inForce.height)

/-- Contexts whose target includes a panel freed without any count (R79). -/
def Pxp.dropContexts (x : Pxp) (p : Side) : Pxp :=
  { x with contexts := x.contexts.map fun c => match c with
      | some k => if k.target.includes p then none else some k
      | none => none }

/-- A panel's table comes into force; a new width or height empties the ring and aborts the panel's contexts (R79). -/
def State.panelInForce (s : State) (p : Side) : State :=
  let x := s.panel p
  if x.reshapes then
    (s.onPanel p fun x => { x with inForce := x.written, ring := [] }).onPxp fun y => y.dropContexts p
  else s.onPanel p fun x => { x with inForce := x.written }

/-- A context whose frame is neither the new F nor F + 1 is aborted and counted (R87). -/
def State.sweepContext (s : State) (i : Fin 4) : State :=
  match s.pxp.contexts[i] with
  | some c => if c.frame = s.ftm.F ∨ c.frame = s.ftm.F + 1 then s else s.abortCtx i
  | none => s

/-- The panel begins a scan of the new frame (R94). -/
def State.begins (s : State) (p : Side) : Bool := (s.panel p).inForce.enable && s.powered p

/-- The scan begins with the SCANNING record's shift, and the strobe is scheduled (R94, R98). -/
def PanelState.beginScan (x : PanelState) (osc : Nat) (sh : Shift) (ceiling : Nat) (sF sNext : Time) : PanelState :=
  ({ x with scan := .active, pos := 0, scanStart := osc, shift := sh }).scheduleStrobe ceiling sF sNext

/-- The panel that begins no scan goes or stays OFF (R81). -/
def PanelState.noScan (x : PanelState) : PanelState := { x with scan := .off, ring := [], lastLine := none }

/-- A panel at a frame start, after the records have moved: a strobe that is ON ends and a PENDING one is cancelled, the
ring is re-based to the new F, and the scan begins or the panel is OFF (R81, R92, R94, R98). -/
def State.panelStart (s : State) (p : Side) (old : Option FrameNo) : State :=
  let sh := (s.ftm.scanning.map fun r => r.shiftOr0 p).getD ⟨0, 0⟩
  let go := s.begins p
  s.onPanel p fun x =>
    let x1 := { x.rebase old s.ftm.F with strobe := x.strobe.cleared }
    if go then x1.beginScan s.osc sh (s.pmg.ceilings.get p) s.ftm.sF s.ftm.sNext else x1.noScan

/-- Line 0 of a panel that has begun a scan (R93). -/
def State.firstLine (s : State) (p : Side) : State :=
  if (s.panel p).scan = .active then s.outputLine p 0 else s

/-- The panels named to the frame timer; when there is none the SCANNING record becomes DONE at once (R70 step 4). -/
def State.namePanels (s : State) : State :=
  let named : Duo Bool := ⟨decide ((s.panel .a).scan = .active), decide ((s.panel .b).scan = .active)⟩
  let s1 := s.onFtm fun t => { t with pendingPanels := named }
  if named.a || named.b then s1 else s1.finishRecord

/-- The FRAME_START source of the side-band lines: 1 for 10 µs (R34; log entry 9). DESIGN CHOICE: a frame start while a pulse is
still on makes that pulse longer and gives no second edge (log entry 50). -/
def State.startPulses (s : State) : State :=
  (s.onStu fun u => { u with lines := u.lines.map fun l => { l with pulse := decide (l.source = .frameStart) } }).onFtm
    fun t => { t with pulseEnd := some (s.osc + usTicks 10) }

/-- Number, start, values in force, lock bookkeeping and next start (R62 steps 1 to 5). -/
def State.frameNumbers (s : State) : State :=
  let F := s.ftm.nextNumber
  (((s.reportRenumber.onFtm fun t => t.begin F s.now).lockBookkeeping).onFtm Ftm.scheduleNext)

/-- The frame records move, after the ACTIVE scans are cut (R62 step 6, R70, R97); `old` is the frame scanned before. DESIGN CHOICE: of two panels cut at one
frame start panel A is handled before panel B; the spec gives no order (log entry 40). -/
def State.frameRecords (s : State) (old : Option FrameNo) : State :=
  ((((s.cutAtStart .a old).cutAtStart .b old).finishRecord).lateEvaluate).onFtm Ftm.moveRecords

/-- The exposure generators at the frame start (R62 step 7). -/
def Ftm.startGens (t : Ftm) : Ftm :=
  { t with gens := ⟨t.gens.a.frameStart t.F t.sF t.sNext, t.gens.b.frameStart t.F t.sF t.sNext⟩ }

/-- The picture path at the frame start: table in force, contexts swept, panels begun and named, line 0 out (R79, R87, R92
to R98). `old` is the scan frame before this frame start. DESIGN CHOICE: a context that a new geometry aborts is aborted so,
uncounted, also where its frame is neither F nor F + 1 (log entry 51). -/
def State.picturesStart (s : State) (old : Option FrameNo) : State :=
  let s1 := (s.panelInForce .a).panelInForce .b
  let s2 := ([0, 1, 2, 3] : List (Fin 4)).foldl State.sweepContext s1
  ((((s2.panelStart .a old).panelStart .b old).namePanels).firstLine .a).firstLine .b

/-- A frame start (R62), followed by the reallocation that a changed request brings (R80; log entry 14). -/
def State.frameStart (s : State) : State :=
  ((((s.frameNumbers.frameRecords s.ftm.scanFrame).picturesStart s.ftm.scanFrame).onFtm Ftm.startGens).startPulses).refreshLoads

/-- FRAME_START (R62). -/
def execFrameStart (s : State) : Host.Outcome State Fault Refusal :=
  .next (s.live fun s => if s.frameStartDue then s.edged State.frameStart else s)

end Sys2Proof.Machine
end

