-- ==== Sys2Proof/Machine/Motion.lean ====
section
/-! DEFINITION. The motion unit's rows: due moments, completions, clock-hold failures, recovery, retry, the relay's phases and
timeout, the flush timeout; and what BUS_RECOVER and FIFO_FLUSH do (chapter 6). -/

namespace Sys2Proof.Machine

open Sys2Proof

/-- Oscillator ticks of 250 µs: the unit of the poll period (R104). -/
def pollUnit : Nat := 6144

/-- An enabled PERIODIC entry's due moment has come (R105). -/
def State.momentDue (s : State) (e : Fin 8) : Bool :=
  match s.mou.poll[e].dueAt with
  | some t => s.mou.poll[e].cfg.enable && !s.mou.poll[e].cfg.ready && decide (t ≤ s.osc)
  | none => false

/-- The entry's schedule after a due moment: the written period comes into force and sets the next moment (R105). -/
def PollEntry.nextMoment (p : PollEntry) (factor : Nat) : PollEntry :=
  { p with periodForce := p.cfg.period, dueAt := p.dueAt.map fun t => t + p.cfg.period * pollUnit * factor }

/-- DUE_MOMENT (R105). -/
def execDueMoment (e : Fin 8) (s : State) : Host.Outcome State Fault Refusal :=
  .next (s.live fun s =>
    if s.momentDue e then (s.trigger e s.now).onPoll e fun p => p.nextMoment s.classFactor else s)

/-- A poll transaction's completion by outcome; SERIAL4 has no acknowledgement, and a good one has read its length
(R103, R109; log entry 37). -/
def State.pollCompletes (s : State) (b : Bus) (w : PollWork) (o : PollOutcome) : State :=
  match o with
  | .good bytes => if bytes.length = w.cfg.length then (s.pollGood w bytes).busFree b else s
  | .refusedAddress => if b = .twoWire then (s.pollRefused w 0).busFree b else s
  | .refusedData => if b = .twoWire then (s.pollRefused w 1).busFree b else s

/-- TRANSACTION_COMPLETES (R109). -/
def execTransactionCompletes (b : Bus) (o : PollOutcome) (s : State) : Host.Outcome State Fault Refusal :=
  .next (s.live fun s =>
    match (s.bus b).poll with
    | some w => s.pollCompletes b w o
    | none => s)

/-- The relay is in a transfer: RUNNING in its write, read or probe phase (R118). -/
def RelayPhase.transfers : RelayPhase → Bool
  | .waiting => false
  | .write => true
  | .wait => false
  | .read => true
  | .probe => true

/-- The relay in a transfer on a bus, if there is one and the bus is BUSY with it. -/
def State.transferring (s : State) (b : Bus) : Option Relay :=
  match s.mou.relay with
  | some r => if r.bus = b ∧ r.phase.transfers = true ∧ (s.bus b).state = .busy then some r else none
  | none => none

/-- A clock-hold failure of the two-wire work: a poll fails with an error counted, a relay is refused; recovery begins
with cause STRETCH (R103, R109, R118). -/
def State.clockHold (s : State) : State :=
  match s.mou.twoWire.poll with
  | some w => (s.onPoll w.q.entry fun p => { p with errors := satInc p.errors }).startRecovery .stretch false
  | none =>
    match s.transferring .twoWire with
    | some _ => (s.relayDone .busError []).startRecovery .stretch false
    | none => s

/-- CLOCK_HOLD_FAILURE (R103). -/
def execClockHoldFailure (s : State) : Host.Outcome State Fault Refusal := .next (s.live State.clockHold)

/-- RECOVERY_COMPLETES (R116, R117). -/
def execRecoveryCompletes (o : RecoveryOutcome) (s : State) : Host.Outcome State Fault Refusal :=
  .next (s.live fun s =>
    match s.mou.twoWire.recovery, o with
    | some r, .success n => s.recoverySucceeds r n.val
    | some r, .failure n => s.recoveryFails r n.val
    | none, _ => s)

/-- The retry timer of a FAULT bus has run (R117). -/
def State.retryDue (s : State) : Bool :=
  match s.mou.twoWire.retryAt with
  | some t => decide (t ≤ s.osc)
  | none => false

/-- RETRY_EXPIRY (R117). -/
def execRetryExpiry (s : State) : Host.Outcome State Fault Refusal :=
  .next (s.live fun s => if s.retryDue then s.startRecovery .retry false else s)

/-- The relay's last phase ends well: its read or probe, or the write phase of a relay with nothing to follow (R118). -/
def Relay.lastPhase (r : Relay) : Bool :=
  match r.phase with
  | .waiting => false
  | .write => decide (r.readLen = 0 ∧ r.waitAfter = 0)
  | .wait => false
  | .read => true
  | .probe => true

/-- RELAY_COMPLETES (R118): OK with the bytes read, or on TWO_WIRE a refusal at a missing acknowledgement. -/
def State.relayCompletes (s : State) (r : Relay) (o : RelayOutcome) : State :=
  match o with
  | .ok bytes =>
    if r.lastPhase = true ∧ bytes.length = r.readLen then (s.relayDone .ok bytes).busFree r.bus else s
  | .refused => if r.bus = .twoWire then (s.relayDone .busError []).busFree r.bus else s

/-- The relay now in a transfer, on whichever bus. -/
def State.relayTransfer (s : State) : Option Relay :=
  match s.transferring .serial4 with
  | some r => some r
  | none => s.transferring .twoWire

/-- RELAY_COMPLETES (R118). -/
def execRelayCompletes (o : RelayOutcome) (s : State) : Host.Outcome State Fault Refusal :=
  .next (s.live fun s =>
    match s.relayTransfer with
    | some r => s.relayCompletes r o
    | none => s)

/-- The relay whose wait phase has run its wait-after (R118). -/
def State.waitOver (s : State) : Option Relay :=
  match s.mou.relay with
  | some r => if r.phase = .wait ∧ r.waitEnd ≤ s.osc then some r else none
  | none => none

/-- RELAY_WAIT_END (R118). -/
def execRelayWaitEnd (s : State) : Host.Outcome State Fault Refusal :=
  .next (s.live fun s =>
    match s.waitOver with
    | some r => s.relayToRead r
    | none => s)

/-- RELAY_WRITE_PHASE_END (R118). -/
def execRelayWritePhaseEnd (s : State) : Host.Outcome State Fault Refusal :=
  .next (s.live fun s =>
    match s.relayTransfer with
    | some r => if r.phase = .write then s.relayWriteEnds r else s
    | none => s)

/-- The slot's timeout has run (R52, R53). -/
def State.relayTimedOut (s : State) : Bool :=
  match s.mrs.slot with
  | some k => decide (k.deadline ≤ s.osc)
  | none => false

/-- RELAY_TIMEOUT (R53, R119): the reply is TIMEOUT and the motion unit aborts the relay. -/
def execRelayTimeout (s : State) : Host.Outcome State Fault Refusal :=
  .next (s.live fun s => if s.relayTimedOut then (s.slotReply .timeout []).relayAbort else s)

/-- FLUSH_TIMEOUT (R114). -/
def execFlushTimeout (s : State) : Host.Outcome State Fault Refusal :=
  .next (s.live fun s => if s.flushDue then s.judgeBatch else s)

/-- BUS_RECOVER on a bus (R117). DESIGN CHOICE: in FAULT a recovery starts also where one is pending already (log entry 17). -/
def State.busRecover (s : State) (b : Bus) : State :=
  match b with
  | .serial4 => s
  | .twoWire =>
    match s.mou.twoWire.state with
    | .idle => s.startRecovery .command false
    | .busy => s.onBus .twoWire fun c => { c with recPending := some (c.recPending.getD .command) }
    | .recovering => s
    | .fault => s.startRecovery .command false

/-- FIFO_FLUSH (R115). -/
def Mou.flush (m : Mou) : Mou := { m with fifo := [], flushed := satAdd m.flushed m.fifo.length }

end Sys2Proof.Machine
end

