-- ==== Sys2Proof/Machine/Operands.lean ====
section
/-! DEFINITION. The operand forms of the management path: the table directory, the kind of every field word of every table,
validation and clamping, the relations between fields, and the codes of enumerated fields (R43, R47, 12.5). -/

namespace Sys2Proof.Machine

open Sys2Proof

/-- The 18 tables, in order of their numbers (0.4, R43). -/
inductive Table
  | identity | link | steering | streamStatus | sideband | frameTimer | exposure | panel | shift | frameLog | poll
  | mount | motion | audio | pattern | loads | power | events
  deriving DecidableEq, Repr

/-- The table of a number; numbers above 17 name none (R42 check 6). -/
def Table.ofCode (n : Nat) : Option Table :=
  match n with
  | 0 => some .identity
  | 1 => some .link
  | 2 => some .steering
  | 3 => some .streamStatus
  | 4 => some .sideband
  | 5 => some .frameTimer
  | 6 => some .exposure
  | 7 => some .panel
  | 8 => some .shift
  | 9 => some .frameLog
  | 10 => some .poll
  | 11 => some .mount
  | 12 => some .motion
  | 13 => some .audio
  | 14 => some .pattern
  | 15 => some .loads
  | 16 => some .power
  | 17 => some .events
  | _ => none

/-- Entries of a table (R43). -/
def Table.entries : Table → Nat
  | .identity => 1
  | .link => 1
  | .steering => 8
  | .streamStatus => 32
  | .sideband => 6
  | .frameTimer => 1
  | .exposure => 2
  | .panel => 2
  | .shift => 1
  | .frameLog => 3
  | .poll => 8
  | .mount => 1
  | .motion => 1
  | .audio => 1
  | .pattern => 48
  | .loads => 8
  | .power => 1
  | .events => 28

/-- The tables a WRITE is refused on (R46 check 1). -/
def Table.readOnly : Table → Bool
  | .identity => true
  | .link => false
  | .steering => false
  | .streamStatus => true
  | .sideband => false
  | .frameTimer => false
  | .exposure => false
  | .panel => false
  | .shift => false
  | .frameLog => true
  | .poll => false
  | .mount => false
  | .motion => false
  | .audio => false
  | .pattern => false
  | .loads => false
  | .power => false
  | .events => false

/-- What kind of field a field word carries (R47). No writable field of any table is a signed number. -/
inductive FieldKind
  /-- Unsigned number, clamped to its range. -/
  | num (lo hi : Nat)
  /-- On/off or flag, clamped to 1. -/
  | flag
  /-- Enumerated with codes 0 to `last`. -/
  | upTo (last : Nat)
  /-- The next field of a pattern step: 0 to 47, or 63 for END (R153). -/
  | next
  /-- Read-only: skipped by a WRITE (R46). -/
  | ro
  deriving DecidableEq, Repr

/-- A field word after validation: its value, and whether it was clamped (R47). -/
structure Judged where
  value   : Nat
  clamped : Bool
  deriving DecidableEq, Repr

/-- A number clamped to the nearer end of its range (R47). -/
def judgeNum (lo hi n : Nat) : Judged :=
  { value := max lo (min hi n), clamped := decide (n < lo ∨ hi < n) }

/-- Validation of one field word; none when it fails (R47). -/
def FieldKind.judge (k : FieldKind) (w : Word) : Option Judged :=
  match k with
  | .num lo hi => some (judgeNum lo hi w.toNat)
  | .flag => some (judgeNum 0 1 w.toNat)
  | .upTo last => if w.toNat ≤ last then some ⟨w.toNat, false⟩ else none
  | .next => if w.toNat ≤ 47 ∨ w.toNat = 63 then some ⟨w.toNat, false⟩ else none
  | .ro => some ⟨0, false⟩

/-- `n` read-only fields. -/
def ros (n : Nat) : List FieldKind := List.replicate n .ro

/-- Fields of the shift table for one panel (R122). -/
def shiftKinds : List FieldKind := [.num 0 65535, .num 0 65535, .num 0 64, .num 0 16, .upTo 1, .upTo 1]

/-- The field kinds of an entry of a table, in field-word order. Entry 0 of PATTERN and entry 7 of LOADS have writable
fields that the other entries have not (R153, R177). -/
def Table.kinds (t : Table) (entry : Nat) : List FieldKind :=
  match t with
  | .identity => ros 17
  | .link => [.num 1 65535, .num 0 1000] ++ ros 18
  | .steering => [.flag, .num 0 31, .num 0 31, .upTo 5]
  | .streamStatus => ros 8
  | .sideband => [.upTo 9, .num 0 15, .upTo 1, .flag] ++ ros 4
  | .frameTimer => [.upTo 1, .num 4000 33333, .num 0 500, .num 0 500, .num 0 2000] ++ ros 8
  | .exposure => [.flag, .upTo 1, .num 0 33333, .num 1 10000, .num 1 4, .upTo 6] ++ ros 3
  | .panel =>
    [.flag, .num 64 2560, .num 64 2560, .num 100 65535, .upTo 1, .num 0 1023, .num 0 5000, .num 0 33333, .num 0 10000]
      ++ ros 12
  | .shift => [.flag] ++ shiftKinds ++ shiftKinds ++ ros 5
  | .frameLog => ros 17
  | .poll =>
    [.flag, .upTo 1, .num 0 127, .num 0 255, .num 1 16, .upTo 1, .num 0 5, .num 1 255, .num 1 16, .upTo 3, .upTo 1, .flag]
      ++ ros 5
  | .mount => [.num 1 65535, .upTo 2, .upTo 1, .upTo 2, .upTo 1, .upTo 2, .upTo 1] ++ ros 1
  | .motion => [.num 1 32, .num 100 20000, .num 0 2000] ++ ros 13
  | .audio => [.num 2 20, .num 0 32768, .flag, .num 0 2000, .flag] ++ ros 17
  | .pattern =>
    [.num 1 2400, .num 0 255, .upTo 2, .num 1 4095, .next] ++ (if entry = 0 then [.num 0 2000, .num 1 8] else ros 2) ++ ros 3
  | .loads => [.num 0 7, .num 0 5000] ++ (if entry = 7 then [.flag] else ros 1) ++ ros 5
  | .power =>
    [.num 1000 15000, .num 0 2000, .num 3800 5500, .num 3800 5500, .num 3800 5500, .num 0 500, .num 100 3000, .flag] ++ ros 10
  | .events => [.flag, .num 0 3, .flag] ++ ros 3

/-- Field words of an entry of a table. -/
def Table.fields (t : Table) : Nat := (t.kinds 0).length

/-- The field words of one entry judged; none when one fails (R47). -/
def judgeWords : List FieldKind → List Word → Option (List Judged)
  | [], _ => some []
  | k :: ks, ws =>
    match k.judge (ws.headD 0), judgeWords ks ws.tail with
    | some j, some js => some (j :: js)
    | _, _ => none

/-- An entry of a write after validation: its number, its values in field order (0 for read-only), and whether one was
clamped. -/
structure EntryValues where
  entry   : Nat
  values  : List Nat
  clamped : Bool
  deriving DecidableEq, Repr

/-- The value of field k of a judged entry. -/
def EntryValues.num (e : EntryValues) (k : Nat) : Nat := e.values.getD k 0

/-- Field k of a judged entry as a flag. -/
def EntryValues.flag (e : EntryValues) (k : Nat) : Bool := decide (e.values.getD k 0 ≠ 0)

/-- The addressed entries of a write judged, from entry `first` on; none when a field word fails (R47). -/
def judgeEntries (t : Table) : Nat → Nat → List Word → Option (List EntryValues)
  | 0, _, _ => some []
  | n + 1, first, ws =>
    match judgeWords (t.kinds first) (ws.take t.fields), judgeEntries t n (first + 1) (ws.drop t.fields) with
    | some js, some es =>
      some ({ entry := first, values := js.map Judged.value, clamped := js.any Judged.clamped } :: es)
    | _, _ => none

/-- The relations within an entry: EXPOSURE entry 0 refuses A_END (R75); POLL refuses a device above 1 on SERIAL4, IMU6
with fewer than 12 bytes and MAG3 with fewer than 6 (R104); POWER asks V_trip < V_shed < V_warn (R167). -/
def entryRelation (t : Table) (e : EntryValues) : Bool :=
  match t with
  | .exposure => !(decide (e.entry = 0) && e.flag 1)
  | .poll =>
    !(decide (e.num 1 = 0) && decide (1 < e.num 2)) && !(decide (e.num 9 = 0) && decide (e.num 4 < 12))
      && !(decide (e.num 9 = 1) && decide (e.num 4 < 6))
  | .power => decide (e.num 4 < e.num 3) && decide (e.num 3 < e.num 2)
  | _ => true

/-- The relation of LOADS: a write that addresses both backlights gives them one priority (R177). -/
def pairRelation (es : List EntryValues) : Bool :=
  match es.find? (fun e => decide (e.entry = 2)), es.find? (fun e => decide (e.entry = 3)) with
  | some a, some b => decide (a.num 0 = b.num 0)
  | _, _ => true

/-- Every relation of a write (R47). -/
def relations (t : Table) (es : List EntryValues) : Bool :=
  es.all (entryRelation t) && (if t = .loads then pairRelation es else true)

/-- Validation of a whole write of `count` entries from `first` (R47). -/
def validate (t : Table) (first count : Nat) (ws : List Word) : Option (List EntryValues) :=
  match judgeEntries t count first ws with
  | some es => if relations t es then some es else none
  | none => none

/-! ### Codes of enumerated fields -/

/-- Destination codes (R25). -/
def Destination.ofCode (n : Nat) : Destination :=
  match n with
  | 0 => .discard
  | 1 => .panelA
  | 2 => .panelB
  | 3 => .panelBoth
  | 4 => .audio
  | _ => .sideband

/-- Code of a destination (R25). -/
def Destination.code : Destination → Nat
  | .discard => 0
  | .panelA => 1
  | .panelB => 2
  | .panelBoth => 3
  | .audio => 4
  | .sideband => 5

/-- Source codes (R32). -/
def LineSource.ofCode (n : Nat) : LineSource :=
  match n with
  | 0 => .input
  | 1 => .level0
  | 2 => .level1
  | 3 => .received
  | 4 => .linkLock
  | 5 => .linkPass
  | 6 => .displayLocked
  | 7 => .frameStart
  | 8 => .strobeA
  | _ => .powerNormal

/-- Code of a source (R32). -/
def LineSource.code : LineSource → Nat
  | .input => 0
  | .level0 => 1
  | .level1 => 2
  | .received => 3
  | .linkLock => 4
  | .linkPass => 5
  | .displayLocked => 6
  | .frameStart => 7
  | .strobeA => 8
  | .powerNormal => 9

/-- Loss policy codes (R32). -/
def LossPolicy.ofCode (n : Nat) : LossPolicy :=
  match n with
  | 0 => .hold
  | _ => .default

/-- Code of a loss policy (R32). -/
def LossPolicy.code : LossPolicy → Nat
  | .hold => 0
  | .default => 1

/-- Bus codes (R104, R50). -/
def busOfCode (n : Nat) : Bus :=
  match n with
  | 0 => .serial4
  | _ => .twoWire

/-- Code of a bus (R104). -/
def busCode : Bus → Nat
  | .serial4 => 0
  | .twoWire => 1

/-- Kind codes (R104). -/
def PollKind.ofCode (n : Nat) : PollKind :=
  match n with
  | 0 => .imu6
  | 1 => .mag3
  | 2 => .prox
  | _ => .raw

/-- Axis codes (R110). -/
def Axis.ofCode (n : Nat) : Axis :=
  match n with
  | 0 => .x
  | 1 => .y
  | _ => .z

/-- Envelope codes (R153). -/
def Envelope.ofCode (n : Nat) : Envelope :=
  match n with
  | 0 => .flat
  | 1 => .rise
  | _ => .fall

/-- Code of an envelope (R153). -/
def Envelope.code : Envelope → Nat
  | .flat => 0
  | .rise => 1
  | .fall => 2

/-- Next codes: 63 is END (R153). -/
def nextOfCode (n : Nat) : Option (Fin 48) := if h : n < 48 then some ⟨n, h⟩ else none

/-- Code of a next or of a channel's step field: 63 for END or IDLE (R153). -/
def stepCode (n : Option (Fin 48)) : Nat := (n.map Fin.val).getD 63

/-- Code of a lock state (R24). -/
def LockState.code : LockState → Nat
  | .search => 0
  | .verify => 1
  | .locked => 2

/-- Code of a time state (R24). -/
def TimeState.code : TimeState → Nat
  | .unset => 0
  | .running => 1
  | .slewing => 2

/-- Code of an image state (R44). -/
def ImageState.code : ImageState → Nat
  | .loading => 0
  | .loaded => 1
  | .loadedWithErrors => 2
  | .absent => 3
  | .bad => 4

/-- Code of a display lock state (R59). -/
def DisplayState.code : DisplayState → Nat
  | .free => 0
  | .pulling => 1
  | .locked => 2
  | .holdover => 3

/-- Code of a schedule state (R59). -/
def Schedule.code : Schedule → Nat
  | .idle => 0
  | .awaiting => 1
  | .starting => 2
  | .running => 3

/-- Code of a record state (R74). -/
def RecState.code : RecState → Nat
  | .opened => 1
  | .evaluated => 2
  | .scanning => 3
  | .done => 4

/-- Code of an exposure state (R75). -/
def ExpState.code : ExpState → Nat
  | .idle => 0
  | .pending => 1
  | .on => 2

/-- Code of a scan state (R79). -/
def ScanState.code : ScanState → Nat
  | .off => 0
  | .waiting => 1
  | .active => 2
  | .blank => 3

/-- Code of a strobe state (R79). -/
def StrobeState.code : StrobeState → Nat
  | .idle => 0
  | .pending => 1
  | .on => 2
  | .held => 3

/-- Code of a bus state (R121). -/
def BusState.code : BusState → Nat
  | .idle => 0
  | .busy => 1
  | .recovering => 2
  | .fault => 3

/-- Code of a sensor class (R121). -/
def SensorClass.code : SensorClass → Nat
  | .full => 0
  | .reduced => 1
  | .suspended => 2

/-- Code of a relay state: 0 NONE, 1 WAITING, 2 RUNNING (R121). -/
def relayCode : Option Relay → Nat
  | none => 0
  | some r => if r.phase = .waiting then 1 else 2

/-- Code of a raw axis (R110). -/
def Axis.code : Axis → Nat
  | .x => 0
  | .y => 1
  | .z => 2

/-- Code of a playout state (R135). -/
def AudioState.code : AudioState → Nat
  | .stopped => 0
  | .filling => 1
  | .playing => 2

/-- Code of a load state (R177). -/
def LoadState.code : LoadState → Nat
  | .off => 0
  | .full => 1
  | .reduced => 2
  | .shed => 3

/-- Code of a load's mode: entries 0, 1 and 7 ALL_OR_NONE, 2 to 5 SCALED, 6 STEPPED (R177). -/
def loadMode (i : Fin 8) : Nat :=
  match i with
  | 0 => 0
  | 1 => 0
  | 2 => 1
  | 3 => 1
  | 4 => 1
  | 5 => 1
  | 6 => 2
  | 7 => 0

end Sys2Proof.Machine
end

