-- ==== Sys2Proof/Machine/Stores.lean ====
section
/-! DEFINITION. What a stored WRITE does: the written values of each table, and what the owner does at the store (R43, R46,
R48 and the owning chapters). -/

namespace Sys2Proof.Machine

open Sys2Proof

/-- A STEERING window of judged values (R25). -/
def EntryValues.window (e : EntryValues) : Window :=
  { enable := e.flag 0, base := e.num 1, mask := e.num 2, destination := Destination.ofCode (e.num 3) }

/-- A side-band line with judged values stored. A FRAME_START pulse in progress is shown on only while the source stays
FRAME_START (R34). -/
def Line.store (l : Line) (e : EntryValues) : Line :=
  let src := LineSource.ofCode (e.num 0)
  { source := src, bit := e.num 1, policy := LossPolicy.ofCode (e.num 2), defaultLevel := e.flag 3
    pulse := l.pulse && decide (src = .frameStart) }

/-- FRAME_TIMER values (R59). -/
def EntryValues.ftCfg (e : EntryValues) : FtCfg :=
  { linked := e.flag 0, period := e.num 1, phaseStep := e.num 2, lockWindow := e.num 3, shiftLead := e.num 4 }

/-- EXPOSURE values (R75). -/
def EntryValues.expCfg (e : EntryValues) : ExpCfg :=
  { enable := e.flag 0, aEnd := e.flag 1, offset := e.num 2, width := e.num 3, divider := e.num 4, line := e.num 5 }

/-- PANEL values (R79). -/
def EntryValues.panelCfg (e : EntryValues) : PanelCfg :=
  { enable := e.flag 0, width := e.num 1, height := e.num 2, linePeriod := e.num 3, repeatFill := e.flag 4
    brightness := e.num 5, fullPower := e.num 6, strobeOffset := e.num 7, maxWidth := e.num 8 }

/-- One panel's SHIFT values, from a field on (R122). -/
def EntryValues.shiftSide (e : EntryValues) (k : Nat) : ShiftSide :=
  { kx := e.num k, ky := e.num (k + 1), limX := e.num (k + 2), limY := e.num (k + 3), minusX := e.flag (k + 4)
    minusY := e.flag (k + 5) }

/-- POLL values (R104). -/
def EntryValues.pollCfg (e : EntryValues) : PollCfg :=
  { enable := e.flag 0, bus := busOfCode (e.num 1), device := e.num 2, startRegister := e.num 3, length := e.num 4
    ready := e.flag 5, readyLine := e.num 6, period := e.num 7, decimate := e.num 8, kind := PollKind.ofCode (e.num 9)
    big := e.flag 10, toFifo := e.flag 11 }

/-- MOUNT values (R110). -/
def EntryValues.mountCfg (e : EntryValues) : MountCfg :=
  { gain := e.num 0, yaw := ⟨Axis.ofCode (e.num 1), e.flag 2⟩, pitch := ⟨Axis.ofCode (e.num 3), e.flag 4⟩
    roll := ⟨Axis.ofCode (e.num 5), e.flag 6⟩ }

/-- POWER values (R167). -/
def EntryValues.powerCfg (e : EntryValues) : PowerCfg :=
  { limit := e.num 0, reserve := e.num 1, vWarn := e.num 2, vShed := e.num 3, vTrip := e.num 4, hysteresis := e.num 5
    iMax := e.num 6, protect := e.flag 7 }

/-- A pattern step of judged values (R153). -/
def EntryValues.step (e : EntryValues) : Step :=
  { halfPeriod := e.num 0, level := e.num 1, envelope := Envelope.ofCode (e.num 2), duration := e.num 3
    next := nextOfCode (e.num 4) }

/-! ### Stores of one entry -/

/-- A POLL entry is enabled with trigger PERIODIC (R105). -/
def PollCfg.periodic (c : PollCfg) : Bool := c.enable && !c.ready

/-- A POLL entry is enabled with trigger READY (R106). -/
def PollCfg.readyOn (c : PollCfg) : Bool := c.enable && c.ready

/-- A POLL entry with a cfg stored: the due schedule starts or stops, and the edge count returns to 0 where the store
makes the entry READY or changes its ready line (R105, R106). -/
def PollEntry.store (p : PollEntry) (c : PollCfg) (osc factor : Nat) : PollEntry :=
  let starts := c.periodic && !p.cfg.periodic
  { p with
    cfg := c
    periodForce := if starts then c.period else p.periodForce
    dueAt := if starts then some (osc + c.period * pollUnit * factor) else if c.periodic then p.dueAt else none
    edgeCount := if c.readyOn && (!p.cfg.readyOn || decide (p.cfg.readyLine ≠ c.readyLine)) then 0 else p.edgeCount }

/-- The queued element of an entry, if it stands in a queue. -/
def State.queuedOf (s : State) (e : Fin 8) : Option Queued :=
  (s.mou.serial4.queue ++ s.mou.twoWire.queue).find? fun q => decide (q.entry = e)

/-- A queued entry moved to another bus's queue: out of its queue without count when that bus is FAULT, otherwise in its
place there, with the late mark while a relay is on that bus; an IDLE bus then applies the start rule (R107, R108). -/
def State.moveQueued (s : State) (e : Fin 8) (b : Bus) : State :=
  match s.queuedOf e with
  | none => s
  | some q =>
    let s1 := s.unqueue e
    if (s1.bus b).state = .fault then s1
    else
      (s1.onBus b fun c =>
        { c with queue := insertQueued { q with late := q.late || s1.relayOn b } c.queue }).startNext b

/-- A POLL entry stored, with what becomes of it in a due queue (R105 to R107). -/
def State.storePoll (s : State) (i : Fin 8) (c : PollCfg) : State :=
  let old := s.mou.poll[i].cfg
  let s1 := s.onPoll i fun p => p.store c s.osc s.classFactor
  if !c.enable then s1.unqueue i else if old.bus ≠ c.bus then s1.moveQueued i c.bus else s1

/-- AUDIO values stored: the fill is judged again, and a change of mic on discards the block being built (R139, R150). -/
def Auu.store (a : Auu) (e : EntryValues) : Auu :=
  let same := decide (a.micOn = e.flag 4)
  ({ a with
    fillTarget := e.num 0, volume := e.num 1, mute := e.flag 2, ampPower := e.num 3, micOn := e.flag 4
    micDue := a.micDue && same, mic := if same then a.mic else none } : Auu).judgeFill

/-- A PATTERN entry stored; haptic power and dead time are writable in entry 0 (R153). -/
def Pte.store (x : Pte) (e : EntryValues) : Pte :=
  let x1 := { x with steps := x.steps.set (Fin.ofNat 48 e.entry) e.step }
  if e.entry = 0 then { x1 with hapticPower := e.num 5, deadTime := e.num 6 } else x1

/-- A load with its priority and floor stored, and for AUX its switch (R177). -/
def Load.store (l : Load) (e : EntryValues) : Load :=
  { l with priority := e.num 0, floor := e.num 1, switch := if e.entry = 7 then e.flag 2 else l.switch }

/-- A LOADS entry stored; a priority of one backlight is stored in both (R177). -/
def Pmg.storeLoad (p : Pmg) (e : EntryValues) : Pmg :=
  let v := tabMod p.loads (Fin.ofNat 8 e.entry) fun l => l.store e
  if e.entry = 2 then { p with loads := tabMod v 3 fun l => { l with priority := e.num 0 } }
  else if e.entry = 3 then { p with loads := tabMod v 2 fun l => { l with priority := e.num 0 } }
  else { p with loads := v }

/-- A FRAME_TIMER store: the schedule starts when the written mode becomes FREE while AWAITING (R61). -/
def Ftm.store (t : Ftm) (c : FtCfg) (now : Time) : Ftm :=
  let t1 := { t with written := c }
  if t.schedule = .awaiting ∧ c.linked = false then t1.placeFree now else t1

/-- The written values of one entry stored, in force at once where the table's application point is the store (R43, R46). -/
def State.storeEntry (s : State) (t : Table) (e : EntryValues) : State :=
  match t with
  | .identity => s
  | .link => s.onLrx fun l => { l with passThreshold := e.num 0, linkDelay := e.num 1 }
  | .steering => s.onStu fun u => { u with written := u.written.set (Fin.ofNat 8 e.entry) e.window }
  | .streamStatus => s
  | .sideband => s.onStu fun u => { u with lines := tabMod u.lines (Fin.ofNat 6 e.entry) fun l => l.store e }
  | .frameTimer => s.onFtm fun f => f.store e.ftCfg s.now
  | .exposure => s.onGen (if e.entry = 0 then .a else .b) fun g => { g with written := e.expCfg }
  | .panel => s.onPanel (if e.entry = 0 then .a else .b) fun x => { x with written := e.panelCfg }
  | .shift => s.onLsu fun l => { l with written := ⟨e.flag 0, ⟨e.shiftSide 1, e.shiftSide 7⟩⟩ }
  | .frameLog => s
  | .poll => s.storePoll (Fin.ofNat 8 e.entry) e.pollCfg
  | .mount => s.onMou fun m => { m with mountWritten := e.mountCfg }
  | .motion => s.onMou fun m => { m with watermark := e.num 0, flushTimeout := e.num 1, sensorPower := e.num 2 }
  | .audio => s.onAuu fun a => a.store e
  | .pattern => s.onPte fun x => x.store e
  | .loads => s.onPmg fun p => p.storeLoad e
  | .power => s.storePower e.powerCfg
  | .events => s.onEvu fun v =>
      { v with table := tabMod v.table (Fin.ofNat 28 e.entry) fun x =>
          { x with enable := e.flag 0, priority := e.num 1, coalesce := e.flag 2 } }

/-- The powers that derived values are formed with: full power A and B, amp power and haptic power (R182). -/
def State.powers (s : State) : List Nat :=
  [(s.panel .a).written.fullPower, (s.panel .b).written.fullPower, s.auu.ampPower, s.pte.hapticPower]

/-- The allocation that a store brings: a changed power derives its value afresh, also where the load's request stays as it
was (R182), and a changed request allocates (R178). `old` are the powers before the store. -/
def State.reallocate (s : State) (old : List Nat) : State := if s.powers = old then s.refreshLoads else s.allocate

/-- What the owner does once all the entries of a write are stored: LOADS always allocates (R179), a changed power or load
request allocates (R178, R182), and MOTION judges the batch condition again (R121). POWER has acted at its store (R174). -/
def State.afterStore (s : State) (t : Table) (old : List Nat) : State :=
  match t with
  | .loads => s.allocate
  | .panel => s.reallocate old
  | .poll => s.refreshLoads
  | .audio => s.reallocate old
  | .pattern => s.reallocate old
  | .motion => s.refreshLoads.judgeBatch
  | _ => s

/-- A validated write stored: every entry, then the owner's acts (R46). -/
def State.store (s : State) (t : Table) (es : List EntryValues) : State :=
  (es.foldl (fun s e => s.storeEntry t e) s).afterStore t s.powers

/-- PROTECT refuses a LOADS write that changes a floor of an addressed entry (R48). -/
def floorChanges (p : Pmg) (es : List EntryValues) : Bool :=
  es.any fun e => decide (e.num 1 ≠ (p.loads[Fin.ofNat 8 e.entry]).floor)

/-- Outcome of judging a write: refused with a status, or to be stored, with whether a value was clamped (R46). -/
inductive WriteOutcome
  | refused (st : Status)
  | store (es : List EntryValues) (clamped : Bool)
  deriving DecidableEq, Repr

/-- The five checks of a WRITE, in order (R46, R48). -/
def State.judgeWrite (s : State) (t : Table) (first count : Nat) (ws : List Word) : WriteOutcome :=
  if t.readOnly then .refused .readOnly
  else if ws.length ≠ count * t.fields then .refused .badLength
  else if t = .power ∧ s.pmg.cfg.protect = true then .refused .isProtected
  else match validate t first count ws with
    | none => .refused .badValue
    | some es =>
      if t = .loads ∧ s.pmg.cfg.protect = true ∧ floorChanges s.pmg es = true then .refused .isProtected
      else .store es (es.any EntryValues.clamped)

end Sys2Proof.Machine
end

