-- ==== Sys2Proof/Machine/Tables.lean ====
section
/-! DEFINITION. Reading and clearing tables: the field words of every entry as a READ returns them (R43, R45), and what CLEAR
sets to 0 (R49). -/

namespace Sys2Proof.Machine

open Sys2Proof

/-- IDENTITY (R44). -/
def State.readIdentity (s : State) : List Word :=
  [fw 4410, fw 1, fw 18, fw s.cfl.state.code, fw s.cfl.pass, fw s.cfl.position, fw s.cfl.version, fw s.cfl.length,
    fw s.cfl.applied, fw s.cfl.adjusted, fw s.cfl.skipped, fw s.cfl.firstSkipped, fwBool s.mrs.slot.isSome,
    fwBool s.mrs.restartPending, fw s.mrs.requestsTaken, fw s.mrs.requestsDropped, fw s.mrs.badPos]

/-- LINK (R24). -/
def State.readLink (s : State) : List Word :=
  let l := s.lrx
  [fw l.passThreshold, fw l.linkDelay, fw l.lock.code, fwBool l.pass, fw l.winCells, fw l.winErrors, fw l.timeState.code,
    l.tt, fw l.deficit, fw l.faults, fwBool l.testMode, fw l.badHeaders, fw l.badKinds, fw l.badPayloads,
    fw l.unlockedDiscards, fw l.badSyncs, fw l.targetsDropped, fw l.testCells, fw l.testBitErrors, fw s.ltx.voiceDrops]

/-- A STEERING window (R25). -/
def Window.words (w : Window) : List Word := [fwBool w.enable, fw w.base, fw w.mask, fw w.destination.code]

/-- A STREAM_STATUS entry (R28). -/
def StreamEntry.words (e : StreamEntry) : List Word :=
  [fwBool e.tracking, fw e.lastSeq.toNat, fwBool e.gapPending, fw e.goodCells, fw e.gaps, fw e.badPcrc, fw e.unsteered,
    fw e.kindMismatches]

/-- A SIDEBAND entry (R32). -/
def State.readSideband (s : State) (i : Fin 6) : List Word :=
  let l := s.stu.lines[i]
  [fw l.source.code, fw l.bit, fw l.policy.code, fwBool l.defaultLevel, fwBool (s.lineLevel i), fw (s.claimCode i),
    fw s.stu.word.toNat, fwBool s.stu.wordCurrent]

/-- FRAME_TIMER (R59). -/
def State.readFrameTimer (s : State) : List Word :=
  let t := s.ftm
  [fwBool t.written.linked, fw t.written.period, fw t.written.phaseStep, fw t.written.lockWindow, fw t.written.shiftLead,
    fw t.display.code, fw t.schedule.code, fw (t.scanFrame.getD 0).toNat, t.sNext, fwBool t.renumber.isSome,
    fwInt t.lastPhaseError, fw t.frameStarts, fw t.extraTargets]

/-- An EXPOSURE entry (R75). -/
def Generator.words (g : Generator) : List Word :=
  [fwBool g.written.enable, fwBool g.written.aEnd, fw g.written.offset, fw g.written.width, fw g.written.divider,
    fw g.written.line, fw g.state.code, fw g.pulses, fw g.suppressed]

/-- A PANEL entry (R79). -/
def PanelState.words (x : PanelState) : List Word :=
  [fwBool x.written.enable, fw x.written.width, fw x.written.height, fw x.written.linePeriod, fwBool x.written.repeatFill,
    fw x.written.brightness, fw x.written.fullPower, fw x.written.strobeOffset, fw x.written.maxWidth, fw x.scan.code,
    fw x.ring.length, fw x.ceiling, fw x.strobe.code, fw x.missingLines, fw x.earlyLines, fw x.staleLines, fw x.cutLines,
    fw x.noScanLines, fw x.malformedSlices, fw x.noContextSlices, fw x.orphanCells]

/-- One panel's fields of SHIFT (R122). -/
def ShiftSide.words (c : ShiftSide) : List Word :=
  [fw c.kx, fw c.ky, fw c.limX, fw c.limY, fwBool c.minusX, fwBool c.minusY]

/-- SHIFT (R122). -/
def Lsu.words (l : Lsu) : List Word :=
  [fwBool l.written.enable] ++ l.written.sides.a.words ++ l.written.sides.b.words
    ++ [fw l.evaluations, fw l.noPoseFrames, fw l.poseAheadFrames, fw l.shortHistoryFrames, fw l.clampedFrames]

/-- A FRAME_LOG entry; every field is 0 when no record is live (R74). -/
def recordWords (r : Option FrameRec) : List Word :=
  match r with
  | none => List.replicate 17 0
  | some r =>
    [fw r.number.toNat, fw r.state.code, r.start, fw (timeOr0 r.pose), fw (timeOr0 r.evalTime), fwInt r.yawOr0,
      fwInt r.pitchOr0, fwInt (r.shiftOr0 .a).dx, fwInt (r.shiftOr0 .a).dy, fwInt (r.shiftOr0 .b).dx,
      fwInt (r.shiftOr0 .b).dy, fw r.flags.sum, fw r.missing.a, fw r.missing.b, fw (r.strobe.a.getD 0),
      fw (r.strobe.b.getD 0), fw r.present]

/-- The record a FRAME_LOG entry shows (R74). -/
def Ftm.logRecord (t : Ftm) (i : Nat) : Option FrameRec :=
  if i = 0 then t.upcoming else if i = 1 then t.scanning else t.done

/-- A POLL entry (R104). -/
def State.readPoll (s : State) (e : Fin 8) : List Word :=
  let p := s.mou.poll[e]
  let c := p.cfg
  [fwBool c.enable, fw (busCode c.bus), fw c.device, fw c.startRegister, fw c.length, fwBool c.ready, fw c.readyLine,
    fw c.period, fw c.decimate, fw c.kind.code, fwBool c.big, fwBool c.toFifo,
    fwBool ((s.mou.serial4.queue ++ s.mou.twoWire.queue).any fun q => decide (q.entry = e)), fw p.samples, fw p.overruns,
    fw p.errors, fw p.late]

/-- MOUNT (R110). -/
def Mou.mountWords (m : Mou) : List Word :=
  let c := m.mountWritten
  [fw c.gain, fw c.yaw.axis.code, fwBool c.yaw.minus, fw c.pitch.axis.code, fwBool c.pitch.minus, fw c.roll.axis.code,
    fwBool c.roll.minus, fw m.saturations]

/-- MOTION (R121). -/
def Mou.motionWords (m : Mou) : List Word :=
  [fw m.watermark, fw m.flushTimeout, fw m.sensorPower, fw m.sensorClass.code, fw m.serial4.state.code,
    fw m.twoWire.state.code, fw (relayCode m.relay), fw m.fifo.length, fw m.history.length, fw m.records, fw m.fifoDrops,
    fw m.flushed, fw m.batches, fw m.historyRejects, fw m.recoveries, fw m.recoveryFailures]

/-- The audio amp's load request now (R135, R151). -/
def Auu.request (a : Auu) : Nat := if a.state = .stopped then 0 else a.ampPower

/-- AUDIO (R135). -/
def Auu.words (a : Auu) : List Word :=
  [fw a.fillTarget, fw a.volume, fwBool a.mute, fw a.ampPower, fwBool a.micOn, fw a.state.code, fw a.owner,
    fw a.buffer.length, fwInt a.servoF, fw a.gain, fw a.cap, fw a.request, fw a.blocks, fw a.foreignBlocks, fw a.lateBlocks,
    fw a.malformedBlocks, fw a.silenceBlocks, fw a.gapFlushes, fw a.overruns, fw a.underruns, fw a.idleStops, fw a.micBlocks]

/-- A PATTERN entry (R153). -/
def Pte.words (x : Pte) (i : Fin 48) : List Word :=
  let c := x.steps[i]
  [fw c.halfPeriod, fw c.level, fw c.envelope.code, fw c.duration, fw (stepCode c.next), fw x.hapticPower, fw x.deadTime,
    fw (stepCode (x.chanT.map Pattern.step)), fw (stepCode (x.chanH.map Pattern.step)), fw x.capForce]

/-- The switch field of a load: the written switch of AUX, and for any other load whether its request is above 0 (R177). -/
def switchShown (i : Fin 8) (l : Load) : Bool := if i = 7 then l.switch else decide (0 < l.request)

/-- A LOADS entry (R177). -/
def Pmg.loadWords (p : Pmg) (i : Fin 8) : List Word :=
  let l := p.loads[i]
  [fw l.priority, fw l.floor, fwBool (switchShown i l), fw (loadMode i), fw l.request, fw l.grant, fw l.state.code, fw l.sheds]

/-- Code of a power state field (R167). -/
def powerStateCode : PowerState → Nat
  | .held => 0
  | .normal => 1
  | .constrained => 2
  | .shed => 3
  | .trip => 4

/-- POWER (R167). -/
def Pmg.words (p : Pmg) : List Word :=
  let c := p.cfg
  [fw c.limit, fw c.reserve, fw c.vWarn, fw c.vShed, fw c.vTrip, fw c.hysteresis, fw c.iMax, fwBool c.protect,
    fw (powerStateCode p.state), fw p.budget, fw p.latest.mv, fw p.latest.ma, fw p.filtered.mv, fw p.filtered.ma,
    fwBool p.hold, fw p.trips, fw p.currentHolds, fw p.stateChanges]

/-- An EVENTS entry (R184). -/
def Evu.words (e : Evu) (i : Fin 28) : List Word :=
  let x := e.table[i]
  [fwBool x.enable, fw x.priority, fwBool x.coalesce, fw x.occurrences, fw x.lost,
    fw (e.queue.filter fun n => decide (n.kind.code = i)).length]

/-- The field words of an entry of a table now (R43, R45). -/
def State.readEntry (s : State) (t : Table) (i : Nat) : List Word :=
  match t with
  | .identity => s.readIdentity
  | .link => s.readLink
  | .steering => (s.stu.written[Fin.ofNat 8 i]).words
  | .streamStatus => (s.stu.streams[Fin.ofNat 32 i]).words
  | .sideband => s.readSideband (Fin.ofNat 6 i)
  | .frameTimer => s.readFrameTimer
  | .exposure => (s.ftm.gens.get (if i = 0 then .a else .b)).words
  | .panel => (s.panel (if i = 0 then .a else .b)).words
  | .shift => s.lsu.words
  | .frameLog => recordWords (s.ftm.logRecord i)
  | .poll => s.readPoll (Fin.ofNat 8 i)
  | .mount => s.mou.mountWords
  | .motion => s.mou.motionWords
  | .audio => s.auu.words
  | .pattern => s.pte.words (Fin.ofNat 48 i)
  | .loads => s.pmg.loadWords (Fin.ofNat 8 i)
  | .power => s.pmg.words
  | .events => s.evu.words (Fin.ofNat 28 i)

/-- The field words of `count` entries from `first` on (R45). -/
def State.readEntries (s : State) (t : Table) : Nat → Nat → List Word
  | 0, _ => []
  | n + 1, first => s.readEntry t first ++ s.readEntries t n (first + 1)

/-! ### CLEAR (R49) -/

/-- LINK's nine counters at 0 (R24); voice drops is the transmitter's. -/
def Lrx.cleared (l : Lrx) : Lrx :=
  { l with badHeaders := 0, badKinds := 0, badPayloads := 0, unlockedDiscards := 0, badSyncs := 0, targetsDropped := 0
           testCells := 0, testBitErrors := 0 }

/-- The five counters of a STREAM_STATUS entry at 0 (R28). -/
def StreamEntry.cleared (e : StreamEntry) : StreamEntry :=
  { e with goodCells := 0, gaps := 0, badPcrc := 0, unsteered := 0, kindMismatches := 0 }

/-- The eight counters of a PANEL entry at 0 (R79). -/
def PanelState.cleared (x : PanelState) : PanelState :=
  { x with missingLines := 0, earlyLines := 0, staleLines := 0, cutLines := 0, noScanLines := 0, malformedSlices := 0
           noContextSlices := 0, orphanCells := 0 }

/-- The counters of a POLL entry at 0 (R104). -/
def PollEntry.cleared (p : PollEntry) : PollEntry := { p with samples := 0, overruns := 0, errors := 0, late := 0 }

/-- The seven counters of MOTION at 0 (R121). -/
def Mou.cleared (m : Mou) : Mou :=
  { m with records := 0, fifoDrops := 0, flushed := 0, batches := 0, historyRejects := 0, recoveries := 0
           recoveryFailures := 0 }

/-- The five counters of SHIFT at 0 (R122). -/
def Lsu.cleared (l : Lsu) : Lsu :=
  { l with evaluations := 0, noPoseFrames := 0, poseAheadFrames := 0, shortHistoryFrames := 0, clampedFrames := 0 }

/-- The ten counters of AUDIO at 0 (R135). -/
def Auu.cleared (a : Auu) : Auu :=
  { a with blocks := 0, foreignBlocks := 0, lateBlocks := 0, malformedBlocks := 0, silenceBlocks := 0, gapFlushes := 0
           overruns := 0, underruns := 0, idleStops := 0, micBlocks := 0 }

/-- CLEAR of one entry: its counter fields become 0; STEERING, SIDEBAND, FRAME_LOG and PATTERN have none (R49). -/
def State.clearEntry (s : State) (t : Table) (i : Nat) : State :=
  match t with
  | .identity => s.onMrs fun m => { m with requestsTaken := 0, requestsDropped := 0, badPos := 0 }
  | .link => (s.onLrx Lrx.cleared).onLtx fun t => { t with voiceDrops := 0 }
  | .steering => s
  | .streamStatus => s.onStream (Fin.ofNat 32 i) StreamEntry.cleared
  | .sideband => s
  | .frameTimer => s.onFtm fun t => { t with frameStarts := 0, extraTargets := 0 }
  | .exposure => s.onGen (if i = 0 then .a else .b) fun g => { g with pulses := 0, suppressed := 0 }
  | .panel => s.onPanel (if i = 0 then .a else .b) PanelState.cleared
  | .shift => s.onLsu Lsu.cleared
  | .frameLog => s
  | .poll => s.onPoll (Fin.ofNat 8 i) PollEntry.cleared
  | .mount => s.onMou fun m => { m with saturations := 0 }
  | .motion => s.onMou Mou.cleared
  | .audio => s.onAuu Auu.cleared
  | .pattern => s
  | .loads => s.onPmg fun p => { p with loads := tabMod p.loads (Fin.ofNat 8 i) fun l => { l with sheds := 0 } }
  | .power => s.onPmg fun p => { p with trips := 0, currentHolds := 0, stateChanges := 0 }
  | .events => s.onEvu fun e => { e with table := tabMod e.table (Fin.ofNat 28 i) fun x => { x with occurrences := 0, lost := 0 } }

/-- CLEAR of `count` entries from `first` on (R49). -/
def State.clearEntries (s : State) (t : Table) : Nat → Nat → State
  | 0, _ => s
  | n + 1, first => (s.clearEntry t first).clearEntries t n (first + 1)

end Sys2Proof.Machine
end

