-- ==== Sys2Proof/Machine/Management.lean ====
section
/-! DEFINITION. The management responder: taking and judging a request, READ, WRITE, CLEAR, the nine commands, and one row
for each of them (chapter 3, R39 to R54). -/

namespace Sys2Proof.Machine

open Sys2Proof

/-! ### Replies (R40, R41) -/

/-- INDEX of a request; 0 in a cell of LEN 1 (R39). -/
def reqIndex (r : Request) : Byte := if r.short then 0 else r.index

/-- The reply record to a request (R40). -/
def replyTo (table : Byte) (r : Request) (st : Status) (data : List Word) : Reply :=
  { tag := r.tag, status := st, table := table, count := r.count, index := reqIndex r, data := data, restart := false }

/-- A reply placed in the REPLY queue (R40). -/
def State.placeReply (s : State) (p : Reply) : State := s.onLtx fun t => { t with reply := t.reply ++ [p] }

/-- A request answered with a status and no data. -/
def State.answerWith (s : State) (table : Byte) (r : Request) (st : Status) : State := s.placeReply (replyTo table r st [])

/-- Room in the REPLY queue: 4, less the cells in it, less the place reserved for a relay (R41). -/
def State.room (s : State) : Nat := 4 - (s.ltx.reply.length + bit s.mrs.slot.isSome)

/-! ### READ, WRITE, CLEAR (R45, R46, R49) -/

/-- A READ that has passed R42 (R45). -/
def State.doRead (s : State) (table : Byte) (t : Table) (r : Request) : State :=
  if 22 < r.count.toNat * t.fields then s.answerWith table r .badLength
  else s.placeReply (replyTo table r .ok (s.readEntries t r.count.toNat (reqIndex r).toNat))

/-- A WRITE that has passed R42 (R46). -/
def State.doWrite (s : State) (table : Byte) (t : Table) (r : Request) : State :=
  match s.judgeWrite t (reqIndex r).toNat r.count.toNat r.data with
  | .refused st => s.answerWith table r st
  | .store es clamped => (s.store t es).answerWith table r (if clamped then .okAdjusted else .ok)

/-- A CLEAR that has passed R42 (R49). -/
def State.doClear (s : State) (table : Byte) (t : Table) (r : Request) : State :=
  (s.clearEntries t r.count.toNat (reqIndex r).toNat).answerWith table r .ok

/-! ### Commands (R50 to R54) -/

/-- RESTART is answered OK, and the restart is pending (R54). -/
def State.doRestart (s : State) (table : Byte) (r : Request) : State :=
  (s.placeReply { replyTo table r .ok [] with restart := true }).onMrs fun m => { m with restartPending := true }

/-- Argument k of a command. -/
def reqArg (r : Request) (k : Nat) : Nat := (r.data.getD k 0).toNat

/-- A RELAY's arguments within their ranges (R50). -/
def relayArgs (r : Request) : Bool :=
  decide (reqArg r 0 ≤ 1) && decide (reqArg r 1 ≤ (if reqArg r 0 = 0 then 1 else 127)) && decide (reqArg r 3 ≤ 16)
    && decide (reqArg r 4 ≤ 65535) && decide (1 ≤ reqArg r 5) && decide (reqArg r 5 ≤ 255)

/-- The relay a RELAY asks for (R50, R118). -/
def relayOf (r : Request) : Relay :=
  { bus := busOfCode (reqArg r 0), device := reqArg r 1, writeBytes := (bytesOf (r.data.drop 6)).take (reqArg r 2)
    readLen := reqArg r 3, waitAfter := reqArg r 4, phase := .waiting, waitEnd := 0 }

/-- The slot as a RELAY takes it, its timeout on the part's own oscillator (R52). -/
def slotOf (r : Request) (osc : Nat) : Slot :=
  { tag := r.tag, count := r.count, index := reqIndex r, readLen := reqArg r 3, deadline := osc + reqArg r 5 * msTicks }

/-- A RELAY judged: a write count above 16 before the word count, then the ranges, then the slot and the bus (R50, R52; log
entry 32). -/
def State.doRelay (s : State) (table : Byte) (r : Request) : State :=
  if r.data.length < 3 then s.answerWith table r .badLength
  else if 16 < reqArg r 2 then s.answerWith table r .badValue
  else if r.data.length ≠ 6 + ceilDiv (reqArg r 2) 4 then s.answerWith table r .badLength
  else if !relayArgs r then s.answerWith table r .badValue
  else if s.mrs.slot.isSome then s.answerWith table r .busy
  else if (s.bus (relayOf r).bus).state = .fault then s.answerWith table r .busError
  else (s.onMrs fun m => { m with slot := some (slotOf r s.osc) }).relayHandOver (relayOf r)

/-- BUS_RECOVER (R50, R117). -/
def State.doBusRecover (s : State) (table : Byte) (r : Request) : State :=
  if r.data.length ≠ 1 then s.answerWith table r .badLength
  else if 1 < reqArg r 0 then s.answerWith table r .badValue
  else (s.busRecover (busOfCode (reqArg r 0))).answerWith table r .ok

/-- FIFO_FLUSH (R115). -/
def State.doFifoFlush (s : State) (table : Byte) (r : Request) : State :=
  if r.data.length ≠ 0 then s.answerWith table r .badLength else (s.onMou Mou.flush).answerWith table r .ok

/-- AUDIO_RESTART (R142). -/
def State.doAudioRestart (s : State) (table : Byte) (r : Request) : State :=
  if r.data.length ≠ 0 then s.answerWith table r .badLength
  else ((s.onAuu fun a => { a.halt with servoF := 0 }).refreshLoads).answerWith table r .ok

/-- PLAY's arguments within their ranges (R50). -/
def playArgs (r : Request) : Bool :=
  decide (reqArg r 0 ≤ 1) && decide (reqArg r 1 ≤ 47) && decide (reqArg r 2 ≤ 3) && decide (1 ≤ reqArg r 3)
    && decide (reqArg r 3 ≤ 4095)

/-- Channel of a code (R50). -/
def channelOfCode (n : Nat) : Channel :=
  match n with
  | 0 => .t
  | _ => .h

/-- A channel plays a pattern of higher priority than a PLAY's (R155). -/
def Pte.outranks (x : Pte) (c : Channel) (priority : Nat) : Bool :=
  match x.chan c with
  | some p => decide (priority < p.priority)
  | none => false

/-- A PLAY that starts its pattern, after the pattern it displaces has ended PREEMPTED (R155). On channel H a displaced pattern
that stood NEGATIVE makes the new one's beginning a reversal (R156, R158; log entry 31). -/
def State.startPlay (s : State) (c : Channel) (n : Fin 48) (priority budget : Nat) : State :=
  ((s.endPattern c .preempted).onPte fun x =>
    x.play c n priority budget s.pte.negative s.osc).refreshLoads

/-- PLAY (R155). -/
def State.doPlay (s : State) (table : Byte) (r : Request) : State :=
  if r.data.length ≠ 4 then s.answerWith table r .badLength
  else if !playArgs r then s.answerWith table r .badValue
  else if s.pte.outranks (channelOfCode (reqArg r 0)) (reqArg r 2) then s.answerWith table r .busy
  else
    (s.startPlay (channelOfCode (reqArg r 0)) (Fin.ofNat 48 (reqArg r 1)) (reqArg r 2) (reqArg r 3)).answerWith table r .ok

/-- STOP (R159). -/
def State.doStop (s : State) (table : Byte) (r : Request) : State :=
  if r.data.length ≠ 1 then s.answerWith table r .badLength
  else if 1 < reqArg r 0 then s.answerWith table r .badValue
  else ((s.endPattern (channelOfCode (reqArg r 0)) .stopped).refreshLoads).answerWith table r .ok

/-- TEST_START (R16). -/
def State.doTestStart (s : State) (table : Byte) (r : Request) : State :=
  if r.data.length ≠ 0 then s.answerWith table r .badLength
  else (s.onLrx fun l => { l with testMode := true, testCells := 0, testBitErrors := 0 }).answerWith table r .ok

/-- TEST_STOP (R16). -/
def State.doTestStop (s : State) (table : Byte) (r : Request) : State :=
  if r.data.length ≠ 0 then s.answerWith table r .badLength
  else (s.onLrx fun l => { l with testMode := false }).answerWith table r .ok

/-- A COMMAND by its code (R50). -/
def State.doCommand (s : State) (code : Byte) (r : Request) : State :=
  match code.toNat with
  | 0 => if r.data.length ≠ 0 then s.answerWith code r .badLength else s.doRestart code r
  | 1 => s.doRelay code r
  | 2 => s.doBusRecover code r
  | 3 => s.doFifoFlush code r
  | 4 => s.doAudioRestart code r
  | 5 => s.doPlay code r
  | 6 => s.doStop code r
  | 7 => s.doTestStart code r
  | 8 => s.doTestStop code r
  | _ => s.answerWith code r .badOp

/-! ### Taking a request (R41, R42) -/

/-- A READ, WRITE or CLEAR that has passed the first five checks (R42 checks 6 to 8). -/
def State.doTable (s : State) (op : Nat) (table : Byte) (r : Request) : State :=
  match Table.ofCode table.toNat with
  | none => s.answerWith table r .badTable
  | some t =>
    if r.count.toNat = 0 ∨ t.entries < (reqIndex r).toNat + r.count.toNat then s.answerWith table r .badIndex
    else if op = 0 then s.doRead table t r
    else if op = 1 then s.doWrite table t r
    else s.doClear table t r

/-- A taken request judged and answered (R42). -/
def State.answer (s : State) (op : Nat) (table : Byte) (r : Request) : State :=
  if r.short then s.answerWith table r .badLength
  else if 3 < op then s.answerWith table r .badOp
  else if s.cfl.state = .loading ∧ op ≠ 0 then s.answerWith table r .busy
  else if s.mrs.restartPending = true ∧ op ≠ 0 then s.answerWith table r .busy
  else if op = 3 then s.doCommand table r
  else s.doTable op table r

/-- A request that finds no room is dropped with MGMT_DROPPED (R41). -/
def State.dropRequest (s : State) (op : Nat) (table : Byte) (r : Request) : State :=
  (s.onMrs fun m => { m with requestsDropped := satInc m.requestsDropped }).raise .mgmtDropped
    ([r.tag] ++ leBytes 1 op ++ [table])

/-- A MGMT cell's arrival at the responder (R41). -/
def State.request (s : State) (op : Nat) (table : Byte) (r : Request) : State :=
  if r.pos ≠ .only then s.onMrs fun m => { m with badPos := satInc m.badPos }
  else if s.room = 0 then s.dropRequest op table r
  else (s.onMrs fun m => { m with requestsTaken := satInc m.requestsTaken }).answer op table r

/-! ### The rows -/

/-- READ (R45). -/
def execRead (table : Byte) (r : Request) (s : State) : Host.Outcome State Fault Refusal :=
  .next (s.live fun s => s.request 0 table r)

/-- WRITE (R46), on whichever table it names. -/
def execWrite (table : Byte) (r : Request) (s : State) : Host.Outcome State Fault Refusal :=
  .next (s.live fun s => s.edged fun s => s.request 1 table r)

/-- WRITE_POWER (R174): a WRITE to table 16. -/
def execWritePower (r : Request) (s : State) : Host.Outcome State Fault Refusal :=
  .next (s.live fun s => s.edged fun s => s.request 1 16 r)

/-- WRITE_LOADS (R177): a WRITE to table 15. -/
def execWriteLoads (r : Request) (s : State) : Host.Outcome State Fault Refusal :=
  .next (s.live fun s => s.request 1 15 r)

/-- WRITE_SIDEBAND (R34): a WRITE to table 4. -/
def execWriteSideband (r : Request) (s : State) : Host.Outcome State Fault Refusal :=
  .next (s.live fun s => s.edged fun s => s.request 1 4 r)

/-- WRITE_FRAME_TIMER (R61): a WRITE to table 5. -/
def execWriteFrameTimer (r : Request) (s : State) : Host.Outcome State Fault Refusal :=
  .next (s.live fun s => s.request 1 5 r)

/-- WRITE_PANEL (R80): a WRITE to table 7. -/
def execWritePanel (r : Request) (s : State) : Host.Outcome State Fault Refusal :=
  .next (s.live fun s => s.request 1 7 r)

/-- WRITE_POLL (R105): a WRITE to table 10. -/
def execWritePoll (r : Request) (s : State) : Host.Outcome State Fault Refusal :=
  .next (s.live fun s => s.request 1 10 r)

/-- WRITE_MOTION (R121): a WRITE to table 12. -/
def execWriteMotion (r : Request) (s : State) : Host.Outcome State Fault Refusal :=
  .next (s.live fun s => s.request 1 12 r)

/-- WRITE_AUDIO (R135): a WRITE to table 13. -/
def execWriteAudio (r : Request) (s : State) : Host.Outcome State Fault Refusal :=
  .next (s.live fun s => s.request 1 13 r)

/-- WRITE_PATTERN (R165): a WRITE to table 14. -/
def execWritePattern (r : Request) (s : State) : Host.Outcome State Fault Refusal :=
  .next (s.live fun s => s.request 1 14 r)

/-- CLEAR (R49). -/
def execClear (table : Byte) (r : Request) (s : State) : Host.Outcome State Fault Refusal :=
  .next (s.live fun s => s.request 2 table r)

/-- RESTART (R54): COMMAND code 0. -/
def execRestart (r : Request) (s : State) : Host.Outcome State Fault Refusal :=
  .next (s.live fun s => s.request 3 0 r)

/-- RELAY (R52): COMMAND code 1. -/
def execRelay (r : Request) (s : State) : Host.Outcome State Fault Refusal :=
  .next (s.live fun s => s.request 3 1 r)

/-- BUS_RECOVER (R117): COMMAND code 2. -/
def execBusRecover (r : Request) (s : State) : Host.Outcome State Fault Refusal :=
  .next (s.live fun s => s.request 3 2 r)

/-- FIFO_FLUSH (R115): COMMAND code 3. -/
def execFifoFlush (r : Request) (s : State) : Host.Outcome State Fault Refusal :=
  .next (s.live fun s => s.request 3 3 r)

/-- AUDIO_RESTART (R142): COMMAND code 4. -/
def execAudioRestart (r : Request) (s : State) : Host.Outcome State Fault Refusal :=
  .next (s.live fun s => s.request 3 4 r)

/-- PLAY (R155): COMMAND code 5. -/
def execPlay (r : Request) (s : State) : Host.Outcome State Fault Refusal :=
  .next (s.live fun s => s.request 3 5 r)

/-- STOP (R159): COMMAND code 6. -/
def execStop (r : Request) (s : State) : Host.Outcome State Fault Refusal :=
  .next (s.live fun s => s.request 3 6 r)

/-- TEST_START (R16): COMMAND code 7. -/
def execTestStart (r : Request) (s : State) : Host.Outcome State Fault Refusal :=
  .next (s.live fun s => s.request 3 7 r)

/-- TEST_STOP (R16): COMMAND code 8. -/
def execTestStop (r : Request) (s : State) : Host.Outcome State Fault Refusal :=
  .next (s.live fun s => s.request 3 8 r)

end Sys2Proof.Machine
end

