-- ==== Sys2Proof/Machine/LinkRx.lean ====
section
/-! DEFINITION. The link receiver and the steering unit's part of a cell's arrival: HEADER_JUDGEMENT, CELL_ARRIVAL and
SLEW_END (chapters 1 and 2). -/

namespace Sys2Proof.Machine

open Sys2Proof

/-! ### Headers and lock (R1, R2, R5, R6) -/

/-- Bytes from one cell's first byte to the next one's (R1). -/
def cellBytes : Nat := 134

/-- What leaving LOCKED does at the same judgement (R6, R8, R31, R33, R87). -/
def State.lockLost (s : State) : State :=
  (((s.onLrx fun l => { l with pass := false, winCells := 0, winErrors := 0 }).onStu fun u =>
    { u with
      streams := u.streams.map fun e => { e with tracking := false, gapPending := false }
      wordCurrent := false }).onPxp Pxp.abortAll).raise .linkUnlock []

/-- The receiver after a good header: the spacing is kept, and a defined kind's cell is taken in (R1, R2). -/
def Lrx.goodHeader (l : Lrx) (cell : Option RxCell) : Lrx :=
  { l with nextHeader := l.nextHeader + cellBytes, cell := cell, badKinds := satAdd l.badKinds (bit cell.isNone) }

/-- A header that passes HCHK (R1, R2, R5). -/
def State.goodHeader (s : State) (b0 b1 b2 : Byte) : State :=
  match s.lrx.lock with
  | .search =>
    s.onLrx fun l => { l.goodHeader (readHeader b0 b1 b2 false) with lock := .verify, goodCount := 1 }
  | .verify =>
    if s.lrx.goodCount + 1 = 4 then
      (s.onLrx fun l =>
        { l.goodHeader (readHeader b0 b1 b2 true) with lock := .locked, goodCount := 4, badCount := 0 }).raise .linkLock []
    else s.onLrx fun l => { l.goodHeader (readHeader b0 b1 b2 false) with goodCount := l.goodCount + 1 }
  | .locked => s.onLrx fun l => { l.goodHeader (readHeader b0 b1 b2 true) with badCount := 0 }

/-- A header that fails HCHK: in SEARCH a dropped candidate, at an expected boundary a bad header (R1, R5). -/
def State.badHeader (s : State) : State :=
  match s.lrx.lock with
  | .search => s.onLrx fun l => { l with nextHeader := l.nextHeader + 1 }
  | .verify =>
    s.onLrx fun l =>
      { l with badHeaders := satInc l.badHeaders, lock := .search, goodCount := 0, nextHeader := l.nextHeader + 1 }
  | .locked =>
    if s.lrx.badCount + 1 = 3 then
      (s.onLrx fun l =>
        { l with badHeaders := satInc l.badHeaders, lock := .search, goodCount := 0, badCount := 0
                 nextHeader := l.nextHeader + 1 }).lockLost
    else
      s.onLrx fun l =>
        { l with badHeaders := satInc l.badHeaders, badCount := l.badCount + 1, nextHeader := l.nextHeader + cellBytes }

/-- The judgement of four header bytes (R1). -/
def State.judgeHeader (s : State) (b0 b1 b2 b3 : Byte) : State :=
  if hchk [b0, b1, b2] = b3 then s.goodHeader b0 b1 b2 else s.badHeader

/-- HEADER_JUDGEMENT (R1): the candidate or expected header at byte position `nextHeader`. None is due while a cell is
being taken in (log entry 5). -/
def execHeaderJudgement (b0 b1 b2 b3 : Byte) (s : State) : Host.Outcome State Fault Refusal :=
  .next (s.live fun s => if s.lrx.cell.isSome then s else s.edged fun s => s.judgeHeader b0 b1 b2 b3)

/-! ### Pass (R7, R8) -/

/-- PASS becomes false with PASS_LOST (R8). -/
def State.losePass (s : State) : State :=
  (s.onLrx fun l => { l with pass := false }).raise .passLost (leBytes 2 s.lrx.winErrors ++ leBytes 2 s.lrx.winCells)

/-- A cell counted in the pass window (R7 step 1), a bad one also as an error (step 2). -/
def Lrx.countCell (l : Lrx) (good : Bool) : Lrx :=
  { l with winCells := l.winCells + 1, winErrors := l.winErrors + bit (!good) }

/-- The check at a payload error (R8). -/
def State.errorCheck (s : State) (good : Bool) : State :=
  if !good && s.lrx.pass && decide (s.lrx.passThreshold ≤ s.lrx.winErrors) then s.losePass else s

/-- The end-of-window judgement (R8). -/
def State.judgeWindow (s : State) : State :=
  if s.lrx.winErrors < s.lrx.passThreshold then
    if s.lrx.pass then s
    else (s.onLrx fun l => { l with pass := true }).raise .passRegained (leBytes 2 s.lrx.winErrors)
  else if s.lrx.pass then s.losePass
  else s

/-- The window ends at 4096 cells: judgement, then both counts return to 0 (R7 step 3). -/
def State.windowEnd (s : State) : State :=
  if s.lrx.winCells = 4096 then s.judgeWindow.onLrx fun l => { l with winCells := 0, winErrors := 0 } else s

/-- The pass machine at a cell's arrival (R7). -/
def State.passWindow (s : State) (good : Bool) : State :=
  ((s.onLrx fun l => l.countCell good).errorCheck good).windowEnd

/-! ### The test checker (R17) -/

/-- A TEST cell compared with the pattern while test mode is on (R17). -/
def Lrx.checkTest (l : Lrx) (c : RxCell) (bytes : List Byte) : Lrx :=
  if l.testMode then
    { l with testCells := satInc l.testCells
             testBitErrors := satAdd l.testBitErrors (bitErrors bytes (testPattern bytes.length c.seq)) }
  else l

/-- A cell with a bad PCRC: counted, its stream marked gap pending, and a TEST cell of stream 0 still compared (R3). -/
def State.badPayload (s : State) (c : RxCell) (bytes : List Byte) : State :=
  let s1 := (s.onLrx fun l => { l with badPayloads := satInc l.badPayloads }).onStream c.sn fun e =>
    { e with badPcrc := satInc e.badPcrc, gapPending := true }
  if c.sn = 0 ∧ c.kind = .test then s1.onLrx fun l => l.checkTest c bytes else s1

/-! ### Sequence tracking and steering (R26 to R30) -/

/-- The gap indication of a good cell of a stream (R29, R30). -/
def StreamEntry.gap (e : StreamEntry) (seq : Byte) : Option Nat :=
  let g := (seq - (e.lastSeq + 1)).toNat
  if !e.tracking then none
  else if g = 0 then (if e.gapPending then some 1 else none)
  else some g

/-- The entry after a good cell (R29, R30). -/
def StreamEntry.track (e : StreamEntry) (seq : Byte) : StreamEntry :=
  { e with
    tracking := true, lastSeq := seq, gapPending := false, goodCells := satInc e.goodCells
    gaps := satAdd e.gaps (bit (e.gap seq).isSome) }

/-- Sequence tracking of a good cell. -/
def State.trackCell (s : State) (c : RxCell) : State := s.onStream c.sn fun e => e.track c.seq

/-- A window in force matches a stream (R26). -/
def Window.hits (w : Window) (sn : Nat) : Bool := w.enable && decide (sn &&& w.mask = w.base &&& w.mask)

/-- The destination of the lowest-numbered enabled match (R26). -/
def Stu.destination (u : Stu) (sn : Nat) : Option Destination :=
  (u.inForce.toList.find? fun w => w.hits sn).map Window.destination

/-- A DATA cell delivered to its consumer (R27). -/
def State.steer (s : State) (c : RxCell) (bytes : List Byte) (gap : Option Nat) (d : Destination) : State :=
  let pic (t : Target) : PicCell := { sn := c.sn, pos := c.pos, bytes := bytes, gap := gap, target := t }
  match d with
  | .discard => s
  | .panelA => s.pictureCell (pic (.one .a))
  | .panelB => s.pictureCell (pic (.one .b))
  | .panelBoth => s.pictureCell (pic .both)
  | .audio => (s.audioCell c.sn c.len bytes gap).refreshLoads
  | .sideband => s.onStu fun u => u.sidebandCell bytes

/-- A good cell on streams 1 to 31: tracking, kind, window search, delivery (R26). -/
def State.steering (s : State) (c : RxCell) (bytes : List Byte) : State :=
  let gap := (s.stu.streams[c.sn]).gap c.seq
  let s1 := s.trackCell c
  if c.kind ≠ .data then s1.onStream c.sn fun e => { e with kindMismatches := satInc e.kindMismatches }
  else match s1.stu.destination c.sn.val with
    | none => s1.onStream c.sn fun e => { e with unsteered := satInc e.unsteered }
    | some d => s1.steer c bytes gap d

/-! ### SYNC (R10 to R15, R63) -/

/-- The fields of a SYNC payload (12.3). -/
structure Sync where
  ct      : Time
  present : Bool
  frame   : FrameNo
  start   : Time
  deriving DecidableEq, Repr

/-- A SYNC payload read; the ignored bits are not looked at (12.3, R192). -/
def readSync (bs : List Byte) : Sync :=
  { ct := BitVec.ofNat 32 (ofLe (bs.take 4)), present := (bs.getD 4 0).getLsbD 0
    frame := BitVec.ofNat 16 (ofLe ((bs.drop 8).take 2)), start := BitVec.ofNat 32 (ofLe ((bs.drop 12).take 4)) }

/-- What an accepted SYNC does to tether time (R11, R12). -/
inductive SyncCase
  | set (d : Int)
  | step (d : Int)
  | forward
  | slew (n : Nat)
  | fault (d : Int)
  deriving DecidableEq, Repr

/-- The case of a reference (R11, R12). -/
def syncCase (l : Lrx) (ref : Time) : SyncCase :=
  let d := tdiff ref l.tt
  if l.timeState = .unset then .set d
  else if 4096 < d then .step d
  else if 0 ≤ d then .forward
  else if -4096 ≤ d then .slew d.natAbs
  else .fault d

/-- TT loaded with a reference; the time state is RUNNING (R11, R12). DESIGN CHOICE: the microsecond in progress runs on through
the load (log entry 49). -/
def Lrx.load (l : Lrx) (ref : Time) : Lrx :=
  { l with tt := ref, timeState := .running, deficit := 0, faults := 0, slewHalf := false }

/-- The slew begun or its deficit replaced (R12). -/
def Lrx.slew (l : Lrx) (n : Nat) : Lrx :=
  { l with timeState := .slewing, deficit := n, faults := 0
           slewHalf := if l.timeState = .slewing then l.slewHalf else false }

/-- The fourth time fault in a row (R14). DESIGN CHOICE: TIME_LOST is raised after the time state has become UNSET, so its notice
is marked TIME_UNSET; R14 and R186 do not say which side of the change it reports (log entry 39). -/
def State.timeLost (s : State) : State :=
  (s.onLrx fun l => { l with timeState := .unset, deficit := 0, faults := 0, slewHalf := false }).raise .timeLost []

/-- A time fault (R12, R14). -/
def State.timeFault (s : State) (d : Int) : State :=
  let s1 := (s.onLrx fun l => { l with faults := l.faults + 1 }).raise .timeFault (leBytesInt 4 d)
  if 4 ≤ s1.lrx.faults then s1.timeLost else s1

/-- The time update and the re-base (R11, R12, R63). -/
def State.timeUpdate (s : State) (ref : Time) : State :=
  match syncCase s.lrx ref with
  | .set d => ((s.onLrx fun l => l.load ref).raise .timeSet (leBytes 4 s.now.toNat)).rebase d
  | .step d => ((s.onLrx fun l => l.load ref).raise .timeStep (leBytesInt 4 d)).rebase d
  | .forward => s.onLrx fun l => l.load ref
  | .slew n => s.onLrx fun l => l.slew n
  | .fault d => s.timeFault d

/-- One item taken if it is due, with the rising edges it makes. -/
def State.takeIf (s : State) (due : State → Bool) (f : State → State) : State := if due s then s.edged f else s

/-- Every item the time update has brought due, in the order of log entry 12 (R63, R71). -/
def State.takeDue (s : State) : State :=
  (((((((((s.takeIf (fun s => s.expStartDue .a) fun s => s.startPulse .a).takeIf
    (fun s => s.expEndDue .a) fun s => s.endPulse .a).takeIf
    (fun s => s.expStartDue .b) fun s => s.startPulse .b).takeIf
    (fun s => s.expEndDue .b) fun s => s.endPulse .b).takeIf
    (fun s => s.strobeStartDue .a) fun s => s.beginStrobe .a).takeIf
    (fun s => s.strobeEndDue .a) fun s => s.endStrobe .a).takeIf
    (fun s => s.strobeStartDue .b) fun s => s.beginStrobe .b).takeIf
    (fun s => s.strobeEndDue .b) fun s => s.endStrobe .b).takeIf
    State.frameStartDue State.frameStart).evaluateIfDue

/-- The target of a SYNC: handed to the frame timer, or dropped and counted after a time fault (R15). -/
def State.syncTarget (s : State) (x : Sync) (faulted : Bool) : State :=
  if !x.present then s
  else if faulted then s.onLrx fun l => { l with targetsDropped := satInc l.targetsDropped }
  else s.edged fun s => s.target x.frame x.start

/-- The case is a time fault. -/
def SyncCase.faulted : SyncCase → Bool
  | .set _ => false
  | .step _ => false
  | .forward => false
  | .slew _ => false
  | .fault _ => true

/-- An accepted SYNC: time update and re-base, items brought due, target (R10 to R15, R63). -/
def State.sync (s : State) (x : Sync) : State :=
  let ref := x.ct + BitVec.ofNat 32 s.lrx.linkDelay
  let faulted := (syncCase s.lrx ref).faulted
  let s1 := s.edged fun s => s.timeUpdate ref
  (if faulted then s1 else s1.takeDue).syncTarget x faulted

/-- A SYNC cell of stream 0 (R10). -/
def State.syncCell (s : State) (c : RxCell) (bytes : List Byte) : State :=
  if c.pos = .only ∧ c.len = 4 then s.sync (readSync bytes)
  else s.onLrx fun l => { l with badSyncs := satInc l.badSyncs }

/-! ### A cell's arrival (R3, R4) -/

/-- The request a MGMT cell carries, without its operation and table (R39, 12.2). -/
def requestOf (c : RxCell) (bytes : List Byte) : Request :=
  { pos := c.pos, tag := bytes.getD 0 0, count := bytes.getD 3 0, index := bytes.getD 4 0, short := decide (c.len = 1)
    data := wordsOf (c.len - 2) (bytes.drop 8) }

/-- A good cell of stream 0 routed by its kind, then tracked unless it is IDLE (R4, R26; log entry 7). -/
def State.streamZero (s : State) (c : RxCell) (bytes : List Byte) : State :=
  match c.kind with
  | .idle => s
  | .data => (s.onStream 0 fun e => { e with kindMismatches := satInc e.kindMismatches }).trackCell c
  | .mgmt =>
    (s.edged fun s => s.request (bytes.getD 1 0).toNat (bytes.getD 2 0) (requestOf c bytes)).trackCell c
  | .sync => (s.syncCell c bytes).trackCell c
  | .test => (s.onLrx fun l => l.checkTest c bytes).trackCell c

/-- A good cell delivered by its stream (R4). -/
def State.deliver (s : State) (c : RxCell) (bytes : List Byte) : State :=
  if c.sn = 0 then s.streamZero c bytes else s.edged fun s => s.steering c bytes

/-- The arrival of a cell whose header was judged in LOCKED (R3). -/
def State.lockedArrival (s : State) (c : RxCell) (bytes : List Byte) (good : Bool) : State :=
  let s1 := s.edged fun s => s.passWindow good
  if good then s1.deliver c bytes else s1.badPayload c bytes

/-- PCRC over a cell's covered bytes matches the two check bytes received (R3, R191). -/
def payloadGood (bytes : List Byte) (p0 p1 : Byte) : Bool := decide ((pcrc bytes).toNat = p0.toNat + 256 * p1.toNat)

/-- The cell in progress has come whole; the steering windows written before come into force (R2, R3, R25). -/
def State.arrive (s : State) (c : RxCell) (payload : List Byte) (p0 p1 : Byte) : State :=
  let s1 := (s.onLrx fun l => { l with cell := none }).onStu fun u => { u with inForce := u.written }
  let bytes := payload.take (4 * c.len)
  if c.locked then s1.lockedArrival c bytes (payloadGood bytes p0 p1)
  else s1.onLrx fun l => { l with unlockedDiscards := satInc l.unlockedDiscards }

/-- CELL_ARRIVAL (R3): the 128 payload bytes and the PCRC of the cell being taken in. Another number of bytes is no
arrival (log entry 37). -/
def execCellArrival (payload : List Byte) (p0 p1 : Byte) (s : State) : Host.Outcome State Fault Refusal :=
  .next (s.live fun s =>
    match s.lrx.cell with
    | some c => if payload.length = 128 then s.arrive c payload p0 p1 else s
    | none => s)

/-- The slew's deficit has been worked off (R9, R13). -/
def Lrx.slewOver (l : Lrx) : Bool := decide (l.timeState = .slewing) && decide (l.deficit = 0)

/-- SLEW_END (R9, R13). -/
def execSlewEnd (s : State) : Host.Outcome State Fault Refusal :=
  .next (s.live fun s =>
    if s.lrx.slewOver then s.onLrx fun l => { l with timeState := .running, slewHalf := false } else s)

end Sys2Proof.Machine
end

