-- ==== Sys2Proof/Machine/Reset.lean ====
section
/-! DEFINITION. Power-on reset and RESTART: POWER_ON_RESET and POWER_ON_RESET_ENDS, and what every block returns to at a restart
(R55, R169, R193). -/

namespace Sys2Proof.Machine

open Sys2Proof

/-- The brownout level (R169). -/
def brownout : Nat := 3800

/-- The part at its reset values. What is not the part's own stays: the commands waiting, the levels at the pins, and the
model's count of line samples (log entry 8). -/
def State.resetAll (s : State) (h : ResetHold) : State :=
  { State.reset with
    pending := s.pending
    hold := h
    stu := { Stu.reset with pins := s.stu.pins }
    mou := { Mou.reset with lineSamples := s.mou.lineSamples } }

/-- A cause that holds the part in power-on reset, added to those that do: a supply below the brownout level, or RSTN low
(R169, R193; log entry 4). -/
def ResetHold.add (h : ResetHold) : ResetCause → ResetHold
  | .supply mv => { h with supplyLow := h.supplyLow || decide (mv < brownout) }
  | .rstn => { h with rstnLow := true }

/-- A cause that is gone: the supply at the brownout level or above, or RSTN released (R169, R193). -/
def ResetHold.drop (h : ResetHold) : ResetCause → ResetHold
  | .supply mv => { h with supplyLow := h.supplyLow && decide (mv < brownout) }
  | .rstn => { h with rstnLow := false }

/-- POWER_ON_RESET (R169): at that moment, whatever is in flight. -/
def execPowerOnReset (c : ResetCause) (s : State) : Host.Outcome State Fault Refusal :=
  .next (if (s.hold.add c).supplyLow || (s.hold.add c).rstnLow then s.resetAll (s.hold.add c) else s)

/-- POWER_ON_RESET_ENDS (R169, R193): with no cause left every block begins from its reset values. -/
def execPowerOnResetEnds (c : ResetCause) (s : State) : Host.Outcome State Fault Refusal :=
  .next (if s.held then s.resetAll (s.hold.drop c) else s)

/-- LRX after RESTART: the lock machine and the pass machine keep their state (R5, R7, R8, R55). -/
def Lrx.restarted (l : Lrx) : Lrx :=
  { Lrx.reset with
    lock := l.lock, goodCount := l.goodCount, badCount := l.badCount, nextHeader := l.nextHeader, cell := l.cell
    pass := l.pass, winCells := l.winCells, winErrors := l.winErrors }

/-- AUU after RESTART: its frame clock runs on (R141; log entry 20). -/
def Auu.restarted (a : Auu) : Auu :=
  { Auu.reset with frameIdx := a.frameIdx, frameAt := a.frameAt, micPhase := a.micPhase }

/-- PTE after RESTART: the carrier runs on (R162). -/
def Pte.restarted (x : Pte) : Pte := { Pte.reset with carrierAt := x.carrierAt, periodStart := x.periodStart }

/-- RESTART takes effect: every block returns to its reset values but for the lock and pass machines and what runs on the
oscillator without a break (R9, R55, R162, R168). -/
def State.restart (s : State) : State :=
  { State.reset with
    pending := s.pending
    clock := { s.clock with usAcc := 0 }
    lrx := s.lrx.restarted
    stu := { Stu.reset with pins := s.stu.pins }
    mou := { Mou.reset with lineSamples := s.mou.lineSamples }
    auu := s.auu.restarted
    pte := s.pte.restarted }

/-- The cell in transmission is the reply that answers a RESTART (R54). -/
def State.restartSent (s : State) : Bool := (s.ltx.tx.map TxCell.restart).getD false

end Sys2Proof.Machine
end

