-- ==== Sys2Proof/Machine/LinkTx.lean ====
section
/-! DEFINITION. The link transmitter: CELL_BOUNDARY and RESTART_TAKES_EFFECT (1.6, R18 to R23, R55). -/

namespace Sys2Proof.Machine

open Sys2Proof

/-- What a pick grants (R22). -/
inductive Grant
  | reply | notice | motion | voice | nothing
  deriving DecidableEq, Repr

/-- REPLY or NOTICE waits (R22). -/
def State.replyWaits (s : State) : Bool := !s.ltx.reply.isEmpty || !s.evu.queue.isEmpty

/-- The fairness turn is due (R22 rule 1). -/
def State.fairTurn (s : State) : Bool := decide (s.ltx.fairness = 3) && s.replyWaits

/-- The grant of a cell boundary (R22). -/
def State.grant (s : State) : Grant :=
  if s.fairTurn then (if s.ltx.reply.isEmpty then .notice else .reply)
  else if !s.ltx.motion.isEmpty then .motion
  else if !s.ltx.voice.isEmpty then .voice
  else if !s.ltx.reply.isEmpty then .reply
  else if !s.evu.queue.isEmpty then .notice
  else .nothing

/-- The fairness count after a grant (R22). -/
def State.fairnessAfter (s : State) : Nat :=
  match s.grant with
  | .motion => if s.replyWaits then s.ltx.fairness + 1 else 0
  | .voice => if s.replyWaits then s.ltx.fairness + 1 else 0
  | .reply => 0
  | .notice => 0
  | .nothing => 0

/-- A queued cell begins its transmission on its stream: the stream's sequence number is taken and rises (R20). -/
def Ltx.send (t : Ltx) (sn : Fin 4) (src : TxSource) (k : CellKind) (payload : List Byte) (restart : Bool) : Ltx :=
  { t with
    tx := some { source := src, wire := cellWire sn.val k t.seq[sn] payload, restart := restart }
    seq := tabMod t.seq sn (· + 1) }

/-- A REPLY cell leaves its queue (R20, R21). -/
def Ltx.sendReply (t : Ltx) : Ltx :=
  match t.reply with
  | [] => t
  | p :: rest => ({ t with reply := rest } : Ltx).send 0 .reply .mgmt p.payload p.restart

/-- A MOTION cell leaves its queue (R20, R21). -/
def Ltx.sendMotion (t : Ltx) : Ltx :=
  match t.motion with
  | [] => t
  | p :: rest => ({ t with motion := rest } : Ltx).send 2 .motion .data p false

/-- A VOICE cell leaves its queue (R20, R21). -/
def Ltx.sendVoice (t : Ltx) : Ltx :=
  match t.voice with
  | [] => t
  | p :: rest => ({ t with voice := rest } : Ltx).send 3 .voice .data p false

/-- The head notice leaves the NOTICE queue (R188). -/
def State.sendNotice (s : State) : State :=
  match s.evu.queue with
  | [] => s
  | n :: rest => (s.onEvu fun e => { e with queue := rest }).onLtx fun t => t.send 1 .notice .data n.payload false

/-- An IDLE cell (R23). -/
def Ltx.sendIdle (t : Ltx) : Ltx :=
  { t with tx := some { source := .idle, wire := cellWire 0 .idle 0 [0, 0, 0, 0], restart := false } }

/-- A TEST cell with 96 bytes of the pattern (R18). -/
def Ltx.sendTest (t : Ltx) : Ltx :=
  { t with
    tx := some { source := .test, wire := cellWire 0 .test t.testSeq (testPattern 96 t.testSeq), restart := false }
    testSeq := t.testSeq + 1 }

/-- The grant of a cell boundary carried out; the departure of a MOTION cell brings the batch condition to judgement (R22,
R114). -/
def State.pickQueued (s : State) : State :=
  let s1 := s.onLtx fun t => { t with fairness := s.fairnessAfter }
  match s.grant with
  | .reply => s1.onLtx Ltx.sendReply
  | .notice => s1.sendNotice
  | .motion => (s1.onLtx Ltx.sendMotion).judgeBatch
  | .voice => s1.onLtx Ltx.sendVoice
  | .nothing => s1.onLtx fun t => if s.lrx.testMode then t.sendTest else t.sendIdle

/-- The pick at a cell boundary (R22). With no cell yet in transmission the U-lane begins, and it begins with an IDLE cell
whatever waits, also in test mode, when R18 would send a TEST cell (R193, R23; log entry 47). -/
def State.pick (s : State) : State :=
  if s.ltx.tx.isNone then s.onLtx fun t => ({ t with fairness := 0 } : Ltx).sendIdle else s.pickQueued

/-- The boundary at which a RESTART takes effect: the restart, then the pick, which sends an IDLE cell, so that the U-lane runs
on without a break (R23, R55, R193). -/
def State.restartBoundary (s : State) : State := s.restart.pick

/-- CELL_BOUNDARY (R22): the cell in transmission completes and the next one is picked. A RESTART whose reply completes
here takes effect first (R23, R55). -/
def execCellBoundary (s : State) : Host.Outcome State Fault Refusal :=
  .next (s.live fun s => if s.restartSent then s.restartBoundary else s.pick)

/-- RESTART_TAKES_EFFECT (R23, R55): the boundary where the RESTART reply has been sent, with its pick. DESIGN CHOICE: this row
and a CELL_BOUNDARY at that moment are the same act (log entry 39). -/
def execRestartTakesEffect (s : State) : Host.Outcome State Fault Refusal :=
  .next (s.live fun s => if s.restartSent then s.restartBoundary else s)

end Sys2Proof.Machine
end

