-- ==== Sys2Proof/Machine/Loader.lean ====
section
/-! DEFINITION. The configuration loader: IMAGE_HEADER_READ, IMAGE_BODY_READ and IMAGE_RECORD (3.9, R56 to R58). The flash's
words come as the rows' operands: log entry 36. -/

namespace Sys2Proof.Machine

open Sys2Proof

/-- IMAGE_STATUS detail (R56, 12.4). -/
def Cfl.detail (c : Cfl) : List Byte :=
  leBytes 1 c.state.code ++ leBytes 2 c.version ++ leBytes 2 c.applied ++ leBytes 2 c.adjusted ++ leBytes 2 c.skipped
    ++ leBytes 2 c.firstSkipped

/-- The loader enters an end state: pass 0, IMAGE_STATUS, the power manager's choice, and the schedule leaves IDLE (R56,
R60, R170; log entry 16). -/
def State.endLoading (s : State) (st : ImageState) : State :=
  let s1 := s.onCfl fun c => { c with state := st, pass := 0 }
  ((s1.raise .imageStatus s1.cfl.detail).loadEndPower).onFtm fun t => t.leaveIdle s.now

/-- The marker of an image header (3.9). -/
def imageMarker : Nat := 0x4A53

/-- The loader with the two header words read: version when the marker is found, length as read, check (R57). -/
def Cfl.takeHeader (c : Cfl) (w0 w1 : Word) : Cfl :=
  { c with
    position := 2
    version := if w0.toNat % 65536 = imageMarker then w0.toNat / 65536 else 0
    length := w1.toNat % 65536
    check := BitVec.ofNat 16 (w1.toNat / 65536) }

/-- The header judged in pass 1: marker first, then length (R56, R57). -/
def State.imageHeader (s : State) (w0 w1 : Word) : State :=
  let s1 := s.onCfl fun c => c.takeHeader w0 w1
  if w0.toNat % 65536 ≠ imageMarker then s1.endLoading .absent
  else if s1.cfl.length = 0 ∨ 4096 < s1.cfl.length then s1.endLoading .bad
  else s1

/-- The loader is in a pass at a position. -/
def Cfl.inPass (c : Cfl) (pass position : Nat) : Bool :=
  decide (c.state = .loading) && decide (c.pass = pass) && decide (c.position = position)

/-- IMAGE_HEADER_READ (R57). -/
def execImageHeaderRead (w0 w1 : Word) (s : State) : Host.Outcome State Fault Refusal :=
  .next (s.live fun s => if s.cfl.inPass 1 0 then s.edged fun s => s.imageHeader w0 w1 else s)

/-- The check over body words: PCRC's polynomial over the bytes in flash order (3.9). DESIGN CHOICE: bit order and the absence of
a final inversion are those of PCRC (log entry 52). -/
def imageCheck (body : List Word) : BitVec 16 := pcrc (bytesOf body)

/-- The body judged at its last word: BAD, or pass 2 from position 0 (R56 to R58). -/
def State.imageBody (s : State) (body : List Word) : State :=
  if imageCheck body = s.cfl.check then s.onCfl fun c => { c with pass := 2, position := 0 }
  else (s.onCfl fun c => { c with position := 2 + c.length }).endLoading .bad

/-- IMAGE_BODY_READ (R56, R57). -/
def execImageBodyRead (body : List Word) (s : State) : Host.Outcome State Fault Refusal :=
  .next (s.live fun s =>
    if s.cfl.inPass 1 2 then (if body.length = s.cfl.length then s.edged fun s => s.imageBody body else s) else s)

/-- Position of the next record's header in pass 2: after the two header words of the image at first (R58). -/
def Cfl.recordPos (c : Cfl) : Nat := if c.position = 0 then 2 else c.position

/-- Word position just past the body (3.9). -/
def Cfl.bodyEnd (c : Cfl) : Nat := 2 + c.length

/-- A record skipped: counted, and the position of the first one kept (R58). -/
def Cfl.skip (c : Cfl) (pos : Nat) : Cfl :=
  { c with skipped := c.skipped + 1, firstSkipped := if c.skipped = 0 then pos else c.firstSkipped }

/-- A record applied, and adjusted when a value was clamped (R58). -/
def Cfl.apply (c : Cfl) (clamped : Bool) : Cfl :=
  { c with applied := c.applied + 1, adjusted := c.adjusted + bit clamped }

/-- The end of loading in pass 2 (R56). -/
def State.finishLoading (s : State) : State :=
  s.endLoading (if s.cfl.skipped = 0 then .loaded else .loadedWithErrors)

/-- A record at which loading ends: its header is read and it counts as skipped (R58). -/
def State.breakRecord (s : State) (pos : Nat) : State :=
  (s.onCfl fun c => { c.skip pos with position := pos + 1 }).finishLoading

/-- Fields of an image record's header (12.5). -/
structure RecordHeader where
  table : Nat
  count : Nat
  index : Nat
  deriving DecidableEq, Repr

/-- A record header word read; its byte 3 is ignored (12.5, R192). -/
def readRecordHeader (w : Word) : RecordHeader :=
  { table := w.toNat % 256, count := w.toNat / 256 % 256, index := w.toNat / 65536 % 256 }

/-- A whole record judged and stored as a WRITE, or skipped (R58). -/
def State.takeRecord (s : State) (t : Table) (h : RecordHeader) (pos : Nat) (data : List Word) : State :=
  if h.count = 0 ∨ t.entries < h.index + h.count then s.onCfl fun c => c.skip pos
  else match s.judgeWrite t h.index h.count data with
    | .refused _ => s.onCfl fun c => c.skip pos
    | .store es clamped => (s.store t es).onCfl fun c => c.apply clamped

/-- After a record, loading ends when the body has been read to its last word (R58). -/
def State.afterRecord (s : State) : State := if s.cfl.position = s.cfl.bodyEnd then s.finishLoading else s

/-- A record of pass 2 (R58). Words that are not the record's own length change nothing: log entry 36. -/
def State.imageRecord (s : State) (w : Word) (data : List Word) : State :=
  let h := readRecordHeader w
  let pos := s.cfl.recordPos
  match Table.ofCode h.table with
  | none => s.breakRecord pos
  | some t =>
    let n := h.count * t.fields
    if s.cfl.bodyEnd < pos + 1 + n then s.breakRecord pos
    else if data.length = n then
      ((s.onCfl fun c => { c with position := pos + 1 + n }).takeRecord t h pos data).afterRecord
    else s

/-- The loader is reading records (R58). -/
def Cfl.inRecords (c : Cfl) : Bool := decide (c.state = .loading) && decide (c.pass = 2)

/-- IMAGE_RECORD (R58). -/
def execImageRecord (w : Word) (data : List Word) (s : State) : Host.Outcome State Fault Refusal :=
  .next (s.live fun s => if s.cfl.inRecords then s.edged fun s => s.imageRecord w data else s)

end Sys2Proof.Machine
end

