-- ==== Sys2Proof/Machine/Pattern.lean ====
section
/-! DEFINITION. The pattern engine's rows: STEP_END, ELAPSED_RISE, POLARITY_REVERSAL, CARRIER_PERIOD_START, DEAD_TIME_END and
ON_TIME_END (chapter 9). -/

namespace Sys2Proof.Machine

open Sys2Proof

/-- STEP_END (R156): the next step begins, or the pattern ends and a haptic request falls to 0 (R165). -/
def execStepEnd (c : Channel) (s : State) : Host.Outcome State Fault Refusal :=
  .next (s.live fun s =>
    match s.pte.chan c with
    | some p => if p.stepEndDue s.osc then (s.patternStep c p).refreshLoads else s
    | none => s)

/-- A whole millisecond of the step has passed: elapsed rises and the envelope level is formed again (R157). -/
def Pattern.rise (p : Pattern) : Pattern :=
  { p with elapsed := p.elapsed + 1, level := envelopeLevel p.copy (p.elapsed + 1) }

/-- ELAPSED_RISE (R157). -/
def execElapsedRise (c : Channel) (s : State) : Host.Outcome State Fault Refusal :=
  .next (s.live fun s =>
    match s.pte.chan c with
    | some p => if p.elapsedDue s.osc then s.onPte fun x => x.setChan c (some p.rise) else s
    | none => s)

/-- The polarity reverses at the end of a half period (R158). -/
def Pattern.reverse (p : Pattern) : Pattern := { p with negative := !p.negative, reversed := p.reversesAt }

/-- POLARITY_REVERSAL (R158), on channel H with its dead time (R164). -/
def execPolarityReversal (c : Channel) (s : State) : Host.Outcome State Fault Refusal :=
  .next (s.live fun s =>
    match s.pte.chan c with
    | some p =>
      if p.reversalDue s.osc then
        s.onPte fun x =>
          let x1 := x.setChan c (some p.reverse)
          if c = .h then x1.reversal s.osc else x1
      else s
    | none => s)

/-- A carrier period start is due (R162). -/
def State.carrierDue (s : State) : Bool := decide (s.pte.carrierAt ≤ s.osc)

/-- CARRIER_PERIOD_START (R163, R164). -/
def execCarrierPeriodStart (s : State) : Host.Outcome State Fault Refusal :=
  .next (s.live fun s => if s.carrierDue then s.onPte fun x => x.carrier s.osc else s)

/-- The dead time in progress has run (R164). -/
def State.deadTimeOver (s : State) : Bool :=
  match s.pte.deadEnd with
  | some t => decide (t ≤ s.osc)
  | none => false

/-- DEAD_TIME_END (R164). -/
def execDeadTimeEnd (s : State) : Host.Outcome State Fault Refusal :=
  .next (s.live fun s =>
    if s.deadTimeOver then s.onPte fun x => ({ x with deadEnd := none } : Pte).drive s.osc else s)

/-- An output is driven high and the on-time of its period has run out (R164). -/
def State.onTimeOver (s : State) : Bool := (s.pte.hp || s.pte.hn) && !s.pte.onAt s.osc

/-- ON_TIME_END (R164). -/
def execOnTimeEnd (s : State) : Host.Outcome State Fault Refusal :=
  .next (s.live fun s => if s.onTimeOver then s.onPte fun x => { x with hp := false, hn := false } else s)

end Sys2Proof.Machine
end

