-- ==== Sys2Proof/Machine/Picture.lean ====
section
/-! DEFINITION. The picture path's own timed rows: LINE_OUT, STROBE_START and STROBE_END (5.5, 5.6). -/

namespace Sys2Proof.Machine

open Sys2Proof

/-- The line-out after the panel's pos is due on its line timer (R93). -/
def State.lineDue (s : State) (p : Side) : Bool :=
  let x := s.panel p
  decide (x.scan = .active) && decide (x.pos + 1 < x.inForce.height)
    && decide (x.scanStart + lineTicks (x.pos + 1) x.inForce.linePeriod ≤ s.osc)

/-- The line-out of line H − 1 ends the active scan: BLANK, pos H, the end-of-scan judgement and the completion (R96). -/
def State.scanEnds (s : State) (p : Side) : State :=
  ((s.closeScan p s.ftm.scanFrame).onPanel p fun x => { x with scan := .blank }).tryComplete p

/-- The line-out of the line after pos (R95, R96). -/
def State.lineOut (s : State) (p : Side) : State :=
  let y := (s.panel p).pos + 1
  let s1 := s.outputLine p y
  if y + 1 = (s.panel p).inForce.height then s1.scanEnds p else s1

/-- LINE_OUT (R95). -/
def execLineOut (p : Side) (s : State) : Host.Outcome State Fault Refusal :=
  .next (s.live fun s => if s.lineDue p then s.lineOut p else s)

/-- STROBE_START (R99). -/
def execStrobeStart (p : Side) (s : State) : Host.Outcome State Fault Refusal :=
  .next (s.live fun s => if s.strobeStartDue p then s.edged fun s => s.beginStrobe p else s)

/-- STROBE_END (R99). -/
def execStrobeEnd (p : Side) (s : State) : Host.Outcome State Fault Refusal :=
  .next (s.live fun s => if s.strobeEndDue p then s.edged fun s => s.endStrobe p else s)

end Sys2Proof.Machine
end

