-- ==== Sys2Proof/Machine/Clock.lean ====
section
/-! DEFINITION. The part's own time: one tick of the oscillator, tether time's advance on it, and the rows that a tick brings
due (R9, 12.6; log entries 1 and 3). -/

namespace Sys2Proof.Machine

open Sys2Proof

/-- Tether time over one microsecond: by 1, or while SLEWING by 1 in every second microsecond, each such advance lowering
the deficit (R9). -/
def Lrx.microsecond (l : Lrx) : Lrx :=
  match l.timeState with
  | .unset => { l with tt := l.tt + 1 }
  | .running => { l with tt := l.tt + 1 }
  | .slewing =>
    if l.slewHalf then { l with tt := l.tt + 1, deficit := l.deficit - 1, slewHalf := false }
    else { l with slewHalf := true }

/-- One oscillator tick: 125/3072 of a microsecond (24.576 MHz). -/
def State.advance (s : State) : State :=
  let acc := s.clock.usAcc + 125
  if 3072 ≤ acc then
    (s.onClock fun c => { c with osc := c.osc + 1, usAcc := acc - 3072 }).onLrx Lrx.microsecond
  else s.onClock fun c => { c with osc := c.osc + 1, usAcc := acc }

/-- A row when its moment has come. -/
def dueRow (due : Bool) (i : Instr) : List Instr := if due then [i] else []

/-- A pattern channel's rows that are due (R156 to R158). -/
def State.patternRows (s : State) (c : Channel) : List Instr :=
  match s.pte.chan c with
  | some p =>
    dueRow (p.stepEndDue s.osc) (.stepEnd c) ++ dueRow (p.elapsedDue s.osc) (.elapsedRise c)
      ++ dueRow (p.reversalDue s.osc) (.polarityReversal c)
  | none => []

/-- The rows that are due on tether time (R62, R71, R76, R99). -/
def State.tetherRows (s : State) : List Instr :=
  dueRow s.lrx.slewOver .slewEnd
    ++ dueRow (s.expStartDue .a) (.exposurePulseStart .a) ++ dueRow (s.expEndDue .a) (.exposurePulseEnd .a)
    ++ dueRow (s.expStartDue .b) (.exposurePulseStart .b) ++ dueRow (s.expEndDue .b) (.exposurePulseEnd .b)
    ++ dueRow (s.strobeStartDue .a) (.strobeStart .a) ++ dueRow (s.strobeEndDue .a) (.strobeEnd .a)
    ++ dueRow (s.strobeStartDue .b) (.strobeStart .b) ++ dueRow (s.strobeEndDue .b) (.strobeEnd .b)
    ++ dueRow s.frameStartDue .frameStart ++ dueRow s.evaluationDue .evaluation

/-- The rows that are due on the oscillator, but for those that bring data from outside. -/
def State.oscRows (s : State) : List Instr :=
  dueRow s.pulseEndDue .frameStartPulseEnd
    ++ dueRow (s.lineDue .a) (.lineOut .a) ++ dueRow (s.lineDue .b) (.lineOut .b)
    ++ allEntries.flatMap (fun e => dueRow (s.momentDue e) (.dueMoment e))
    ++ dueRow s.retryDue .retryExpiry ++ dueRow s.waitOver.isSome .relayWaitEnd ++ dueRow s.relayTimedOut .relayTimeout
    ++ dueRow (s.flushDue && decide (s.ltx.motion.length < motionCapacity)) .flushTimeout
    ++ dueRow s.idleExpired .idleTimerExpiry ++ dueRow s.periodDue .periodStart
    ++ dueRow (s.frameDue || s.periodDue) .outputFrame
    ++ s.patternRows .t ++ s.patternRows .h
    ++ dueRow s.onTimeOver .onTimeEnd ++ dueRow s.carrierDue .carrierPeriodStart ++ dueRow s.deadTimeOver .deadTimeEnd

/-- What the part does by itself in one oscillator tick when no command waits: time advances, and the rows now due are put
into the queue (log entries 1 and 3). -/
def State.tick (s : State) : State :=
  let s1 := s.advance
  { s1 with pending := s1.tetherRows ++ s1.oscRows }

end Sys2Proof.Machine
end

