-- ==== Sys2Proof/Machine/Dispatch.lean ====
section
/-! DEFINITION. The meaning of each command: one arm per constructor of `Instr`, one direct call of its meaning. -/

namespace Sys2Proof.Machine

open Sys2Proof

def exec (i : Instr) (s : State) : Host.Outcome State Fault Refusal :=
  match i with
  | .powerOnReset cause => Sys2Proof.Machine.execPowerOnReset cause s
  | .headerJudgement b0 b1 b2 b3 => Sys2Proof.Machine.execHeaderJudgement b0 b1 b2 b3 s
  | .cellArrival payload p0 p1 => Sys2Proof.Machine.execCellArrival payload p0 p1 s
  | .slewEnd => Sys2Proof.Machine.execSlewEnd s
  | .cellBoundary => Sys2Proof.Machine.execCellBoundary s
  | .read table r => Sys2Proof.Machine.execRead table r s
  | .write table r => Sys2Proof.Machine.execWrite table r s
  | .writePower r => Sys2Proof.Machine.execWritePower r s
  | .writeLoads r => Sys2Proof.Machine.execWriteLoads r s
  | .writeSideband r => Sys2Proof.Machine.execWriteSideband r s
  | .writeFrameTimer r => Sys2Proof.Machine.execWriteFrameTimer r s
  | .writePanel r => Sys2Proof.Machine.execWritePanel r s
  | .writePoll r => Sys2Proof.Machine.execWritePoll r s
  | .writeMotion r => Sys2Proof.Machine.execWriteMotion r s
  | .writeAudio r => Sys2Proof.Machine.execWriteAudio r s
  | .writePattern r => Sys2Proof.Machine.execWritePattern r s
  | .clear table r => Sys2Proof.Machine.execClear table r s
  | .restart r => Sys2Proof.Machine.execRestart r s
  | .relay r => Sys2Proof.Machine.execRelay r s
  | .busRecover r => Sys2Proof.Machine.execBusRecover r s
  | .fifoFlush r => Sys2Proof.Machine.execFifoFlush r s
  | .audioRestart r => Sys2Proof.Machine.execAudioRestart r s
  | .play r => Sys2Proof.Machine.execPlay r s
  | .stop r => Sys2Proof.Machine.execStop r s
  | .testStart r => Sys2Proof.Machine.execTestStart r s
  | .testStop r => Sys2Proof.Machine.execTestStop r s
  | .restartTakesEffect => Sys2Proof.Machine.execRestartTakesEffect s
  | .imageHeaderRead w0 w1 => Sys2Proof.Machine.execImageHeaderRead w0 w1 s
  | .imageBodyRead body => Sys2Proof.Machine.execImageBodyRead body s
  | .imageRecord header data => Sys2Proof.Machine.execImageRecord header data s
  | .frameStart => Sys2Proof.Machine.execFrameStart s
  | .evaluation => Sys2Proof.Machine.execEvaluation s
  | .exposurePulseStart g => Sys2Proof.Machine.execExposurePulseStart g s
  | .exposurePulseEnd g => Sys2Proof.Machine.execExposurePulseEnd g s
  | .frameStartPulseEnd => Sys2Proof.Machine.execFrameStartPulseEnd s
  | .lineOut p => Sys2Proof.Machine.execLineOut p s
  | .strobeStart p => Sys2Proof.Machine.execStrobeStart p s
  | .strobeEnd p => Sys2Proof.Machine.execStrobeEnd p s
  | .sidebandChange line level => Sys2Proof.Machine.execSidebandChange line level s
  | .dueMoment e => Sys2Proof.Machine.execDueMoment e s
  | .transactionCompletes bus o => Sys2Proof.Machine.execTransactionCompletes bus o s
  | .clockHoldFailure => Sys2Proof.Machine.execClockHoldFailure s
  | .recoveryCompletes o => Sys2Proof.Machine.execRecoveryCompletes o s
  | .retryExpiry => Sys2Proof.Machine.execRetryExpiry s
  | .relayCompletes o => Sys2Proof.Machine.execRelayCompletes o s
  | .relayWaitEnd => Sys2Proof.Machine.execRelayWaitEnd s
  | .relayTimeout => Sys2Proof.Machine.execRelayTimeout s
  | .flushTimeout => Sys2Proof.Machine.execFlushTimeout s
  | .periodStart => Sys2Proof.Machine.execPeriodStart s
  | .idleTimerExpiry => Sys2Proof.Machine.execIdleTimerExpiry s
  | .micBlockComplete sample => Sys2Proof.Machine.execMicBlockComplete sample s
  | .stepEnd c => Sys2Proof.Machine.execStepEnd c s
  | .elapsedRise c => Sys2Proof.Machine.execElapsedRise c s
  | .polarityReversal c => Sys2Proof.Machine.execPolarityReversal c s
  | .carrierPeriodStart => Sys2Proof.Machine.execCarrierPeriodStart s
  | .deadTimeEnd => Sys2Proof.Machine.execDeadTimeEnd s
  | .onTimeEnd => Sys2Proof.Machine.execOnTimeEnd s
  | .measurement mv ma => Sys2Proof.Machine.execMeasurement mv ma s
  | .powerOnResetEnds cause => Sys2Proof.Machine.execPowerOnResetEnds cause s
  | .outputFrame => Sys2Proof.Machine.execOutputFrame s
  | .microphoneSample sample => Sys2Proof.Machine.execMicrophoneSample sample s
  | .relayWritePhaseEnd => Sys2Proof.Machine.execRelayWritePhaseEnd s

end Sys2Proof.Machine
end

