-- ==== Sys2Proof/Machine/Step.lean ====
section
/-! DEFINITION. One step of the block: the command at the front of the queue, or with none waiting one oscillator tick. -/

namespace Sys2Proof.Machine

open Sys2Proof

/-- One step. With no command waiting the part runs on its own oscillator for one tick; held in power-on reset it does
nothing (log entries 1 and 4). -/
def step (s : State) : Host.Outcome State Fault Refusal :=
  match s.pending with
  | c :: rest => exec c { s with pending := rest }
  | [] => .next (s.live State.tick)

/-- The state with the command a table word spells at the front of its queue; no word spells one (log entry 38). -/
def State.withFetchWord (s : State) (nbits w : Nat) : State :=
  match decodeTableWord nbits w with
  | some c => { s with pending := c :: s.pending }
  | none => s

end Sys2Proof.Machine
end

