-- ==== Sys2Proof/Machine/Pins.lean ====
section
/-! DEFINITION. What the part drives at its pins (12.6, R193): computed from State, as the levels of the side-band lines are, and
read by no command. What the part sends on a sensor bus is given as the symbols of the transfer in progress (R103, R116,
R118). Log entry 48 says in which form the pins are given. -/

namespace Sys2Proof.Machine

open Sys2Proof

/-! ### The sensor buses (R103, R116, R118) -/

/-- What the part does on a sensor bus, one symbol after the other. `read n` is n bytes read: on SERIAL4 zeros are clocked out,
on TWO_WIRE every byte but the last is acknowledged. -/
inductive BusSymbol
  | select (chip : Nat)
  | release
  | start
  | address (device : Nat) (read : Bool)
  | byte (b : Byte)
  | read (n : Nat)
  | pulse
  | stop
  deriving DecidableEq, Repr

/-- A transfer that writes bytes to a device (R118). -/
def writeSymbols (b : Bus) (device : Nat) (bytes : List Byte) : List BusSymbol :=
  match b with
  | .serial4 => [.select device] ++ bytes.map BusSymbol.byte ++ [.release]
  | .twoWire => [.start, .address device false] ++ bytes.map BusSymbol.byte ++ [.stop]

/-- A transfer that reads bytes from a device (R118). -/
def readSymbols (b : Bus) (device n : Nat) : List BusSymbol :=
  match b with
  | .serial4 => [.select device, .read n, .release]
  | .twoWire => [.start, .address device true, .read n, .stop]

/-- A poll transaction: the start register is sent, then the bytes are read, on TWO_WIRE after a repeated start (R103). -/
def PollWork.symbols (w : PollWork) (b : Bus) : List BusSymbol :=
  let register := BusSymbol.byte (BitVec.ofNat 8 w.cfg.startRegister)
  match b with
  | .serial4 => [.select w.cfg.device, register, .read w.cfg.length, .release]
  | .twoWire =>
    [.start, .address w.cfg.device false, register, .start, .address w.cfg.device true, .read w.cfg.length, .stop]

/-- The transfer of a relay's phase; a probe selects or addresses its device and sends nothing (R118). -/
def Relay.symbols (r : Relay) : List BusSymbol :=
  match r.phase with
  | .waiting => []
  | .write => writeSymbols r.bus r.device r.writeBytes
  | .wait => []
  | .read => readSymbols r.bus r.device r.readLen
  | .probe => writeSymbols r.bus r.device []

/-- What the part sends in the transfer in progress on a bus, in order, as long as every byte is acknowledged; nothing with no
transfer in progress, when the chip selects are inactive and both two-wire lines released (R102). -/
def State.busSymbols (s : State) (b : Bus) : List BusSymbol :=
  match (s.bus b).poll with
  | some w => w.symbols b
  | none => match s.transferring b with
    | some r => r.symbols
    | none => []

/-- A two-wire transfer ended by a missing acknowledgement after its k-th symbol: a stop follows (R103, R118). -/
def refusedAfter (k : Nat) (xs : List BusSymbol) : List BusSymbol := xs.take k ++ [.stop]

/-- What a recovery sends: its clock pulses, and a stop when the line has come high (R116). -/
def RecoveryOutcome.symbols : RecoveryOutcome → List BusSymbol
  | .success n => List.replicate n.val .pulse ++ [.stop]
  | .failure n => List.replicate n.val .pulse

/-- The chip select a SERIAL4 transfer asserts (R103, R118). -/
def chipSelect : List BusSymbol → Option Nat
  | .select c :: _ => some c
  | _ => none

/-! ### All pins (12.6) -/

/-- The outputs of the part. `uLane` is the cell in transmission, none while idle; `flash` the loader's pass on the flash port,
none with FCS inactive; `ports` the line sent to a panel port last, none while idle; `lines` the driven level of SBL0 to SBL5,
none where a line is not driven; `serial4` and `twoWire` the transfer in progress; `dac` the frame on the DAC port, none with
the port low. -/
structure Outputs where
  uLane      : Option (List Byte)
  flash      : Option Nat
  ports      : Duo (Option (List Pixel))
  strobes    : Duo Bool
  lines      : Vector (Option Bool) 6
  chipSelect : Option Nat
  serial4    : List BusSymbol
  twoWire    : List BusSymbol
  dac        : Option (Int × Int)
  hp         : Bool
  hn         : Bool
  auxEn      : Bool
  deriving DecidableEq, Repr

/-- The outputs during power-on reset: the last column of 12.6 (R193). -/
def Outputs.inReset : Outputs :=
  { uLane := none, flash := none, ports := ⟨none, none⟩, strobes := ⟨false, false⟩, lines := Vector.replicate 6 none
    chipSelect := none, serial4 := [], twoWire := [], dac := none, hp := false, hn := false, auxEn := false }

/-- The level the part drives on a side-band line: none on an unclaimed INPUT line (R34, R36). -/
def State.drivenLevel (s : State) (i : Fin 6) : Option Bool :=
  if s.stu.lines[i].source = .input ∧ s.claimed i = false then none else some (s.lineLevel i)

/-- What a panel port carries: nothing while the panel is OFF (5.2), else the last line sent to it (R95). -/
def PanelState.port (x : PanelState) : Option (List Pixel) := if x.scan = .off then none else x.lastLine

/-- The outputs now (12.6, R193). -/
def State.outputs (s : State) : Outputs :=
  if s.held then Outputs.inReset
  else
    { uLane := s.ltx.tx.map TxCell.wire
      flash := if s.cfl.state = .loading then some s.cfl.pass else none
      ports := ⟨(s.panel .a).port, (s.panel .b).port⟩
      strobes := ⟨decide ((s.panel .a).strobe = .on), decide ((s.panel .b).strobe = .on)⟩
      lines := Vector.ofFn fun i => s.drivenLevel i
      chipSelect := chipSelect (s.busSymbols .serial4)
      serial4 := s.busSymbols .serial4
      twoWire := s.busSymbols .twoWire
      dac := some (s.auu.dacLeft, s.auu.dacRight)
      hp := s.pte.hp
      hn := s.pte.hn
      auxEn := s.pmg.auxOn }

end Sys2Proof.Machine
end

