-- ==== Sys2Proof/Safety.lean ====
section
/-! DEFINITION. What a good state of the part is, in the terms the statements use: capacities of queues and buffers (R21, R41,
R112, R113, R139, R168, R188), the power manager's allocation (R176 to R182), what TRIP holds (R100, R164, R166), the link
(R6 to R14, R87), the frame timer's records (R62 to R70), the SERIAL4 bus (R102, R116); and when a timed row is due. -/

namespace Sys2Proof.Machine

open Sys2Proof

/-- Every queue and buffer is within its capacity, a place of the REPLY queue being reserved for a relay in the slot (R21,
R41, R112, R113, R139, R168, R188). -/
abbrev State.withinCapacity (s : State) : Prop :=
  s.ltx.reply.length + bit s.mrs.slot.isSome ≤ 4 ∧ s.ltx.motion.length ≤ motionCapacity
    ∧ s.ltx.voice.length ≤ voiceCapacity ∧ s.evu.queue.length ≤ noticeCapacity ∧ s.mou.fifo.length ≤ fifoCapacity
    ∧ s.mou.history.length ≤ historyCapacity ∧ s.auu.buffer.length ≤ bufferCapacity ∧ s.pmg.window.length ≤ 8

/-- The NOTICE queue stands in falling priority (R188). -/
abbrev State.noticesOrdered (s : State) : Prop := s.evu.queue.Pairwise fun a b => b.priority ≤ a.priority

/-- Sum of the grants of the eight loads (R181). -/
def grantSum (v : Vector Load 8) : Nat := (allLoads.map fun i => v[i].grant).sum

/-- The power manager's figures agree: requests are what the owners want (R178), load states follow requests and grants
(R181), the budget is that of the power state (R176), the grants are within it (R181), nothing is granted in HELD and
TRIP (R179), and the derived values and the sensor class are those of the grants, the written powers and the power state
(R182, R183). -/
abbrev State.powerConsistent (s : State) : Prop :=
  (∀ i : Fin 8, s.pmg.loads[i].request = s.wanted i)
    ∧ (∀ i : Fin 8, s.pmg.loads[i].state = loadState s.pmg.loads[i].request s.pmg.loads[i].grant)
    ∧ s.pmg.budget = budgetOf s.pmg.cfg s.pmg.state
    ∧ grantSum s.pmg.loads ≤ s.pmg.budget
    ∧ (s.pmg.state.grantsNone = true → (∀ i : Fin 8, s.pmg.loads[i].grant = 0) ∧ s.pmg.ceilings = ⟨0, 0⟩ ∧ s.auu.cap = 0
        ∧ s.pte.capHanded = 0 ∧ s.mou.sensorClass = .suspended)
    ∧ s.pmg.ceilings = ⟨derived s.pmg.state s.pmg.loads[2].grant (s.panel .a).written.fullPower 1023,
        derived s.pmg.state s.pmg.loads[3].grant (s.panel .b).written.fullPower 1023⟩
    ∧ s.auu.cap = derived s.pmg.state s.pmg.loads[4].grant s.auu.ampPower 32768
    ∧ s.pte.capHanded = derived s.pmg.state s.pmg.loads[5].grant s.pte.hapticPower 255
    ∧ s.mou.sensorClass = classOf s.pmg.state s.pmg.loads[6]

/-- The haptic bridge's state as the power state and channel H give it (R164, R166). -/
def State.bridgeFor (s : State) : BridgeState :=
  if s.pmg.state = .trip then .held else if s.pte.chanH.isSome then .driving else .idle

/-- TRIP holds both strobes and the bridge, nothing else does, and HP and HN are never high together (R100, R164, R166). -/
abbrev State.tripHolds (s : State) : Prop :=
  ((s.panel .a).strobe = .held ↔ s.pmg.state = .trip) ∧ ((s.panel .b).strobe = .held ↔ s.pmg.state = .trip)
    ∧ s.pte.bridge = s.bridgeFor ∧ (s.pte.bridge ≠ .driving → s.pte.hp = false ∧ s.pte.hn = false)
    ∧ ¬ (s.pte.hp = true ∧ s.pte.hn = true)

/-- A stream status entry that has no history of its stream: state NEW with no gap pending (R28, R31). -/
abbrev StreamEntry.isNew (e : StreamEntry) : Prop := e.tracking = false ∧ e.gapPending = false

/-- Outside LOCKED there is no PASS, no pass window, no current side-band word, no slice in reassembly and no tracked stream
(R6, R31, R33, R87); the pass window's counts, the slew deficit and the fault count are in their ranges (R7, R12, R14). -/
abbrev State.linkConsistent (s : State) : Prop :=
  (∀ c ∈ s.lrx.cell, c.locked = true → s.lrx.lock = .locked)
    ∧ (s.lrx.lock ≠ .locked → s.lrx.pass = false ∧ s.lrx.winCells = 0 ∧ s.lrx.winErrors = 0 ∧ s.stu.wordCurrent = false
        ∧ s.pxp.contexts = Vector.replicate 4 none ∧ ∀ n : Fin 32, s.stu.streams[n].isNew)
    ∧ s.lrx.winErrors ≤ s.lrx.winCells ∧ s.lrx.winCells < 4096
    ∧ (s.lrx.timeState ≠ .slewing → s.lrx.deficit = 0) ∧ s.lrx.deficit ≤ 4096 ∧ s.lrx.faults ≤ 3
    ∧ (s.lrx.timeState = .unset → s.lrx.faults = 0)

/-- The upcoming record belongs to the next frame start: OPEN or EVALUATED, with its number and its scheduled start (R68,
R70). -/
abbrev Ftm.upcomingFits (t : Ftm) (r : FrameRec) : Prop :=
  (r.state = .opened ∨ r.state = .evaluated) ∧ r.number = t.nextNumber ∧ r.start = t.sNext

/-- The frame records and the schedule agree: there is an upcoming record exactly while the schedule places frames, the
SCANNING and DONE records are in those states, a scan frame exists exactly while RUNNING, and no panel's completion is
awaited without a SCANNING record; the schedule is IDLE exactly while the loader is LOADING (R60, R62, R68, R70, R72). -/
abbrev State.framesConsistent (s : State) : Prop :=
  (s.ftm.schedule = .idle ↔ s.cfl.state = .loading)
    ∧ (s.ftm.upcoming.isSome ↔ s.ftm.schedule = .starting ∨ s.ftm.schedule = .running)
    ∧ (∀ r ∈ s.ftm.upcoming, s.ftm.upcomingFits r)
    ∧ (∀ r ∈ s.ftm.scanning, r.state = .scanning) ∧ (∀ r ∈ s.ftm.done, r.state = .done)
    ∧ (s.ftm.scanFrame.isSome ↔ s.ftm.schedule = .running)
    ∧ (s.ftm.scanning = none → s.ftm.pendingPanels = ⟨false, false⟩)

/-- SERIAL4 is IDLE or BUSY: it has no recovery and no fault (R102, R116). -/
abbrev State.serialSound (s : State) : Prop :=
  (s.mou.serial4.state = .idle ∨ s.mou.serial4.state = .busy) ∧ s.mou.serial4.recovery = none
    ∧ s.mou.serial4.recPending = none ∧ s.mou.serial4.retryAt = none

/-- The servo offset and the gain are in their ranges (R145, R147). -/
abbrev State.audioInRange (s : State) : Prop :=
  -16 ≤ s.auu.servoF ∧ s.auu.servoF ≤ 16 ∧ -16 ≤ s.auu.periodF ∧ s.auu.periodF ≤ 16 ∧ s.auu.gain ≤ 32768
    ∧ s.auu.cap ≤ 32768

/-- The ring of a panel that is OFF, and every ring before the first frame start, is empty; a ring holds at most 96 lines, each
of the scan frame or the one after it, at a stream position in the window from 16 below pos to 79 above it, no two at one
position (R88, R90 to R92). -/
abbrev State.ringSound (s : State) (p : Side) : Prop :=
  let x := s.panel p
  (x.scan = .off ∨ s.ftm.scanFrame = none → x.ring = []) ∧ x.ring.length ≤ ringSlots
    ∧ ∀ F, s.ftm.scanFrame = some F →
      (∀ r ∈ x.ring, (r.frame - F).toNat ≤ 1 ∧ x.pos ≤ linePos F r.frame x.inForce.height r.line + 16
          ∧ linePos F r.frame x.inForce.height r.line ≤ x.pos + 79)
        ∧ x.ring.Pairwise fun q r => linePos F q.frame x.inForce.height q.line ≠ linePos F r.frame x.inForce.height r.line

/-- Both rings are sound. -/
abbrev State.ringsSound (s : State) : Prop := s.ringSound .a ∧ s.ringSound .b

/-- A safe state: everything above holds. -/
abbrev State.safe (s : State) : Prop :=
  s.withinCapacity ∧ s.noticesOrdered ∧ s.ringsSound ∧ s.powerConsistent ∧ s.tripHolds ∧ s.linkConsistent
    ∧ s.framesConsistent ∧ s.serialSound ∧ s.audioInRange

/-- A request meets a responder that takes it and carries it out: the part is not held in reset, the cell is ONLY with more
than LEN 1, the REPLY queue has room, loading has ended and no restart is pending (R41, R42). -/
abbrev State.serves (s : State) (r : Request) : Prop :=
  s.held = false ∧ r.pos = .only ∧ r.short = false ∧ 0 < s.room ∧ s.cfl.state ≠ .loading ∧ s.mrs.restartPending = false

/-- The operation, table or command code, and request that a request row carries (R42, R50); none for the other rows. -/
def Instr.asRequest : Instr → Option (Nat × Byte × Request)
  | .read table r => some (0, table, r)
  | .write table r => some (1, table, r)
  | .writePower r => some (1, 16, r)
  | .writeLoads r => some (1, 15, r)
  | .writeSideband r => some (1, 4, r)
  | .writeFrameTimer r => some (1, 5, r)
  | .writePanel r => some (1, 7, r)
  | .writePoll r => some (1, 10, r)
  | .writeMotion r => some (1, 12, r)
  | .writeAudio r => some (1, 13, r)
  | .writePattern r => some (1, 14, r)
  | .clear table r => some (2, table, r)
  | .restart r => some (3, 0, r)
  | .relay r => some (3, 1, r)
  | .busRecover r => some (3, 2, r)
  | .fifoFlush r => some (3, 3, r)
  | .audioRestart r => some (3, 4, r)
  | .play r => some (3, 5, r)
  | .stop r => some (3, 6, r)
  | .testStart r => some (3, 7, r)
  | .testStop r => some (3, 8, r)
  | _ => none

/-- The state after one request has been taken and answered, nothing else changed: requests taken has risen, and one reply
record that echoes the request's TAG, table, COUNT and INDEX stands last in the REPLY queue (R40, R41). -/
def State.answered (s : State) (table : Byte) (r : Request) (st : Status) (data : List Word) : State :=
  { s with
    mrs := { s.mrs with requestsTaken := satInc s.mrs.requestsTaken }
    ltx := { s.ltx with reply := s.ltx.reply ++ [
      { tag := r.tag, status := st, table := table, count := r.count, index := reqIndex r, data := data, restart := false }] } }

/-- The state after what every arrival of a cell judged in LOCKED does first, but for the polls that an edge triggers: the cell
is no longer being taken in, the steering windows written before are in force (R25), and the pass machine has counted the
cell, one that fails its PCRC also as an error (R7). PASS is lost with PASS_LOST at an error that brings the errors to the
threshold, and at the end of a window whose errors reach it; it is regained with PASS_REGAINED at the end of a window whose
errors stay below it; at the end of the window, its 4096th cell, both counts return to 0 (R7, R8). -/
def State.arrived (s : State) (good : Bool) : State :=
  let l := s.lrx
  let n := l.winCells + 1
  let e := l.winErrors + bit (!good)
  let ends := decide (n = 4096)
  let reached := decide (l.passThreshold ≤ e)
  let lost := l.pass && reached && (!good || ends)
  let regained := !l.pass && !reached && ends
  { s with
    lrx := { l with
      cell := none, pass := (l.pass && !lost) || regained
      winCells := if ends then 0 else n, winErrors := if ends then 0 else e }
    stu := { s.stu with inForce := s.stu.written }
    evu :=
      if lost then s.evu.take .passLost (leBytes 2 e ++ leBytes 2 n) s.now s.timeUnset
      else if regained then s.evu.take .passRegained (leBytes 2 e) s.now s.timeUnset
      else s.evu }

/-- Occurrences of a kind that stand in the NOTICE queue, counted notice by notice (R185, R189). -/
def Evu.waiting (e : Evu) (k : EventKind) : Nat :=
  ((e.queue.filter fun n => decide (n.kind = k)).map Notice.count).sum

/-- The moment of a row that the part itself times has come (chapters 1 to 10); every other row is an event from outside or
a request, which has no moment to wait for. -/
def State.due (s : State) : Instr → Bool
  | .slewEnd => s.lrx.slewOver
  | .restartTakesEffect => s.restartSent
  | .frameStart => s.frameStartDue
  | .evaluation => s.evaluationDue
  | .exposurePulseStart g => s.expStartDue g
  | .exposurePulseEnd g => s.expEndDue g
  | .frameStartPulseEnd => s.pulseEndDue
  | .lineOut p => s.lineDue p
  | .strobeStart p => s.strobeStartDue p
  | .strobeEnd p => s.strobeEndDue p
  | .dueMoment e => s.momentDue e
  | .retryExpiry => s.retryDue
  | .relayWaitEnd => s.waitOver.isSome
  | .relayTimeout => s.relayTimedOut
  | .flushTimeout => s.flushDue
  | .periodStart => s.periodDue
  | .outputFrame => s.frameDue
  | .idleTimerExpiry => s.idleExpired
  | .stepEnd c => (s.pte.chan c).any fun p => p.stepEndDue s.osc
  | .elapsedRise c => (s.pte.chan c).any fun p => p.elapsedDue s.osc
  | .polarityReversal c => (s.pte.chan c).any fun p => p.reversalDue s.osc
  | .carrierPeriodStart => s.carrierDue
  | .deadTimeEnd => s.deadTimeOver
  | .onTimeEnd => s.onTimeOver
  | .measurement _ _ => s.measureDue
  | .microphoneSample _ => s.micReady
  | .micBlockComplete _ => s.micReady
  | _ => true

/-- The rows that the part itself puts into its queue at the oscillator tick that brings them due (log entry 3). The other timed
rows bring data from outside, or come with a cell boundary. -/
def Instr.ticks : Instr → Bool
  | .slewEnd => true
  | .frameStart => true
  | .evaluation => true
  | .exposurePulseStart _ => true
  | .exposurePulseEnd _ => true
  | .frameStartPulseEnd => true
  | .lineOut _ => true
  | .strobeStart _ => true
  | .strobeEnd _ => true
  | .dueMoment _ => true
  | .retryExpiry => true
  | .relayWaitEnd => true
  | .relayTimeout => true
  | .flushTimeout => true
  | .idleTimerExpiry => true
  | .periodStart => true
  | .outputFrame => true
  | .stepEnd _ => true
  | .elapsedRise _ => true
  | .polarityReversal _ => true
  | .carrierPeriodStart => true
  | .deadTimeEnd => true
  | .onTimeEnd => true
  | _ => false

end Sys2Proof.Machine
end

