-- ==== Sys2Proof/Certificates/Slice0/Obligations.lean ====
section
/-! DEFINITION. The statements for the provers. Where a statement says that a state `t` agrees with `s` elsewhere, it says so by
putting the changed parts of `s` back into `t`. `t.handEdges old new` is `t` with the polls triggered that listen to a side-band
line at 0 in `old` and at 1 in `new` (R38, R106; `LinesFollowPinsAndPulses` says what that does). -/

open Sys2Proof Sys2Proof.Machine

/-! ### The machine: steps, holds, resets -/

/-- A step takes the command at the front of the queue and runs it with the queue's rest. -/
def Obligations.StepRunsFrontCommand : Prop :=
  ∀ (c : Instr) (rest : List Instr) (s : State), s.pending = c :: rest → step s = exec c { s with pending := rest }

/-- On an empty queue a part that is not held runs for one oscillator tick: the state is that of `State.advance`, which moves the
clock and tether time only, with a queue in which every row is due, or is the OUTPUT_FRAME that follows a PERIOD_START, and
in which every row that a tick brings due stands, a FLUSH_TIMEOUT only while the MOTION queue has room. The model's choice:
log entries 1 and 3. -/
def Obligations.IdleStepIsOneTick : Prop :=
  ∀ s : State, s.pending = [] → s.held = false →
    ∃ t, step s = .next t ∧ { t with pending := s.pending } = s.advance ∧ t.clock.osc = s.clock.osc + 1
      ∧ { t with pending := s.pending, clock := s.clock, lrx := s.lrx } = s
      ∧ (∀ c ∈ t.pending, t.due c = true ∨ (c = .outputFrame ∧ Instr.periodStart ∈ t.pending))
      ∧ ∀ c : Instr, Instr.ticks c = true → t.due c = true → c ≠ .flushTimeout ∨ t.ltx.motion.length < 8 → c ∈ t.pending

/-- Outside SLEWING tether time advances by 1 for each microsecond of the 24.576 MHz oscillator: over n ticks by the whole
microseconds in n × 125/3072, the fraction being carried on. The clock's form is the model's: log entry 1. -/
def Obligations.TetherTimeKeepsMicroseconds : Prop :=
  ∀ (n : Nat) (s : State), s.clock.usAcc < 3072 → s.lrx.timeState ≠ .slewing →
    (State.advance^[n] s).lrx = { s.lrx with tt := s.lrx.tt + BitVec.ofNat 32 ((s.clock.usAcc + 125 * n) / 3072) }
      ∧ (State.advance^[n] s).clock =
        { s.clock with osc := s.clock.osc + n, usAcc := (s.clock.usAcc + 125 * n) % 3072 }

/-- While SLEWING two microseconds advance tether time by 1 and lower the deficit by 1, as long as there is one; with the deficit
worked off the time state becomes RUNNING. That a fresh slew begins with the first half of a pair of microseconds is log entry
22, and that the end of the slew is the row SLEW_END, run after the microsecond that works the deficit off, is log entry 23:
the model's choices. -/
def Obligations.SlewRunsAtHalfRateAndEnds : Prop :=
  (∀ (n : Nat) (l : Lrx), l.timeState = .slewing → l.slewHalf = false → n ≤ l.deficit →
      Lrx.microsecond^[2 * n] l = { l with tt := l.tt + BitVec.ofNat 32 n, deficit := l.deficit - n })
    ∧ ∀ s : State, s.held = false → s.lrx.timeState = .slewing → s.lrx.deficit = 0 →
      exec .slewEnd s = .next { s with lrx := { s.lrx with timeState := .running, slewHalf := false } }

/-- A part held in power-on reset ignores every input but the two that bring and end power-on reset, and the part's own timed
rows; the level that the outside world puts on a pin is still the level at that pin, so that a line shows it when the reset
ends. That the timed rows and the measurements stand still too is the model's choice: log entry 4; the pins: log entry 25. -/
def Obligations.HeldPartIgnoresCommands : Prop :=
  (∀ (c : Instr) (s : State), s.held = true → (∀ x, c ≠ .powerOnReset x) → (∀ x, c ≠ .powerOnResetEnds x) →
      (∀ i l, c ≠ .sidebandChange i l) → exec c s = .next s)
    ∧ ∀ (i : Fin 6) (level : Bool) (s : State), s.held = true →
      exec (.sidebandChange i level) s = .next { s with stu := { s.stu with pins := s.stu.pins.set i level } }

/-- A row that the part itself times changes nothing before its moment. The model's choice: log entry 2. -/
def Obligations.RowNotDueChangesNothing : Prop :=
  ∀ (c : Instr) (s : State), s.held = false → s.due c = false → exec c s = .next s

/-- What power-on reset leaves, chapter by chapter: lock SEARCH with no count, no PASS, tether time 0 and UNSET, test mode off;
the U-lane queues empty and idle; every steering window, stream entry and side-band line at its Reset values, the word 0 and
LOST; the slot free and no restart pending; the loader LOADING in pass 1; the schedule IDLE with no frame; both panels OFF;
no slice in reassembly; both sensor buses IDLE, every poll entry off, history and FIFO empty; the shift disabled; audio
STOPPED; both channels IDLE; the power state HELD with budget 0 and no measurement; the NOTICE queue empty; and each writable
field of each table at its Reset value, written and in force alike. -/
def Obligations.ResetLeavesSpecValues : Prop :=
  let r := State.reset
  (r.lrx.lock = .search ∧ r.lrx.goodCount = 0 ∧ r.lrx.badCount = 0 ∧ r.lrx.pass = false ∧ r.lrx.winCells = 0
      ∧ r.lrx.winErrors = 0 ∧ r.lrx.tt = 0 ∧ r.lrx.timeState = .unset ∧ r.lrx.deficit = 0 ∧ r.lrx.faults = 0
      ∧ r.lrx.testMode = false ∧ r.lrx.passThreshold = 16 ∧ r.lrx.linkDelay = 0)
    ∧ (r.ltx.reply = [] ∧ r.ltx.motion = [] ∧ r.ltx.voice = [] ∧ r.ltx.fairness = 0 ∧ r.ltx.tx = none
      ∧ r.ltx.seq = Vector.replicate 4 0 ∧ r.ltx.testSeq = 0)
    ∧ (r.stu.written = Vector.replicate 8 ⟨false, 0, 0, .discard⟩ ∧ r.stu.inForce = r.stu.written
      ∧ (∀ n : Fin 32, r.stu.streams[n].tracking = false ∧ r.stu.streams[n].gapPending = false)
      ∧ r.stu.lines = Vector.replicate 6 ⟨.input, 0, .hold, false, false⟩ ∧ r.stu.word = 0 ∧ r.stu.wordCurrent = false)
    ∧ (r.mrs.slot = none ∧ r.mrs.restartPending = false ∧ r.cfl.state = .loading ∧ r.cfl.pass = 1 ∧ r.cfl.position = 0)
    ∧ (r.ftm.written = { linked := false, period := 11111, phaseStep := 20, lockWindow := 50, shiftLead := 500 }
      ∧ r.ftm.inForce = r.ftm.written ∧ r.ftm.schedule = .idle ∧ r.ftm.scanFrame = none ∧ r.ftm.display = .free
      ∧ r.ftm.upcoming = none ∧ r.ftm.scanning = none ∧ r.ftm.done = none
      ∧ ∀ g : Side, (r.ftm.gens.get g).state = .idle ∧ (r.ftm.gens.get g).inForce = (r.ftm.gens.get g).written
        ∧ (r.ftm.gens.get g).written =
          { enable := false, aEnd := false, offset := 0, width := 100, divider := 1, line := 6 })
    ∧ ((∀ p : Side, (r.panel p).scan = .off ∧ (r.panel p).strobe = .idle ∧ (r.panel p).ring = []
        ∧ (r.panel p).inForce = (r.panel p).written ∧ (r.panel p).written =
          { enable := false, width := 1440, height := 1600, linePeriod := 600, repeatFill := false, brightness := 0
            fullPower := 1000, strobeOffset := 0, maxWidth := 2000 })
      ∧ r.pxp.contexts = Vector.replicate 4 none)
    ∧ (r.mou.serial4.state = .idle ∧ r.mou.twoWire.state = .idle ∧ r.mou.serial4.queue = [] ∧ r.mou.twoWire.queue = []
      ∧ r.mou.relay = none ∧ r.mou.fifo = [] ∧ r.mou.history = [] ∧ r.mou.sensorClass = .suspended
      ∧ (∀ e : Fin 8, r.mou.poll[e].cfg =
          { enable := false, bus := .serial4, device := 0, startRegister := 0, length := 1, ready := false, readyLine := 0
            period := 4, decimate := 1, kind := .raw, big := false, toFifo := true })
      ∧ r.mou.mountWritten = { gain := 16384, yaw := ⟨.z, false⟩, pitch := ⟨.x, false⟩, roll := ⟨.y, false⟩ }
      ∧ r.mou.mountForce = r.mou.mountWritten ∧ r.mou.watermark = 8 ∧ r.mou.flushTimeout = 2000 ∧ r.mou.sensorPower = 150)
    ∧ (r.lsu.written = { enable := false, sides := ⟨⟨0, 0, 0, 0, false, false⟩, ⟨0, 0, 0, 0, false, false⟩⟩ }
      ∧ r.lsu.inForce = r.lsu.written)
    ∧ (r.auu.state = .stopped ∧ r.auu.owner = 0 ∧ r.auu.buffer = [] ∧ r.auu.playout = none ∧ r.auu.gain = 0
      ∧ r.auu.servoF = 0 ∧ r.auu.cap = 0 ∧ r.auu.fillTarget = 6 ∧ r.auu.volume = 0 ∧ r.auu.mute = false
      ∧ r.auu.ampPower = 500 ∧ r.auu.micOn = false ∧ r.auu.mic = none)
    ∧ (r.pte.steps = Vector.replicate 48 ⟨48, 0, .flat, 1, none⟩ ∧ r.pte.hapticPower = 800 ∧ r.pte.deadTime = 2
      ∧ r.pte.chanT = none ∧ r.pte.chanH = none ∧ r.pte.bridge = .idle ∧ r.pte.capHanded = 0 ∧ r.pte.hp = false
      ∧ r.pte.hn = false)
    ∧ (r.pmg.cfg = { limit := 2500, reserve := 500, vWarn := 4600, vShed := 4400, vTrip := 4100, hysteresis := 100
                     iMax := 1600, protect := false }
      ∧ r.pmg.state = .held ∧ r.pmg.budget = 0 ∧ r.pmg.window = [] ∧ r.pmg.hold = false ∧ r.pmg.ceilings = ⟨0, 0⟩
      ∧ r.pmg.auxOn = false
      ∧ (r.pmg.loads.toList.map fun l => (l.priority, l.floor)) =
        [(7, 900), (7, 900), (5, 200), (5, 200), (4, 50), (2, 0), (6, 70), (1, 300)]
      ∧ ∀ i : Fin 8, r.pmg.loads[i].request = 0 ∧ r.pmg.loads[i].grant = 0 ∧ r.pmg.loads[i].state = .off
        ∧ r.pmg.loads[i].switch = false)
    ∧ (r.evu.queue = []
      ∧ (r.evu.table.toList.map fun x => (bit x.enable, x.priority, bit x.coalesce)) =
        [(1, 2, 1), (1, 3, 1), (1, 2, 1), (1, 1, 1), (1, 2, 1), (1, 2, 1), (1, 2, 1), (1, 3, 1), (1, 1, 1), (1, 2, 1),
         (1, 1, 1), (0, 0, 0), (1, 1, 1), (1, 1, 1), (1, 1, 1), (1, 1, 1), (1, 1, 1), (1, 3, 1), (1, 1, 1), (1, 1, 1),
         (1, 1, 1), (1, 0, 1), (1, 3, 1), (1, 2, 1), (1, 2, 0), (1, 2, 1), (1, 3, 1), (1, 3, 1)])

/-- RSTN low, or a supply below 3800 mV, brings power-on reset at that moment: every block is at its reset values and the
cause holds the part; a supply of 3800 mV or more brings none. The reset ends when its last cause goes: RSTN released, or the
supply at 3800 mV or above; the release of one cause leaves the other holding. While the part is held its outputs are those
of the pin table's last column; with no cause left the U-lane is still idle and the side-band lines are not driven, the loader
reads the flash, and the DAC port is clocked with zeros (the form of the outputs: log entry 48). The commands waiting, the
levels at the pins and the model's count of line samples are not the part's own and stay (log entries 4, 8 and 25). -/
def Obligations.PowerOnResetBeginsAndEnds : Prop :=
  ∀ s : State,
    let fresh (h : ResetHold) : State :=
      { State.reset with
        pending := s.pending, hold := h, stu := { Stu.reset with pins := s.stu.pins }
        mou := { Mou.reset with lineSamples := s.mou.lineSamples } }
    exec (.powerOnReset .rstn) s = .next (fresh { s.hold with rstnLow := true })
      ∧ (∀ mv < 3800, exec (.powerOnReset (.supply mv)) s = .next (fresh { s.hold with supplyLow := true }))
      ∧ (∀ mv, 3800 ≤ mv → s.held = false → exec (.powerOnReset (.supply mv)) s = .next s)
      ∧ (s.held = true → exec (.powerOnResetEnds .rstn) s = .next (fresh ⟨s.hold.supplyLow, false⟩))
      ∧ (∀ mv, s.held = true → 3800 ≤ mv → exec (.powerOnResetEnds (.supply mv)) s = .next (fresh ⟨false, s.hold.rstnLow⟩))
      ∧ (∀ mv < 3800, s.held = true → exec (.powerOnResetEnds (.supply mv)) s = .next (fresh s.hold))
      ∧ (s.held = true → s.outputs = Outputs.inReset)
      ∧ (fresh ⟨false, false⟩).outputs = { Outputs.inReset with flash := some 1, dac := some (0, 0) }

/-- RESTART takes effect: every block returns to its reset values but the lock and pass machines, and the oscillator, the
audio frame clock and the haptic carrier run on (the last two: log entry 20). The pick of that boundary sends an IDLE cell, so
that the U-lane runs on. RESTART_TAKES_EFFECT and a CELL_BOUNDARY with the RESTART reply sent are the same act (log entry 39).
The levels at the pins (log entry 25) and the model's count of line samples (log entry 8) are not the part's own and stay:
the model's choices. -/
def Obligations.RestartTakesEffectKeepsLock : Prop :=
  ∀ s : State, s.held = false → s.restartSent = true →
    let fresh : State := { State.reset with
      pending := s.pending
      clock := { s.clock with usAcc := 0 }
      lrx := { Lrx.reset with
        lock := s.lrx.lock, goodCount := s.lrx.goodCount, badCount := s.lrx.badCount, nextHeader := s.lrx.nextHeader
        cell := s.lrx.cell, pass := s.lrx.pass, winCells := s.lrx.winCells, winErrors := s.lrx.winErrors }
      stu := { Stu.reset with pins := s.stu.pins }
      mou := { Mou.reset with lineSamples := s.mou.lineSamples }
      auu := { Auu.reset with frameIdx := s.auu.frameIdx, frameAt := s.auu.frameAt, micPhase := s.auu.micPhase }
      pte := { Pte.reset with carrierAt := s.pte.carrierAt, periodStart := s.pte.periodStart } }
    let after : State := { fresh with ltx := { Ltx.reset with
      tx := some { source := .idle, wire := cellWire 0 .idle 0 [0, 0, 0, 0], restart := false } } }
    exec .restartTakesEffect s = .next after ∧ exec .cellBoundary s = .next after

/-! ### Link (chapters 1 and 2) -/

/-- A header that passes HCHK, by lock state: SEARCH goes to VERIFY with good count 1, VERIFY counts and at 4 is LOCKED with
LINK_LOCK, LOCKED clears the bad count. In every case the next header is expected 134 bytes on, the cell is taken in unless
its KIND is undefined, and an undefined KIND is counted. Only the header that is judged in LOCKED marks its cell so. -/
def Obligations.GoodHeaderMovesLockMachine : Prop :=
  ∀ (s : State) (b0 b1 b2 : Byte), s.held = false → s.lrx.cell = none →
    let taken (locked : Bool) : Lrx :=
      { s.lrx with
        nextHeader := s.lrx.nextHeader + 134, cell := readHeader b0 b1 b2 locked
        badKinds := satAdd s.lrx.badKinds (bit (readHeader b0 b1 b2 locked).isNone) }
    (s.lrx.lock = .search → exec (.headerJudgement b0 b1 b2 (hchk [b0, b1, b2])) s =
        .next { s with lrx := { taken false with lock := .verify, goodCount := 1 } })
      ∧ (s.lrx.lock = .verify → s.lrx.goodCount + 1 ≠ 4 → exec (.headerJudgement b0 b1 b2 (hchk [b0, b1, b2])) s =
        .next { s with lrx := { taken false with goodCount := s.lrx.goodCount + 1 } })
      ∧ (s.lrx.lock = .verify → s.lrx.goodCount + 1 = 4 →
        let t : State := { s with
          lrx := { taken true with lock := .locked, goodCount := 4, badCount := 0 }
          evu := s.evu.take .linkLock [] s.now s.timeUnset }
        exec (.headerJudgement b0 b1 b2 (hchk [b0, b1, b2])) s = .next (t.handEdges s.levels t.levels))
      ∧ (s.lrx.lock = .locked → exec (.headerJudgement b0 b1 b2 (hchk [b0, b1, b2])) s =
        .next { s with lrx := { taken true with badCount := 0 } })

/-- A header that fails HCHK, by lock state: SEARCH drops it uncounted and moves on one byte; VERIFY counts it and searches
again from the next byte; LOCKED counts it and keeps the spacing, and at the third in a row leaves LOCKED with LINK_UNLOCK:
PASS false, window abandoned, every stream NEW, the side-band word LOST, every slice context free. -/
def Obligations.BadHeaderMovesLockMachine : Prop :=
  ∀ (s : State) (b0 b1 b2 b3 : Byte), s.held = false → s.lrx.cell = none → hchk [b0, b1, b2] ≠ b3 →
    (s.lrx.lock = .search → exec (.headerJudgement b0 b1 b2 b3) s =
        .next { s with lrx := { s.lrx with nextHeader := s.lrx.nextHeader + 1 } })
      ∧ (s.lrx.lock = .verify → exec (.headerJudgement b0 b1 b2 b3) s =
        .next { s with lrx := { s.lrx with
          badHeaders := satInc s.lrx.badHeaders, lock := .search, goodCount := 0, nextHeader := s.lrx.nextHeader + 1 } })
      ∧ (s.lrx.lock = .locked → s.lrx.badCount + 1 ≠ 3 → exec (.headerJudgement b0 b1 b2 b3) s =
        .next { s with lrx := { s.lrx with
          badHeaders := satInc s.lrx.badHeaders, badCount := s.lrx.badCount + 1
          nextHeader := s.lrx.nextHeader + 134 } })
      ∧ (s.lrx.lock = .locked → s.lrx.badCount + 1 = 3 →
        let t : State := { s with
          lrx := { s.lrx with
            badHeaders := satInc s.lrx.badHeaders, lock := .search, goodCount := 0, badCount := 0
            nextHeader := s.lrx.nextHeader + 1, pass := false, winCells := 0, winErrors := 0 }
          stu := { s.stu with
            streams := s.stu.streams.map fun e => { e with tracking := false, gapPending := false }
            wordCurrent := false }
          pxp := { s.pxp with contexts := Vector.replicate 4 none }
          evu := s.evu.take .linkUnlock [] s.now s.timeUnset }
        exec (.headerJudgement b0 b1 b2 b3) s = .next (t.handEdges s.levels t.levels))

/-- A cell whose header was judged outside LOCKED is discarded at its arrival without a payload check; at every arrival the
steering windows written before come into force. -/
def Obligations.UnlockedCellIsDiscarded : Prop :=
  ∀ (s : State) (c : RxCell) (payload : List Byte) (p0 p1 : Byte), s.held = false → s.lrx.cell = some c →
    c.locked = false → payload.length = 128 →
    exec (.cellArrival payload p0 p1) s = .next { s with
      lrx := { s.lrx with cell := none, unlockedDiscards := satInc s.lrx.unlockedDiscards }
      stu := { s.stu with inForce := s.stu.written } }

/-- A cell judged in LOCKED whose PCRC does not match: the pass machine counts it as an error, with PASS_LOST at the threshold and
at the end of a window, PASS_REGAINED at the end of a window, and both counts back to 0 there (`State.arrived`); it is counted
bad, and marks its stream gap pending. Nothing of it is delivered, but a TEST cell of stream 0 is still compared with the
pattern while test mode is on. -/
def Obligations.BadPcrcMarksStreamGap : Prop :=
  ∀ (s : State) (c : RxCell) (payload : List Byte) (p0 p1 : Byte), s.held = false → s.lrx.cell = some c →
    c.locked = true → payload.length = 128 → payloadGood (payload.take (4 * c.len)) p0 p1 = false →
    let a := (s.arrived false).handEdges s.levels (s.arrived false).levels
    let bytes := payload.take (4 * c.len)
    let checked : Prop := c.sn = 0 ∧ c.kind = .test ∧ s.lrx.testMode = true
    exec (.cellArrival payload p0 p1) s = .next { a with
      lrx := { a.lrx with
        badPayloads := satInc s.lrx.badPayloads
        testCells := if checked then satInc s.lrx.testCells else s.lrx.testCells
        testBitErrors :=
          if checked then satAdd s.lrx.testBitErrors (bitErrors bytes (testPattern bytes.length c.seq))
          else s.lrx.testBitErrors }
      stu := { a.stu with
        streams := tabMod s.stu.streams c.sn fun e => { e with badPcrc := satInc e.badPcrc, gapPending := true } } }

/-- An accepted SYNC updates tether time from its reference CT + link delay: UNSET and a lead of more than 4096 µs load it,
a lead of 0 to 4096 µs loads it, a lag of up to 4096 µs slews, a longer lag is a time fault, the fourth in a row leaves
UNSET. After a time fault its target is dropped and counted; else what the update brings due is taken (in the order of log
entry 12) and the target is handed to the frame timer. The update: a set and a step raise TIME_SET and TIME_STEP, marked
after the change (log entry 39), and move the scheduled start, the upcoming record, every PENDING pulse and strobe start,
every end of one that is ON, the gyro history and the queued and running polls by the same step; a fault raises TIME_FAULT,
and the fourth TIME_LOST. The target: it places the first frame in AWAITING, is extra when one was taken before, and when it
is used corrects the next start by at most the phase step, never to earlier than 100 µs from now, renumbers a frame that is
not expected, and moves the display lock machine by its phase error. That a slew replaced while it runs keeps its half is
log entry 22, that stream 0 is tracked after the target is log entry 7, that the display lock is judged before an evaluation
that the target makes due is log entry 12, and that a load lets the microsecond in progress run on is log entry 49: the
model's choices. -/
def Obligations.SyncUpdatesTetherTime : Prop :=
  (∀ (s : State) (c : RxCell) (payload : List Byte) (p0 p1 : Byte), s.held = false → s.lrx.cell = some c →
    c.locked = true → c.sn = 0 → c.kind = .sync → c.pos = .only → c.len = 4 → payload.length = 128 →
    payloadGood (payload.take 16) p0 p1 = true →
    let ref := BitVec.ofNat 32 (ofLe (payload.take 4)) + BitVec.ofNat 32 s.lrx.linkDelay
    let d := (ref - s.lrx.tt).toInt
    let present := (payload.getD 4 0).getLsbD 0
    let frame := BitVec.ofNat 16 (ofLe ((payload.drop 8).take 2))
    let start := BitVec.ofNat 32 (ofLe ((payload.drop 12).take 4))
    let faulted : Prop := s.lrx.timeState ≠ .unset ∧ d < -4096
    ∃ t, exec (.cellArrival payload p0 p1) s = .next t
      ∧ (t.lrx.tt, t.lrx.timeState, t.lrx.deficit, t.lrx.faults) =
        (if s.lrx.timeState = .unset ∨ 0 ≤ d then (ref, TimeState.running, 0, 0)
         else if -4096 ≤ d then (s.lrx.tt, TimeState.slewing, d.natAbs, 0)
         else if s.lrx.faults + 1 < 4 then (s.lrx.tt, s.lrx.timeState, s.lrx.deficit, s.lrx.faults + 1)
         else (s.lrx.tt, TimeState.unset, 0, 0))
      ∧ t.lrx.targetsDropped =
        (if faulted ∧ present = true then satInc s.lrx.targetsDropped else s.lrx.targetsDropped)
      ∧ (faulted → t.ftm = s.ftm)
      ∧ let a := (s.arrived true).handEdges s.levels (s.arrived true).levels
        let timed := a.timeUpdate ref
        let updated := timed.handEdges a.levels timed.levels
        (¬ faulted → present = false → t = updated.takeDue.trackCell c)
          ∧ (¬ faulted → present = true →
            let aimed := updated.takeDue.target frame start
            t = (aimed.handEdges updated.takeDue.levels aimed.levels).trackCell c))
    ∧ (∀ (s : State) (ref : Time),
      let l := s.lrx
      let by_ := ref - l.tt
      let d := by_.toInt
      let loaded : Lrx := { l with tt := ref, timeState := .running, deficit := 0, faults := 0, slewHalf := false }
      let gen (g : Generator) : Generator := { g with
        startAt := if g.state = .pending then g.startAt + by_ else g.startAt
        endAt := if g.state = .on then g.endAt + by_ else g.endAt }
      let panel (x : PanelState) : PanelState := { x with
        strobeAt := if x.strobe = .pending then x.strobeAt + by_ else x.strobeAt
        strobeEnd := if x.strobe = .on then x.strobeEnd + by_ else x.strobeEnd }
      let queued (q : Queued) : Queued := { q with trigger := q.trigger + by_ }
      let bus (b : BusCtl) : BusCtl := { b with
        queue := b.queue.map queued, poll := b.poll.map fun w => { w with q := queued w.q } }
      let rebased (v : Evu) : State := { s with
        lrx := loaded, evu := v
        ftm := { s.ftm with
          sNext := if s.ftm.schedule = .starting ∨ s.ftm.schedule = .running then s.ftm.sNext + by_ else s.ftm.sNext
          upcoming := s.ftm.upcoming.map fun r => { r with start := r.start + by_ }
          gens := ⟨gen s.ftm.gens.a, gen s.ftm.gens.b⟩ }
        pxp := { s.pxp with panels := ⟨panel s.pxp.panels.a, panel s.pxp.panels.b⟩ }
        mou := { s.mou with
          history := s.mou.history.map fun e => { e with time := e.time + by_ }
          serial4 := bus s.mou.serial4, twoWire := bus s.mou.twoWire } }
      let fault := s.evu.take .timeFault (leBytesInt 4 d) l.tt false
      (l.timeState = .unset → s.timeUpdate ref = rebased (s.evu.take .timeSet (leBytes 4 l.tt.toNat) ref false))
        ∧ (l.timeState ≠ .unset → 4096 < d →
          s.timeUpdate ref = rebased (s.evu.take .timeStep (leBytesInt 4 d) ref false))
        ∧ (l.timeState ≠ .unset → 0 ≤ d → d ≤ 4096 → s.timeUpdate ref = { s with lrx := loaded })
        ∧ (l.timeState ≠ .unset → d < 0 → -4096 ≤ d → s.timeUpdate ref = { s with lrx := { l with
            timeState := .slewing, deficit := d.natAbs, faults := 0
            slewHalf := l.slewHalf && decide (l.timeState = .slewing) } })
        ∧ (l.timeState ≠ .unset → d < -4096 → l.faults + 1 < 4 → s.timeUpdate ref = { s with
            lrx := { l with faults := l.faults + 1 }, evu := fault })
        ∧ (l.timeState ≠ .unset → d < -4096 → 4 ≤ l.faults + 1 → s.timeUpdate ref = { s with
            lrx := { l with timeState := .unset, deficit := 0, faults := 0, slewHalf := false }
            evu := fault.take .timeLost [] l.tt true }))
    ∧ ∀ (s : State) (n : FrameNo) (v : Time),
      let f := s.ftm
      let now := s.lrx.tt
      let F := f.scanFrame.getD 0
      let away := (v - now).toInt
      let k := (n - (F + 1)).toNat
      let e := (v - (if k ≤ 3 then f.sNext + BitVec.ofNat 32 (k * f.inForce.period) else f.sNext)).toInt
      let near : Prop := e.natAbs ≤ f.inForce.lockWindow
      let moved := f.sNext + BitVec.ofInt 32 (max (-(f.inForce.phaseStep : Int)) (min f.inForce.phaseStep e))
      let start := if 0 < (now + 100 - moved).toInt then now + 100 else moved
      let used : Ftm := { f with
        lastPhaseError := e, sNext := start, targetTaken := true, noTarget := 0
        renumber := if k ≤ 3 then f.renumber else some n
        upcoming := f.upcoming.map fun r =>
          if k ≤ 3 then { r with start := start }
          else { r with start := start, number := n, state := .opened, pose := none, evalTime := none, angles := none
                        shifts := none, flags := RecFlags.none } }
      let goes (g : Ftm) (w : Evu) : Prop := s.target n v = ({ s with ftm := g, evu := w } : State).evaluateIfDue
      let locks := s.evu.take .displayLock (leBytes 2 F.toNat ++ leBytesInt 4 e) now s.timeUnset
      let unlocks := s.evu.take .displayUnlock (leBytes 2 F.toNat ++ leBytes 1 0) now s.timeUnset
      let taken : Prop := f.schedule = .running ∧ f.inForce.linked = true ∧ f.targetTaken = false
      (f.schedule = .idle ∨ (f.schedule = .starting ∧ f.targetTaken = false)
          ∨ (f.schedule = .running ∧ f.inForce.linked = false) → s.target n v = s)
        ∧ ((f.schedule = .starting ∨ (f.schedule = .running ∧ f.inForce.linked = true)) → f.targetTaken = true →
          s.target n v = { s with ftm := { f with extraTargets := satInc f.extraTargets } })
        ∧ (∀ j : Nat, f.schedule = .awaiting → 0 < f.written.period → 100 ≤ away + j * f.written.period →
          (∀ i : Nat, i < j → away + i * f.written.period < 100) →
          let first := v + BitVec.ofNat 32 (j * f.written.period)
          goes { f with
            sNext := first, upcoming := some (FrameRec.fresh (n + BitVec.ofNat 16 j) first), lastPhaseError := 0
            display := .pulling, inCount := 1, outCount := 0, targetTaken := true, schedule := .starting } s.evu)
        ∧ (taken → f.display = .free → near → goes { used with display := .pulling, inCount := 1 } s.evu)
        ∧ (taken → f.display = .free → ¬ near → goes { used with display := .pulling, inCount := 0 } s.evu)
        ∧ (taken → f.display = .pulling → near → f.inCount + 1 < 4 → goes { used with inCount := f.inCount + 1 } s.evu)
        ∧ (taken → f.display = .pulling → near → 4 ≤ f.inCount + 1 →
          goes { used with inCount := f.inCount + 1, display := .locked, outCount := 0 } locks)
        ∧ (taken → f.display = .pulling → ¬ near → goes { used with inCount := 0 } s.evu)
        ∧ (taken → f.display = .locked → near → goes { used with outCount := 0 } s.evu)
        ∧ (taken → f.display = .locked → ¬ near → f.outCount + 1 < 2 → goes { used with outCount := f.outCount + 1 } s.evu)
        ∧ (taken → f.display = .locked → ¬ near → 2 ≤ f.outCount + 1 →
          goes { used with outCount := f.outCount + 1, display := .pulling, inCount := 0 } unlocks)
        ∧ (taken → f.display = .holdover → near → goes { used with display := .locked, outCount := 0 } locks)
        ∧ (taken → f.display = .holdover → ¬ near → goes { used with display := .pulling, inCount := 0 } s.evu)

/-- A good cell judged in LOCKED, after the pass machine has counted it (`State.arrived`). On streams 1 to 31 it is tracked: in NEW
the stream becomes TRACKING; in TRACKING a distance g above 0, or a pending gap, counts a gap; last SEQ, gap pending and good
cells are set in every case. One of another kind than DATA is then a kind mismatch, a DATA cell that no window matches is
unsteered, one for DISCARD does nothing more, and one for a panel goes to the picture path. On stream 0 an IDLE cell does
nothing more, a DATA cell is a kind mismatch and tracked, a TEST cell is compared while test mode is on and tracked, a SYNC
that is not ONLY with LEN 4 is a bad SYNC and tracked (that stream 0 is tracked: log entry 7). The picture path: a first cell
with a good header takes the lowest free context and hands its pose time to the open record of its frame, else it is
malformed, or finds no context; a middle or last cell continues its stream's context, is an orphan without one, and aborts it
after a gap; bytes beyond the slice length, and a last cell short of it, abort it too (log entry 10); each line whose bytes
are complete is offered, in order, to the rings of the target. A line is counted without a scan, as early or as stale, or
takes the slot of its position; at a frame start a ring keeps the lines of the new scan frame, lets those of the old one go
and counts the others stale (log entry 41). -/
def Obligations.UnsteeredCellIsTracked : Prop :=
  (∀ (s : State) (c : RxCell) (payload : List Byte) (p0 p1 : Byte), s.held = false → s.lrx.cell = some c →
    c.locked = true → payload.length = 128 → payloadGood (payload.take (4 * c.len)) p0 p1 = true →
    let a := (s.arrived true).handEdges s.levels (s.arrived true).levels
    let bytes := payload.take (4 * c.len)
    let e := s.stu.streams[c.sn]
    let g := (c.seq - (e.lastSeq + 1)).toNat
    let gap : Option Nat :=
      if e.tracking = false ∨ (g = 0 ∧ e.gapPending = false) then none else if g = 0 then some 1 else some g
    let tracked (f : StreamEntry → StreamEntry) : Stu := { a.stu with
      streams := tabMod s.stu.streams c.sn fun e => f { e with
        tracking := true, lastSeq := c.seq, gapPending := false, goodCells := satInc e.goodCells
        gaps := satAdd e.gaps (if gap = none then 0 else 1) } }
    let mismatched := tracked fun e => { e with kindMismatches := satInc e.kindMismatches }
    let destination := (s.stu.written.toList.find? fun w => w.hits c.sn.val).map Window.destination
    let runs (l : Lrx) (u : Stu) : Prop := exec (.cellArrival payload p0 p1) s = .next { a with lrx := l, stu := u }
    let pictured (target : Target) : Prop :=
      exec (.cellArrival payload p0 p1) s = .next (({ a with stu := tracked id } : State).pictureCell
        { sn := c.sn, pos := c.pos, bytes := bytes, gap := gap, target := target })
    (c.sn ≠ 0 → c.kind ≠ .data → runs a.lrx mismatched)
      ∧ (c.sn ≠ 0 → c.kind = .data → destination = none →
        runs a.lrx (tracked fun e => { e with unsteered := satInc e.unsteered }))
      ∧ (c.sn ≠ 0 → c.kind = .data → destination = some .discard → runs a.lrx (tracked id))
      ∧ (c.sn ≠ 0 → c.kind = .data → destination = some .panelA → pictured (.one .a))
      ∧ (c.sn ≠ 0 → c.kind = .data → destination = some .panelB → pictured (.one .b))
      ∧ (c.sn ≠ 0 → c.kind = .data → destination = some .panelBoth → pictured .both)
      ∧ (c.sn = 0 → c.kind = .idle → runs a.lrx a.stu)
      ∧ (c.sn = 0 → c.kind = .data → runs a.lrx mismatched)
      ∧ (c.sn = 0 → c.kind = .test → s.lrx.testMode = false → runs a.lrx (tracked id))
      ∧ (c.sn = 0 → c.kind = .test → s.lrx.testMode = true → runs { a.lrx with
          testCells := satInc s.lrx.testCells
          testBitErrors := satAdd s.lrx.testBitErrors (bitErrors bytes (testPattern bytes.length c.seq)) } (tracked id))
      ∧ (c.sn = 0 → c.kind = .sync → c.pos ≠ .only ∨ c.len ≠ 4 →
        runs { a.lrx with badSyncs := satInc s.lrx.badSyncs } (tracked id)))
    ∧ (∀ (s : State) (c : PicCell),
      let x := s.pxp
      let on (t : Target) (f : PanelState → PanelState) (d : Duo PanelState) : Duo PanelState :=
        ⟨if t = .one .b then d.a else f d.a, if t = .one .a then d.b else f d.b⟩
      let malformed (y : PanelState) : PanelState := { y with malformedSlices := satInc y.malformedSlices }
      let aborted (s : State) (i : Fin 4) (t : Target) : State :=
        { s with pxp := ⟨on t malformed s.pxp.panels, s.pxp.contexts.set i none⟩ }
      let takes (s : State) (i : Fin 4) (k : SliceCtx) (bytes : List Byte) (final : Bool) : State :=
        let got := k.received + bytes.length
        let total := (k.count * k.width * 3 + 3) / 4 * 4
        let line := 3 * k.width
        let all := k.current ++ bytes
        let n := min (k.first + k.count - k.nextLine) (all.length / line)
        let whole (j : Nat) : RingLine :=
          { frame := k.frame, line := k.nextLine + j, pixels := pixelsOf k.width (all.drop (j * line)) }
        if total < got ∨ (final = true ∧ got < total) then aborted s i k.target
        else { s with pxp := {
          panels := on k.target (fun y => (List.range n).foldl (fun y j => y.offer s.ftm.scanFrame (whole j)) y) s.pxp.panels
          contexts := s.pxp.contexts.set i (if final then none
            else some { k with nextLine := k.nextLine + n, current := all.drop (n * line), received := got }) } }
      let word := ofLe ((c.bytes.drop 2).take 2)
      let lead := (x.panels.get (if c.target = .one .b then .b else .a)).inForce
      let good : Prop := 8 ≤ c.bytes.length ∧ word % 4096 + (word / 4096 + 1) ≤ lead.height
        ∧ (c.target = .both → x.panels.a.inForce.width = x.panels.b.inForce.width
            ∧ x.panels.a.inForce.height = x.panels.b.inForce.height)
      let frame : FrameNo := BitVec.ofNat 16 (ofLe (c.bytes.take 2))
      let pose : Time := BitVec.ofNat 32 (ofLe ((c.bytes.drop 4).take 4))
      let posed : State := { s with ftm := { s.ftm with
        upcoming := s.ftm.upcoming.map fun r =>
          if r.state = .opened ∧ r.number = frame ∧ r.pose = none then { r with pose := some pose } else r } }
      let begins : Prop := c.pos = .first ∨ c.pos = .only
      let continues : Prop := c.pos = .mid ∨ c.pos = .last
      (continues → x.ctxOf c.sn = none → s.pictureCell c = { s with pxp := { x with
          panels := on c.target (fun y => { y with orphanCells := satInc y.orphanCells }) x.panels } })
        ∧ (∀ i k, continues → x.ctxOf c.sn = some i → x.contexts[i] = some k → c.gap ≠ none →
          s.pictureCell c = aborted s i k.target)
        ∧ (∀ i k, continues → x.ctxOf c.sn = some i → x.contexts[i] = some k → c.gap = none → 0 < k.width → k.count ≤ 16 →
          k.first ≤ k.nextLine → s.pictureCell c = takes s i k c.bytes (decide (c.pos = .last)))
        ∧ (∀ i k, begins → x.ctxOf c.sn = some i → x.contexts[i] = some k → (aborted s i k.target).pxp.ctxOf c.sn = none →
          s.pictureCell c = (aborted s i k.target).pictureCell c)
        ∧ (begins → x.ctxOf c.sn = none → ¬ good →
          s.pictureCell c = { s with pxp := { x with panels := on c.target malformed x.panels } })
        ∧ (begins → x.ctxOf c.sn = none → good → (∀ i : Fin 4, x.contexts[i] ≠ none) → s.pictureCell c = { posed with
          pxp := { x with panels := on c.target (fun y => { y with noContextSlices := satInc y.noContextSlices }) x.panels } })
        ∧ (∀ i : Fin 4, begins → x.ctxOf c.sn = none → good → x.contexts[i] = none → (∀ j < i, x.contexts[j] ≠ none) →
          0 < lead.width → s.pictureCell c = takes posed i
            { sn := c.sn, target := c.target, frame := frame, first := word % 4096, count := word / 4096 + 1
              width := lead.width, nextLine := word % 4096, current := [], received := 0 }
            (c.bytes.drop 8) (decide (c.pos = .only))))
    ∧ ∀ (x : PanelState) (l : RingLine),
      let ahead (F : FrameNo) (r : RingLine) : Nat := (r.frame - F).toNat
      let position (F : FrameNo) (r : RingLine) : Nat := ahead F r * x.inForce.height + r.line
      let early : PanelState := { x with earlyLines := satInc x.earlyLines }
      let stale : PanelState := { x with staleLines := satInc x.staleLines }
      (∀ old, old = none ∨ x.scan = .off → x.offer old l = { x with noScanLines := satInc x.noScanLines })
        ∧ ∀ F, (x.scan ≠ .off →
            (ahead F l ≤ 1 → position F l + 16 < x.pos → x.offer (some F) l = stale)
              ∧ (ahead F l ≤ 1 → x.pos + 79 < position F l → x.offer (some F) l = early)
              ∧ (ahead F l ≤ 1 → x.pos ≤ position F l + 16 → position F l ≤ x.pos + 79 → x.offer (some F) l = { x with
                ring := x.ring.filter (fun r => decide (position F r % 96 ≠ position F l % 96)) ++ [l] })
              ∧ (2 ≤ ahead F l → ahead F l ≤ 32767 → x.offer (some F) l = early)
              ∧ (32768 ≤ ahead F l → x.offer (some F) l = stale))
          ∧ ∀ old, x.rebase old F = { x with
            ring := x.ring.filter fun r => decide (r.frame = F ∧ r.line ≤ 79)
            staleLines := satAdd x.staleLines (x.ring.countP fun r => decide (r.frame ≠ F ∧ some r.frame ≠ old)) }

/-- A side-band cell gives the side-band word the low 16 bits of its first payload word, and the word is CURRENT; the RECEIVED
lines that rise by it trigger the polls that listen to them. -/
def Obligations.SidebandCellSetsWord : Prop :=
  ∀ (s : State) (c : RxCell) (payload : List Byte) (p0 p1 : Byte), s.held = false → s.lrx.cell = some c →
    c.locked = true → c.sn ≠ 0 → c.kind = .data → payload.length = 128 →
    payloadGood (payload.take (4 * c.len)) p0 p1 = true →
    ((s.stu.written.toList.find? fun w => w.hits c.sn.val).map Window.destination) = some .sideband →
    ∃ t, exec (.cellArrival payload p0 p1) s = .next t
      ∧ t.stu.word = BitVec.ofNat 16 (ofLe ((payload.take (4 * c.len)).take 2)) ∧ t.stu.wordCurrent = true
      ∧ (∀ n : Fin 32, n ≠ c.sn → t.stu.streams[n] = s.stu.streams[n])
      ∧ (let a := (s.arrived true).handEdges s.levels (s.arrived true).levels
        let worded : State := { a with stu := t.stu }
        t.mou = (worded.handEdges a.levels worded.levels).mou ∧ t.lrx = a.lrx ∧ t.evu = a.evu)
      ∧ { t with lrx := s.lrx, stu := s.stu, evu := s.evu, mou := s.mou } = s

/-- At a cell boundary, once the U-lane has begun, a MOTION cell goes before a VOICE cell, and either before REPLY and
NOTICE unless the fairness turn is due: three such grants in a row while REPLY or NOTICE waits. The cell takes its stream's
sequence number, which rises. -/
def Obligations.BoundaryGrantsMotionThenVoice : Prop :=
  ∀ (s : State) (p : List Byte) (rest : List (List Byte)), s.held = false → s.restartSent = false → s.ltx.tx ≠ none →
    s.ltx.fairness < 3 ∨ (s.ltx.reply = [] ∧ s.evu.queue = []) →
    let fair := if s.ltx.reply ≠ [] ∨ s.evu.queue ≠ [] then s.ltx.fairness + 1 else 0
    (s.ltx.motion = p :: rest → s.batchDue = false → exec .cellBoundary s = .next { s with ltx := { s.ltx with
        motion := rest, fairness := fair, seq := tabMod s.ltx.seq 2 (· + 1)
        tx := some { source := .motion, wire := cellWire 2 .data s.ltx.seq[2] p, restart := false } } })
      ∧ (s.ltx.motion = [] → s.ltx.voice = p :: rest → exec .cellBoundary s = .next { s with ltx := { s.ltx with
        voice := rest, fairness := fair, seq := tabMod s.ltx.seq 3 (· + 1)
        tx := some { source := .voice, wire := cellWire 3 .data s.ltx.seq[3] p, restart := false } } })

/-- At a cell boundary where the fairness turn is due, or where neither MOTION nor VOICE waits, the head of REPLY is sent, else
the head notice of NOTICE; with nothing waiting an IDLE cell, in test mode a TEST cell of 96 pattern bytes. The fairness
count returns to 0. The first cell after a reset is an IDLE cell whatever waits, in test mode too (that this goes before the
grant's own rules is log entry 47). -/
def Obligations.BoundaryGrantsReplyNoticeIdle : Prop :=
  ∀ s : State, s.held = false → s.restartSent = false →
    let idle : TxCell := { source := .idle, wire := cellWire 0 .idle 0 [0, 0, 0, 0], restart := false }
    let turn : Prop := s.ltx.fairness = 3 ∨ (s.ltx.motion = [] ∧ s.ltx.voice = [])
    let nothing : Prop := s.ltx.motion = [] ∧ s.ltx.voice = [] ∧ s.ltx.reply = [] ∧ s.evu.queue = []
    (s.ltx.tx = none → exec .cellBoundary s = .next { s with ltx := { s.ltx with fairness := 0, tx := some idle } })
      ∧ (∀ p rest, s.ltx.tx ≠ none → turn → s.ltx.reply = p :: rest →
        exec .cellBoundary s = .next { s with ltx := { s.ltx with
          reply := rest, fairness := 0, seq := tabMod s.ltx.seq 0 (· + 1)
          tx := some { source := .reply, wire := cellWire 0 .mgmt s.ltx.seq[0] p.payload, restart := p.restart } } })
      ∧ (∀ n rest, s.ltx.tx ≠ none → turn → s.ltx.reply = [] → s.evu.queue = n :: rest →
        exec .cellBoundary s = .next { s with
          evu := { s.evu with queue := rest }
          ltx := { s.ltx with
            fairness := 0, seq := tabMod s.ltx.seq 1 (· + 1)
            tx := some { source := .notice, wire := cellWire 1 .data s.ltx.seq[1] n.payload, restart := false } } })
      ∧ (s.ltx.tx ≠ none → nothing → s.lrx.testMode = false →
        exec .cellBoundary s = .next { s with ltx := { s.ltx with fairness := 0, tx := some idle } })
      ∧ (s.ltx.tx ≠ none → nothing → s.lrx.testMode = true →
        exec .cellBoundary s = .next { s with ltx := { s.ltx with
          fairness := 0, testSeq := s.ltx.testSeq + 1
          tx := some { source := .test, wire := cellWire 0 .test s.ltx.testSeq (testPattern 96 s.ltx.testSeq)
                       restart := false } } })

/-! ### Management (chapter 3) -/

/-- What comes before a request's own meaning, for every request row: POS other than ONLY is counted and ignored; no room in
the REPLY queue drops the request with MGMT_DROPPED; a cell of LEN 1 is BAD_LENGTH; anything but a READ is BUSY while the
loader is LOADING or a restart is pending. A good MGMT cell of stream 0 that arrives is the request row that its operation
and table spell, on the state that the pass machine has counted the cell in, and is then tracked (log entry 7). -/
def Obligations.RequestGateComesFirst : Prop :=
  (∀ (c : Instr) (op : Nat) (code : Byte) (r : Request) (s : State), Instr.asRequest c = some (op, code, r) →
    s.held = false →
    (r.pos ≠ .only → exec c s = .next { s with mrs := { s.mrs with badPos := satInc s.mrs.badPos } })
      ∧ (r.pos = .only → s.room = 0 → exec c s = .next { s with
          mrs := { s.mrs with requestsDropped := satInc s.mrs.requestsDropped }
          evu := s.evu.take .mgmtDropped [r.tag, BitVec.ofNat 8 op, code] s.now s.timeUnset })
      ∧ (r.pos = .only → 0 < s.room → r.short = true → exec c s = .next (s.answered code r .badLength []))
      ∧ (r.pos = .only → 0 < s.room → r.short = false → op ≠ 0 →
          s.cfl.state = .loading ∨ s.mrs.restartPending = true → exec c s = .next (s.answered code r .busy [])))
    ∧ ∀ (i : Instr) (op : Nat) (code : Byte) (s : State) (c : RxCell) (payload : List Byte) (p0 p1 : Byte),
      s.held = false → s.lrx.cell = some c → c.locked = true → c.sn = 0 → c.kind = .mgmt → payload.length = 128 →
      payloadGood (payload.take (4 * c.len)) p0 p1 = true →
      let bytes := payload.take (4 * c.len)
      Instr.asRequest i = some (op, code, {
        pos := c.pos, tag := bytes.getD 0 0, count := bytes.getD 3 0, index := bytes.getD 4 0, short := decide (c.len = 1)
        data := wordsOf (c.len - 2) (bytes.drop 8) }) →
      (bytes.getD 1 0).toNat = op → bytes.getD 2 0 = code →
      ∃ t, exec i ((s.arrived true).handEdges s.levels (s.arrived true).levels) = .next t
        ∧ exec (.cellArrival payload p0 p1) s = .next { t with stu := { t.stu with
          streams := tabMod t.stu.streams 0 fun e => { e with
            tracking := true, lastSeq := c.seq, gapPending := false, goodCells := satInc e.goodCells
            gaps := satAdd e.gaps
              (if e.tracking = true ∧ (c.seq ≠ e.lastSeq + 1 ∨ e.gapPending = true) then 1 else 0) } } }

/-- A READ of entries a table has, of at most 22 field words, is answered OK with COUNT × fields words; above 22 it is
BAD_LENGTH, outside the table BAD_INDEX, and with no such table BAD_TABLE. Nothing else changes. The words are those of the
entries, one after the other, each with the fields of its table in the table's order: written fields as written, an
enumerated field by the number of its code, a flag as 0 or 1, a signed number in two's complement, an absent one as 0. -/
def Obligations.ReadAnswersFieldWords : Prop :=
  (∀ (table : Byte) (r : Request) (s : State), s.held = false → r.pos = .only → r.short = false → 0 < s.room →
    (17 < table.toNat → exec (.read table r) s = .next (s.answered table r .badTable []))
      ∧ ∀ t, Table.ofCode table.toNat = some t →
        (r.count = 0 ∨ t.entries < r.index.toNat + r.count.toNat →
            exec (.read table r) s = .next (s.answered table r .badIndex []))
          ∧ (r.count ≠ 0 → r.index.toNat + r.count.toNat ≤ t.entries → 22 < r.count.toNat * t.fields →
            exec (.read table r) s = .next (s.answered table r .badLength []))
          ∧ (r.count ≠ 0 → r.index.toNat + r.count.toNat ≤ t.entries → r.count.toNat * t.fields ≤ 22 →
            ∃ ws : List Word, ws.length = r.count.toNat * t.fields
              ∧ ws = ({ s with mrs := { s.mrs with requestsTaken := satInc s.mrs.requestsTaken } }).readEntries t
                  r.count.toNat r.index.toNat
              ∧ exec (.read table r) s = .next (s.answered table r .ok ws)))
    ∧ (∀ (s : State) (t : Table) (n first : Nat),
      s.readEntries t n first = (List.range' first n).flatMap fun i => s.readEntry t i)
    ∧ ∀ s : State,
      let w (n : Nat) : Word := BitVec.ofNat 32 n
      let z (x : Int) : Word := BitVec.ofInt 32 x
      let f (b : Bool) : Word := if b then 1 else 0
      let time (t : Option Time) : Word := t.getD 0
      let side (i : Fin 2) : Side := if i = 0 then .a else .b
      let lock : List LockState := [.search, .verify, .locked]
      let times : List TimeState := [.unset, .running, .slewing]
      let images : List ImageState := [.loading, .loaded, .loadedWithErrors, .absent, .bad]
      let destinations : List Destination := [.discard, .panelA, .panelB, .panelBoth, .audio, .sideband]
      let sources : List LineSource :=
        [.input, .level0, .level1, .received, .linkLock, .linkPass, .displayLocked, .frameStart, .strobeA, .powerNormal]
      let policies : List LossPolicy := [.hold, .default]
      let displays : List DisplayState := [.free, .pulling, .locked, .holdover]
      let schedules : List Schedule := [.idle, .awaiting, .starting, .running]
      let exposures : List ExpState := [.idle, .pending, .on]
      let scans : List ScanState := [.off, .waiting, .active, .blank]
      let strobes : List StrobeState := [.idle, .pending, .on, .held]
      let buses : List Bus := [.serial4, .twoWire]
      let busStates : List BusState := [.idle, .busy, .recovering, .fault]
      let kinds : List PollKind := [.imu6, .mag3, .prox, .raw]
      let axes : List Axis := [.x, .y, .z]
      let classes : List SensorClass := [.full, .reduced, .suspended]
      let playouts : List AudioState := [.stopped, .filling, .playing]
      let envelopes : List Envelope := [.flat, .rise, .fall]
      let powers : List PowerState := [.held, .normal, .constrained, .shed, .trip]
      let loads : List LoadState := [.off, .full, .reduced, .shed]
      let l := s.lrx
      let c := s.cfl
      let t := s.ftm
      let m := s.mou
      let a := s.auu
      let p := s.pmg
      let shifts (k : ShiftSide) : List Word := [w k.kx, w k.ky, w k.limX, w k.limY, f k.minusX, f k.minusY]
      let claims (g : Generator) (i : Fin 6) : Bool :=
        (g.inForce.enable && decide (g.inForce.line = i.val)) || (decide (g.state = .on) && decide (g.pulseLine = i.val))
      let pulses (g : Generator) (i : Fin 6) : Bool := decide (g.state = .on) && decide (g.pulseLine = i.val)
      let level (i : Fin 6) : Bool :=
        let x := s.stu.lines[i]
        if claims t.gens.a i || claims t.gens.b i then pulses t.gens.a i || pulses t.gens.b i
        else match x.source with
          | .input => s.stu.pins[i]
          | .level0 => false
          | .level1 => true
          | .received =>
            if s.stu.wordCurrent = false ∧ x.policy = .default then x.defaultLevel else s.stu.word.getLsbD x.bit
          | .linkLock => decide (l.lock = .locked)
          | .linkPass => l.pass
          | .displayLocked => decide (t.display = .locked)
          | .frameStart => x.pulse
          | .strobeA => decide (s.pxp.panels.a.strobe = .on)
          | .powerNormal => decide (p.state = .normal)
      let record : Option FrameRec → List Word
        | none => List.replicate 17 0
        | some r =>
          let g := r.angles.getD ⟨0, 0⟩
          let d := r.shifts.getD ⟨⟨0, 0⟩, ⟨0, 0⟩⟩
          [w r.number.toNat, w (([.opened, .evaluated, .scanning, .done] : List RecState).idxOf r.state + 1), r.start,
            time r.pose, time r.evalTime, z g.yaw, z g.pitch, z d.a.dx, z d.a.dy, z d.b.dx, z d.b.dy
            , w (bit r.flags.noPose * 1 + bit r.flags.poseAhead * 2 + bit r.flags.historyShort * 4 + bit r.flags.clamped * 8
              + bit r.flags.lateEval * 16 + bit r.flags.cutA * 32 + bit r.flags.cutB * 64 + bit r.flags.incomplete * 128)
            , w r.missing.a, w r.missing.b, w (r.strobe.a.getD 0), w (r.strobe.b.getD 0)
            , w (bit r.pose.isSome * 1 + bit r.evalTime.isSome * 2 + bit r.strobe.a.isSome * 4 + bit r.strobe.b.isSome * 8)]
      s.readEntry .identity 0 = [w 4410, w 1, w 18, w (images.idxOf c.state), w c.pass, w c.position, w c.version, w c.length,
          w c.applied, w c.adjusted, w c.skipped, w c.firstSkipped, f s.mrs.slot.isSome, f s.mrs.restartPending,
          w s.mrs.requestsTaken, w s.mrs.requestsDropped, w s.mrs.badPos]
        ∧ s.readEntry .link 0 = [w l.passThreshold, w l.linkDelay, w (lock.idxOf l.lock), f l.pass, w l.winCells, w l.winErrors,
          w (times.idxOf l.timeState), l.tt, w l.deficit, w l.faults, f l.testMode, w l.badHeaders, w l.badKinds,
          w l.badPayloads, w l.unlockedDiscards, w l.badSyncs, w l.targetsDropped, w l.testCells, w l.testBitErrors,
          w s.ltx.voiceDrops]
        ∧ (∀ i : Fin 8, s.readEntry .steering i = [f s.stu.written[i].enable, w s.stu.written[i].base, w s.stu.written[i].mask,
          w (destinations.idxOf s.stu.written[i].destination)])
        ∧ (∀ i : Fin 32,
          let x := s.stu.streams[i]
          s.readEntry .streamStatus i = [f x.tracking, w x.lastSeq.toNat, f x.gapPending, w x.goodCells, w x.gaps, w x.badPcrc,
            w x.unsteered, w x.kindMismatches])
        ∧ (∀ i : Fin 6,
          let x := s.stu.lines[i]
          s.readEntry .sideband i = [w (sources.idxOf x.source), w x.bit, w (policies.idxOf x.policy), f x.defaultLevel,
            f (level i), w (bit (claims t.gens.a i) + 2 * bit (claims t.gens.b i)), w s.stu.word.toNat, f s.stu.wordCurrent])
        ∧ s.readEntry .frameTimer 0 = [f t.written.linked, w t.written.period, w t.written.phaseStep, w t.written.lockWindow,
          w t.written.shiftLead, w (displays.idxOf t.display), w (schedules.idxOf t.schedule), w (t.scanFrame.getD 0).toNat,
          t.sNext, f t.renumber.isSome, z t.lastPhaseError, w t.frameStarts, w t.extraTargets]
        ∧ (∀ i : Fin 2,
          let g := t.gens.get (side i)
          s.readEntry .exposure i = [f g.written.enable, f g.written.aEnd, w g.written.offset, w g.written.width,
            w g.written.divider, w g.written.line, w (exposures.idxOf g.state), w g.pulses, w g.suppressed])
        ∧ (∀ i : Fin 2,
          let x := s.panel (side i)
          s.readEntry .panel i = [f x.written.enable, w x.written.width, w x.written.height, w x.written.linePeriod,
            f x.written.repeatFill, w x.written.brightness, w x.written.fullPower, w x.written.strobeOffset,
            w x.written.maxWidth, w (scans.idxOf x.scan), w x.ring.length, w x.ceiling, w (strobes.idxOf x.strobe),
            w x.missingLines, w x.earlyLines, w x.staleLines, w x.cutLines, w x.noScanLines, w x.malformedSlices,
            w x.noContextSlices, w x.orphanCells])
        ∧ s.readEntry .shift 0 = [f s.lsu.written.enable] ++ shifts s.lsu.written.sides.a ++ shifts s.lsu.written.sides.b
          ++ [w s.lsu.evaluations, w s.lsu.noPoseFrames, w s.lsu.poseAheadFrames, w s.lsu.shortHistoryFrames,
            w s.lsu.clampedFrames]
        ∧ s.readEntry .frameLog 0 = record t.upcoming ∧ s.readEntry .frameLog 1 = record t.scanning
        ∧ s.readEntry .frameLog 2 = record t.done
        ∧ (∀ i : Fin 8,
          let x := m.poll[i]
          let k := x.cfg
          s.readEntry .poll i = [f k.enable, w (buses.idxOf k.bus), w k.device, w k.startRegister, w k.length, f k.ready,
            w k.readyLine, w k.period, w k.decimate, w (kinds.idxOf k.kind), f k.big, f k.toFifo,
            f (decide (∃ q ∈ m.serial4.queue ++ m.twoWire.queue, q.entry = i)), w x.samples, w x.overruns, w x.errors,
            w x.late])
        ∧ s.readEntry .mount 0 = [w m.mountWritten.gain, w (axes.idxOf m.mountWritten.yaw.axis), f m.mountWritten.yaw.minus,
          w (axes.idxOf m.mountWritten.pitch.axis), f m.mountWritten.pitch.minus, w (axes.idxOf m.mountWritten.roll.axis),
          f m.mountWritten.roll.minus, w m.saturations]
        ∧ s.readEntry .motion 0 = [w m.watermark, w m.flushTimeout, w m.sensorPower, w (classes.idxOf m.sensorClass),
          w (busStates.idxOf m.serial4.state), w (busStates.idxOf m.twoWire.state),
          w (if m.relay = none then 0 else if m.relay.map Relay.phase = some .waiting then 1 else 2), w m.fifo.length,
          w m.history.length, w m.records, w m.fifoDrops, w m.flushed, w m.batches, w m.historyRejects, w m.recoveries,
          w m.recoveryFailures]
        ∧ s.readEntry .audio 0 = [w a.fillTarget, w a.volume, f a.mute, w a.ampPower, f a.micOn, w (playouts.idxOf a.state),
          w a.owner, w a.buffer.length, z a.servoF, w a.gain, w a.cap, w (if a.state = .stopped then 0 else a.ampPower),
          w a.blocks, w a.foreignBlocks, w a.lateBlocks, w a.malformedBlocks, w a.silenceBlocks, w a.gapFlushes, w a.overruns,
          w a.underruns, w a.idleStops, w a.micBlocks]
        ∧ (∀ i : Fin 48,
          let x := s.pte.steps[i]
          let step (n : Option (Fin 48)) : Word := w ((n.map Fin.val).getD 63)
          s.readEntry .pattern i = [w x.halfPeriod, w x.level, w (envelopes.idxOf x.envelope), w x.duration, step x.next,
            w s.pte.hapticPower, w s.pte.deadTime, step (s.pte.chanT.map Pattern.step), step (s.pte.chanH.map Pattern.step),
            w s.pte.capForce])
        ∧ (∀ i : Fin 8,
          let x := p.loads[i]
          s.readEntry .loads i = [w x.priority, w x.floor, f (if i = 7 then x.switch else decide (0 < x.request)),
            w (if i = 0 ∨ i = 1 ∨ i = 7 then 0 else if i = 6 then 2 else 1), w x.request, w x.grant,
            w (loads.idxOf x.state), w x.sheds])
        ∧ s.readEntry .power 0 = [w p.cfg.limit, w p.cfg.reserve, w p.cfg.vWarn, w p.cfg.vShed, w p.cfg.vTrip,
          w p.cfg.hysteresis, w p.cfg.iMax, f p.cfg.protect, w (powers.idxOf p.state), w p.budget, w p.latest.mv,
          w p.latest.ma, w p.filtered.mv, w p.filtered.ma, f p.hold, w p.trips, w p.currentHolds, w p.stateChanges]
        ∧ ∀ i : Fin 28,
          let x := s.evu.table[i]
          s.readEntry .events i = [f x.enable, w x.priority, f x.coalesce, w x.occurrences, w x.lost,
            w (s.evu.queue.countP fun n => decide (n.kind.code = i))]

/-- A WRITE that is refused stores nothing: a read-only table, a wrong number of words, a failed validation, or PROTECT, which
refuses every write of the power table and a write of the loads table that changes a floor. The word values are judged for
all entries before any is stored: each by its field's kind, a number and a flag being brought to the nearer end of its range,
an undefined code failing, and a read-only word being skipped; then the relations, on the values so clamped: no A_END in
EXPOSURE entry 0; in POLL a SERIAL4 device of 0 or 1 and a length that holds the kind's values; V_trip below V_shed below
V_warn; the two backlights of one write at one priority. -/
def Obligations.RefusedWriteStoresNothing : Prop :=
  (∀ (table : Byte) (t : Table) (r : Request) (s : State), s.serves r → Table.ofCode table.toNat = some t →
    r.count ≠ 0 → r.index.toNat + r.count.toNat ≤ t.entries →
    (t.readOnly = true → exec (.write table r) s = .next (s.answered table r .readOnly []))
      ∧ (t.readOnly = false → r.data.length ≠ r.count.toNat * t.fields →
          exec (.write table r) s = .next (s.answered table r .badLength []))
      ∧ (t.readOnly = false → r.data.length = r.count.toNat * t.fields → t = .power → s.pmg.cfg.protect = true →
          exec (.write table r) s = .next (s.answered table r .isProtected []))
      ∧ (t.readOnly = false → r.data.length = r.count.toNat * t.fields → t ≠ .power ∨ s.pmg.cfg.protect = false →
          validate t r.index.toNat r.count.toNat r.data = none →
          exec (.write table r) s = .next (s.answered table r .badValue []))
      ∧ (∀ es, t = .loads → r.data.length = r.count.toNat * t.fields → s.pmg.cfg.protect = true →
          validate t r.index.toNat r.count.toNat r.data = some es →
          (∃ e ∈ es, e.num 1 ≠ (s.pmg.loads[Fin.ofNat 8 e.entry]).floor) →
          exec (.write table r) s = .next (s.answered table r .isProtected [])))
    ∧ ∀ (t : Table) (first count : Nat) (words : List Word),
      let ro (n : Nat) : List FieldKind := List.replicate n .ro
      let on : FieldKind := .flag
      let panelShift : List FieldKind := [.num 0 65535, .num 0 65535, .num 0 64, .num 0 16, .upTo 1, .upTo 1]
      let kinds (entry : Nat) : List FieldKind := match t with
        | .identity => ro 17
        | .link => [.num 1 65535, .num 0 1000] ++ ro 18
        | .steering => [on, .num 0 31, .num 0 31, .upTo 5]
        | .streamStatus => ro 8
        | .sideband => [.upTo 9, .num 0 15, .upTo 1, on] ++ ro 4
        | .frameTimer => [.upTo 1, .num 4000 33333, .num 0 500, .num 0 500, .num 0 2000] ++ ro 8
        | .exposure => [on, .upTo 1, .num 0 33333, .num 1 10000, .num 1 4, .upTo 6] ++ ro 3
        | .panel => [on, .num 64 2560, .num 64 2560, .num 100 65535, .upTo 1, .num 0 1023, .num 0 5000, .num 0 33333,
            .num 0 10000] ++ ro 12
        | .shift => [on] ++ panelShift ++ panelShift ++ ro 5
        | .frameLog => ro 17
        | .poll => [on, .upTo 1, .num 0 127, .num 0 255, .num 1 16, .upTo 1, .num 0 5, .num 1 255, .num 1 16, .upTo 3, .upTo 1,
            on] ++ ro 5
        | .mount => [.num 1 65535, .upTo 2, .upTo 1, .upTo 2, .upTo 1, .upTo 2, .upTo 1] ++ ro 1
        | .motion => [.num 1 32, .num 100 20000, .num 0 2000] ++ ro 13
        | .audio => [.num 2 20, .num 0 32768, on, .num 0 2000, on] ++ ro 17
        | .pattern => [.num 1 2400, .num 0 255, .upTo 2, .num 1 4095, .next]
            ++ (if entry = 0 then [.num 0 2000, .num 1 8] else ro 2) ++ ro 3
        | .loads => [.num 0 7, .num 0 5000, if entry = 7 then on else .ro] ++ ro 5
        | .power => [.num 1000 15000, .num 0 2000, .num 3800 5500, .num 3800 5500, .num 3800 5500, .num 0 500, .num 100 3000,
            on] ++ ro 10
        | .events => [on, .num 0 3, on] ++ ro 3
      let fields := (kinds 0).length
      let kind (i j : Nat) : FieldKind := (kinds (first + i)).getD j .ro
      let word (i j : Nat) : Nat := (words.getD (i * fields + j) 0).toNat
      let value (i j : Nat) : Nat := match kind i j with
        | .num lo hi => if word i j < lo then lo else if hi < word i j then hi else word i j
        | .flag => if word i j = 0 then 0 else 1
        | .upTo _ => word i j
        | .next => word i j
        | .ro => 0
      let outside (i j : Nat) : Bool := match kind i j with
        | .num lo hi => decide (word i j < lo ∨ hi < word i j)
        | .flag => decide (1 < word i j)
        | .upTo _ => false
        | .next => false
        | .ro => false
      let undefined_ (i j : Nat) : Prop := match kind i j with
        | .num _ _ => False
        | .flag => False
        | .upTo last => last < word i j
        | .next => 47 < word i j ∧ word i j ≠ 63
        | .ro => False
      let breaks (i : Nat) : Prop :=
        (t = .exposure ∧ first + i = 0 ∧ value i 1 ≠ 0)
          ∨ (t = .poll ∧ ((value i 1 = 0 ∧ 1 < value i 2) ∨ (value i 9 = 0 ∧ value i 4 < 12) ∨ (value i 9 = 1 ∧ value i 4 < 6)))
          ∨ (t = .power ∧ ¬(value i 4 < value i 3 ∧ value i 3 < value i 2))
      let unequal : Prop := t = .loads ∧ ∃ i < count, i + 1 < count ∧ first + i = 2 ∧ value i 0 ≠ value (i + 1) 0
      t.fields = fields
        ∧ (validate t first count words = none ↔
          (∃ i < count, ∃ j < fields, undefined_ i j) ∨ (∃ i < count, breaks i) ∨ unequal)
        ∧ ∀ es, validate t first count words = some es → es = (List.range count).map fun i =>
          { entry := first + i, values := (List.range fields).map (value i), clamped := (List.range fields).any (outside i) }

/-- Each row WRITE_POWER to WRITE_PATTERN is the WRITE of its table. -/
def Obligations.WriteRowsAreWrites : Prop :=
  ∀ (r : Request) (s : State),
    exec (.writePower r) s = exec (.write 16 r) s ∧ exec (.writeLoads r) s = exec (.write 15 r) s
      ∧ exec (.writeSideband r) s = exec (.write 4 r) s ∧ exec (.writeFrameTimer r) s = exec (.write 5 r) s
      ∧ exec (.writePanel r) s = exec (.write 7 r) s ∧ exec (.writePoll r) s = exec (.write 10 r) s
      ∧ exec (.writeMotion r) s = exec (.write 12 r) s ∧ exec (.writeAudio r) s = exec (.write 13 r) s
      ∧ exec (.writePattern r) s = exec (.write 14 r) s

/-- Writes of one entry to the link, steering, side-band, frame timer, exposure, shift, mount and event tables: LINK is in force
at once; a window, a generator, the shift and the mount take their written values only; a line and an event entry take their
fields at once, a line keeping its FRAME_START pulse only with that source; the frame timer takes its written values, and a
write of mode FREE while AWAITING places frame 0 one written period from now. A write of several entries stores each in turn,
as the windows show, and any stored write is `State.store` over the judged entries, numbered from INDEX on, followed by its
reply: OK, or OK_ADJUSTED where a value was clamped. -/
def Obligations.WritesOfStreamAndTimerTables : Prop :=
  (∀ (r : Request) (s : State) (e : EntryValues) (cl : Bool), s.serves r → r.count = 1 →
    let st : Status := if cl then .okAdjusted else .ok
    let window (e : EntryValues) : Window :=
      { enable := e.flag 0, base := e.num 1, mask := e.num 2, destination := Destination.ofCode (e.num 3) }
    let side (k : Nat) : ShiftSide :=
      { kx := e.num k, ky := e.num (k + 1), limX := e.num (k + 2), limY := e.num (k + 3), minusX := e.flag (k + 4)
        minusY := e.flag (k + 5) }
    (r.index = 0 → s.judgeWrite .link 0 1 r.data = .store [e] cl →
        exec (.write 1 r) s = .next { s.answered 1 r st [] with
          lrx := { s.lrx with passThreshold := e.num 0, linkDelay := e.num 1 } })
      ∧ (∀ i : Fin 8, r.index.toNat = i.val → s.judgeWrite .steering i.val 1 r.data = .store [e] cl →
        exec (.write 2 r) s = .next { s.answered 2 r st [] with
          stu := { s.stu with written := s.stu.written.set i (window e) } })
      ∧ (∀ i : Fin 6, r.index.toNat = i.val → s.judgeWrite .sideband i.val 1 r.data = .store [e] cl →
        let t : State := { s.answered 4 r st [] with
          stu := { s.stu with lines := tabMod s.stu.lines i fun l =>
            { source := LineSource.ofCode (e.num 0), bit := e.num 1, policy := LossPolicy.ofCode (e.num 2)
              defaultLevel := e.flag 3
              pulse := l.pulse && decide (LineSource.ofCode (e.num 0) = .frameStart) } } }
        exec (.writeSideband r) s = .next (t.handEdges s.levels t.levels))
      ∧ (r.index = 0 → s.judgeWrite .frameTimer 0 1 r.data = .store [e] cl →
        s.ftm.schedule ≠ .awaiting ∨ e.flag 0 = true →
        exec (.writeFrameTimer r) s = .next { s.answered 5 r st [] with ftm := { s.ftm with written := e.ftCfg } })
      ∧ (r.index = 0 → s.judgeWrite .frameTimer 0 1 r.data = .store [e] cl →
        s.ftm.schedule = .awaiting → e.flag 0 = false →
        exec (.writeFrameTimer r) s = .next { s.answered 5 r st [] with ftm := { s.ftm with
          written := e.ftCfg, schedule := .starting, sNext := s.lrx.tt + BitVec.ofNat 32 (e.num 1)
          upcoming := some (FrameRec.fresh 0 (s.lrx.tt + BitVec.ofNat 32 (e.num 1))) } })
      ∧ (∀ g : Side, r.index = (if g = .a then 0 else 1) →
        s.judgeWrite .exposure r.index.toNat 1 r.data = .store [e] cl →
        exec (.write 6 r) s = .next { s.answered 6 r st [] with
          ftm := { s.ftm with gens := s.ftm.gens.modify g fun x => { x with written :=
            { enable := e.flag 0, aEnd := e.flag 1, offset := e.num 2, width := e.num 3, divider := e.num 4
              line := e.num 5 } } } })
      ∧ (r.index = 0 → s.judgeWrite .shift 0 1 r.data = .store [e] cl →
        exec (.write 8 r) s = .next { s.answered 8 r st [] with
          lsu := { s.lsu with written := { enable := e.flag 0, sides := ⟨side 1, side 7⟩ } } })
      ∧ (r.index = 0 → s.judgeWrite .mount 0 1 r.data = .store [e] cl →
        exec (.write 11 r) s = .next { s.answered 11 r st [] with mou := { s.mou with mountWritten := e.mountCfg } })
      ∧ (∀ i : Fin 28, r.index.toNat = i.val → s.judgeWrite .events i.val 1 r.data = .store [e] cl →
        exec (.write 17 r) s = .next { s.answered 17 r st [] with
          evu := { s.evu with table := tabMod s.evu.table i fun x => { x with
            enable := e.flag 0, priority := e.num 1, coalesce := e.flag 2 } } }))
    ∧ ∀ (table : Byte) (t : Table) (r : Request) (s : State) (es : List EntryValues) (cl : Bool), s.serves r →
      Table.ofCode table.toNat = some t → r.count ≠ 0 → r.index.toNat + r.count.toNat ≤ t.entries →
      s.judgeWrite t r.index.toNat r.count.toNat r.data = .store es cl →
      let st : Status := if cl then .okAdjusted else .ok
      let window (e : EntryValues) : Window :=
        { enable := e.flag 0, base := e.num 1, mask := e.num 2, destination := Destination.ofCode (e.num 3) }
      let taken (s : State) : State := { s with mrs := { s.mrs with requestsTaken := satInc s.mrs.requestsTaken } }
      es.map EntryValues.entry = List.range' r.index.toNat r.count.toNat
        ∧ exec (.write table r) s = .next (s.edged fun s =>
          let u := (taken s).store t es
          { u with ltx := { u.ltx with reply := u.ltx.reply ++ [
            { tag := r.tag, status := st, table := table, count := r.count, index := r.index, data := []
              restart := false }] } })
        ∧ (t = .steering → exec (.write table r) s = .next { s.answered table r st [] with
          stu := { s.stu with written := es.foldl (fun v e => v.set (Fin.ofNat 8 e.entry) (window e)) s.stu.written } })

/-- Writes of one entry to the panel, poll, motion, audio and pattern tables store the judged values, which the power manager
follows with one allocation where a request or a power changed (log entries 14 and 46), so that a derived value whose full,
amp or haptic power changed is formed afresh; the reply is OK or OK_ADJUSTED, and the link receiver, the steering unit, the
loader and the late shift unit are untouched. A POLL store that makes an entry PERIODIC starts its due schedule, one that ends
that stops it; one that makes it READY or moves it to another line takes its edge count to 0; a queued entry that is switched
off leaves its queue, and one given to the other bus takes its place by its trigger in the queue of that bus (by the
oscillator count of the trigger: log entry 33), marked late where a relay is on it, starts where the bus is idle, on TWO_WIRE
with a line check first (log entries 8 and 24), and goes where it is in FAULT. A MOTION store judges the batch condition (the
record's age by log entry 43). An AUDIO store with the fill reached makes FILLING PLAYING, and one that switches the
microphone discards the block being built. -/
def Obligations.WritesOfUnitTables : Prop :=
  ∀ (r : Request) (s : State) (e : EntryValues) (cl : Bool), s.serves r → r.count = 1 →
    let kept (t : State) : Prop :=
      { t with mrs := s.mrs, ltx := s.ltx, ftm := s.ftm, pxp := s.pxp, mou := s.mou, auu := s.auu, pte := s.pte
               pmg := s.pmg, evu := s.evu } = s
    let replied (t : State) (table : Byte) : Prop :=
      t.mrs = (s.answered table r (if cl then .okAdjusted else .ok) []).mrs
        ∧ t.ltx.reply = (s.answered table r (if cl then .okAdjusted else .ok) []).ltx.reply
    let value (s : State) (grant divisor top : Nat) : Nat :=
      if s.pmg.state = .held ∨ s.pmg.state = .trip then 0 else if divisor = 0 then top else min top (grant * top / divisor)
    (∀ p : Side, r.index = (if p = .a then 0 else 1) →
        s.judgeWrite .panel r.index.toNat 1 r.data = .store [e] cl →
        ∃ t, exec (.writePanel r) s = .next t ∧ (t.panel p).written = e.panelCfg ∧ replied t 7 ∧ kept t
          ∧ t.requestChanged = false
          ∧ ((s.panel p).written.fullPower ≠ e.num 6 →
            t.pmg.ceilings.get p = value s (t.pmg.loads[if p = .a then (2 : Fin 8) else 3]).grant (e.num 6) 1023))
      ∧ (∀ i : Fin 8, r.index.toNat = i.val → s.judgeWrite .poll i.val 1 r.data = .store [e] cl →
        ∃ t, exec (.writePoll r) s = .next t ∧ t.mou.poll[i].cfg = e.pollCfg ∧ replied t 10 ∧ kept t
          ∧ t.requestChanged = false)
      ∧ (r.index = 0 → s.judgeWrite .motion 0 1 r.data = .store [e] cl →
        ∃ t, exec (.writeMotion r) s = .next t ∧ t.mou.watermark = e.num 0 ∧ t.mou.flushTimeout = e.num 1
          ∧ t.mou.sensorPower = e.num 2 ∧ replied t 12 ∧ kept t ∧ t.requestChanged = false
          ∧ ((∀ x ∈ s.mou.fifo, x.payload.length ≤ 16) →
            let due (q : List SensorRec) : Prop :=
              e.num 0 ≤ q.length ∨ ∃ x, q.head? = some x ∧ x.joined + usTicks (e.num 1) ≤ s.osc
            ∃ n cells, t.mou.fifo = s.mou.fifo.drop n ∧ t.ltx.motion = s.ltx.motion ++ cells
              ∧ cells.flatten = (s.mou.fifo.take n).flatMap SensorRec.bytes ∧ (∀ c ∈ cells, c.length ≤ 96)
              ∧ (¬ due s.mou.fifo → n = 0 ∧ cells = [])
              ∧ (due s.mou.fifo → s.mou.fifo ≠ [] → s.ltx.motion.length < 8 → 0 < n)
              ∧ (¬ due t.mou.fifo ∨ t.mou.fifo = [] ∨ 8 ≤ t.ltx.motion.length)))
      ∧ (r.index = 0 → s.judgeWrite .audio 0 1 r.data = .store [e] cl →
        ∃ t, exec (.writeAudio r) s = .next t ∧ t.auu.fillTarget = e.num 0 ∧ t.auu.volume = e.num 1
          ∧ t.auu.mute = e.flag 2 ∧ t.auu.ampPower = e.num 3 ∧ t.auu.micOn = e.flag 4 ∧ replied t 13 ∧ kept t
          ∧ t.requestChanged = false
          ∧ t.auu = { s.auu with
            fillTarget := e.num 0, volume := e.num 1, mute := e.flag 2, ampPower := e.num 3, micOn := e.flag 4
            micDue := s.auu.micDue && decide (s.auu.micOn = e.flag 4)
            mic := if s.auu.micOn = e.flag 4 then s.auu.mic else none
            state := if s.auu.state = .filling ∧ e.num 0 ≤ s.auu.buffer.length then .playing else s.auu.state
            cap := t.auu.cap }
          ∧ (s.auu.ampPower ≠ e.num 3 → t.auu.cap = value s t.pmg.loads[4].grant (e.num 3) 32768))
      ∧ (∀ i : Fin 48, r.index.toNat = i.val →
        s.judgeWrite .pattern i.val 1 r.data = .store [e] cl →
        ∃ t, exec (.writePattern r) s = .next t ∧ t.pte.steps = s.pte.steps.set i e.step
          ∧ t.pte.hapticPower = (if i = 0 then e.num 5 else s.pte.hapticPower)
          ∧ t.pte.deadTime = (if i = 0 then e.num 6 else s.pte.deadTime) ∧ replied t 14 ∧ kept t
          ∧ t.requestChanged = false
          ∧ (i = 0 → s.pte.hapticPower ≠ e.num 5 → t.pte.capHanded = value s t.pmg.loads[5].grant (e.num 5) 255))
      ∧ ∀ i : Fin 8, r.index.toNat = i.val → s.judgeWrite .poll i.val 1 r.data = .store [e] cl →
        let c := e.pollCfg
        let x := s.mou.poll[i]
        let periodic (k : PollCfg) : Prop := k.enable = true ∧ k.ready = false
        let ready (k : PollCfg) : Prop := k.enable = true ∧ k.ready = true
        let y : PollEntry := { x with
          cfg := c
          periodForce := if periodic c ∧ ¬ periodic x.cfg then c.period else x.periodForce
          dueAt := if periodic c then
              (if periodic x.cfg then x.dueAt
               else some (s.osc + c.period * 6144 * if s.mou.sensorClass = .reduced then 2 else 1))
            else none
          edgeCount := if ready c ∧ (¬ ready x.cfg ∨ x.cfg.readyLine ≠ c.readyLine) then 0 else x.edgeCount }
        let a := s.answered 10 r (if cl then .okAdjusted else .ok) []
        let becomes (y : PollEntry) (m : Mou) : Prop :=
          exec (.writePoll r) s = .next { ({ s with mou := { m with poll := tabMod s.mou.poll i fun _ => y } } : State).refreshLoads
            with ltx := a.ltx, mrs := a.mrs }
        let out (b : BusCtl) : BusCtl := { b with queue := b.queue.filter fun q => decide (q.entry ≠ i) }
        let freed : Mou := { s.mou with serial4 := out s.mou.serial4, twoWire := out s.mou.twoWire }
        let queued := (s.mou.serial4.queue ++ s.mou.twoWire.queue).find? fun q => decide (q.entry = i)
        (c.enable = false → becomes y freed)
          ∧ (c.enable = true → x.cfg.bus = c.bus ∨ queued = none → becomes y s.mou)
          ∧ (c.enable = true → x.cfg.bus ≠ c.bus → queued ≠ none → (s.bus c.bus).state = .fault → becomes y freed)
          ∧ ∀ q, c.enable = true → x.cfg.bus ≠ c.bus → queued = some q →
            let relays : Prop := ∃ k, s.mou.relay = some k ∧ k.bus = c.bus
            let moved : Queued := { q with late := q.late || decide relays }
            let earlier (p q : Queued) : Prop := p.stamp < q.stamp ∨ (p.stamp = q.stamp ∧ p.entry < q.entry)
            let place (l n : List Queued) (b : BusCtl) : BusCtl := { out b with queue := l ++ moved :: n }
            let counted : PollEntry := { y with late := satAdd y.late (bit moved.late) }
            (∀ l n, (s.bus c.bus).state = .busy ∨ (s.bus c.bus).state = .recovering → (out (s.bus c.bus)).queue = l ++ n →
              (∀ p ∈ l, ¬ earlier moved p) → (∀ p, n.head? = some p → earlier moved p) →
              becomes y (match c.bus with
                | .serial4 => { freed with serial4 := place l n s.mou.serial4 }
                | .twoWire => { freed with twoWire := place l n s.mou.twoWire }))
              ∧ (c.bus = .serial4 → s.mou.serial4.state = .idle → s.mou.relay = none → s.mou.serial4.queue = [] →
                becomes counted { freed with
                  serial4 := { s.mou.serial4 with state := .busy, poll := some ⟨moved, c⟩ } })
              ∧ (c.bus = .twoWire → s.mou.twoWire.state = .idle → s.mou.relay = none → s.mou.twoWire.queue = [] →
                s.mou.twoWire.recPending = none → becomes { counted with
                    errors := if s.dataLow = true then satInc y.errors else y.errors } { freed with
                  lineSamples := s.mou.lineSamples + 1
                  twoWire := if s.dataLow = true then
                      { s.mou.twoWire with
                        state := .recovering, poll := none, recovery := some ⟨.lineLow, false⟩, recPending := none
                        retryAt := none }
                    else { s.mou.twoWire with state := .busy, poll := some ⟨moved, c⟩ } })

/-- A WRITE of the power table puts its values in force; the power state is judged again from the measurements held, TRIP by
the latest one, then the ladder by the filtered voltage, while HELD and TRIP stay; the budget is that of the new values in
the power state they give. A WRITE of one load stores its priority and floor, and one of a backlight gives both backlights
its priority. -/
def Obligations.WritesOfPowerTables : Prop :=
  ∀ (r : Request) (s : State) (e : EntryValues) (cl : Bool), s.serves r → r.count = 1 →
    let kept (t : State) : Prop :=
      { t with mrs := s.mrs, ltx := s.ltx, ftm := s.ftm, pxp := s.pxp, mou := s.mou, auu := s.auu, pte := s.pte
               pmg := s.pmg, evu := s.evu } = s
    (r.index = 0 → s.judgeWrite .power 0 1 r.data = .store [e] cl →
        ∃ t, exec (.writePower r) s = .next t ∧ t.pmg.cfg = e.powerCfg
          ∧ t.pmg.state = (if s.pmg.state = .held ∨ s.pmg.state = .trip then s.pmg.state
            else if s.pmg.latest.mv < e.num 4 then .trip
            else ladder e.powerCfg s.pmg.hold s.pmg.state s.pmg.filtered.mv)
          ∧ t.pmg.budget = budgetOf e.powerCfg t.pmg.state
          ∧ t.ltx = (s.answered 16 r (if cl then .okAdjusted else .ok) []).ltx ∧ kept t)
      ∧ (∀ i : Fin 8, r.index.toNat = i.val → s.judgeWrite .loads i.val 1 r.data = .store [e] cl →
        ∃ t, exec (.writeLoads r) s = .next t ∧ t.pmg.loads[i].priority = e.num 0 ∧ t.pmg.loads[i].floor = e.num 1
          ∧ (i = 2 ∨ i = 3 → t.pmg.loads[2].priority = e.num 0 ∧ t.pmg.loads[3].priority = e.num 0)
          ∧ (i = 7 → t.pmg.loads[7].switch = e.flag 2)
          ∧ t.pmg.state = s.pmg.state ∧ t.pmg.budget = s.pmg.budget ∧ t.requestChanged = false
          ∧ t.ltx = (s.answered 15 r (if cl then .okAdjusted else .ok) []).ltx ∧ kept t)

/-- CLEAR of one entry sets its counters to 0 and changes no other field; the reply is OK with no data. A table without counters
is left as it is. -/
def Obligations.ClearZeroesCounters : Prop :=
  ∀ (table : Byte) (r : Request) (s : State), s.serves r → r.count = 1 →
    let a := s.answered table r .ok []
    (r.index = 0 →
        (table = 0 → exec (.clear table r) s = .next { a with
          mrs := { a.mrs with requestsTaken := 0, requestsDropped := 0, badPos := 0 } })
        ∧ (table = 1 → exec (.clear table r) s = .next { a with
          lrx := { s.lrx with badHeaders := 0, badKinds := 0, badPayloads := 0, unlockedDiscards := 0, badSyncs := 0
                              targetsDropped := 0, testCells := 0, testBitErrors := 0 }
          ltx := { a.ltx with voiceDrops := 0 } })
        ∧ (table = 5 → exec (.clear table r) s = .next { a with
          ftm := { s.ftm with frameStarts := 0, extraTargets := 0 } })
        ∧ (table = 8 → exec (.clear table r) s = .next { a with
          lsu := { s.lsu with evaluations := 0, noPoseFrames := 0, poseAheadFrames := 0, shortHistoryFrames := 0
                              clampedFrames := 0 } })
        ∧ (table = 11 → exec (.clear table r) s = .next { a with mou := { s.mou with saturations := 0 } })
        ∧ (table = 12 → exec (.clear table r) s = .next { a with
          mou := { s.mou with records := 0, fifoDrops := 0, flushed := 0, batches := 0, historyRejects := 0
                              recoveries := 0, recoveryFailures := 0 } })
        ∧ (table = 13 → exec (.clear table r) s = .next { a with
          auu := { s.auu with blocks := 0, foreignBlocks := 0, lateBlocks := 0, malformedBlocks := 0, silenceBlocks := 0
                              gapFlushes := 0, overruns := 0, underruns := 0, idleStops := 0, micBlocks := 0 } })
        ∧ (table = 16 → exec (.clear table r) s = .next { a with
          pmg := { s.pmg with trips := 0, currentHolds := 0, stateChanges := 0 } }))
      ∧ (∀ i : Fin 32, r.index.toNat = i.val → table = 3 → exec (.clear table r) s = .next { a with
          stu := { s.stu with streams := tabMod s.stu.streams i fun e => { e with
            goodCells := 0, gaps := 0, badPcrc := 0, unsteered := 0, kindMismatches := 0 } } })
      ∧ (∀ g : Side, r.index = (if g = .a then 0 else 1) →
          (table = 6 → exec (.clear table r) s = .next { a with
            ftm := { s.ftm with gens := s.ftm.gens.modify g fun x => { x with pulses := 0, suppressed := 0 } } })
          ∧ (table = 7 → exec (.clear table r) s = .next { a with
            pxp := { s.pxp with panels := s.pxp.panels.modify g fun x => { x with
              missingLines := 0, earlyLines := 0, staleLines := 0, cutLines := 0, noScanLines := 0, malformedSlices := 0
              noContextSlices := 0, orphanCells := 0 } } }))
      ∧ (∀ i : Fin 8, r.index.toNat = i.val →
          (table = 10 → exec (.clear table r) s = .next { a with
            mou := { s.mou with poll := tabMod s.mou.poll i fun p => { p with
              samples := 0, overruns := 0, errors := 0, late := 0 } } })
          ∧ (table = 15 → exec (.clear table r) s = .next { a with
            pmg := { s.pmg with loads := tabMod s.pmg.loads i fun l => { l with sheds := 0 } } }))
      ∧ (∀ i : Fin 28, r.index.toNat = i.val → table = 17 → exec (.clear table r) s = .next { a with
          evu := { s.evu with table := tabMod s.evu.table i fun x => { x with occurrences := 0, lost := 0 } } })
      ∧ ((table = 2 ∧ r.index.toNat < 8) ∨ (table = 4 ∧ r.index.toNat < 6) ∨ (table = 9 ∧ r.index.toNat < 3)
          ∨ (table = 14 ∧ r.index.toNat < 48) → exec (.clear table r) s = .next a)

/-- RESTART is answered OK, with a reply that is marked as its own, and the restart is pending; with data words it is
BAD_LENGTH. -/
def Obligations.RestartIsAnsweredAndPending : Prop :=
  ∀ (r : Request) (s : State), s.serves r →
    (r.data = [] → exec (.restart r) s = .next { s with
        mrs := { s.mrs with requestsTaken := satInc s.mrs.requestsTaken, restartPending := true }
        ltx := { s.ltx with reply := s.ltx.reply ++ [
          { tag := r.tag, status := .ok, table := 0, count := r.count, index := r.index, data := [], restart := true }] } })
      ∧ (r.data ≠ [] → exec (.restart r) s = .next (s.answered 0 r .badLength []))

/-- A RELAY whose arguments pass: with the slot TAKEN it is BUSY, with its bus in FAULT it is BUS_ERROR, and otherwise it takes
the slot with its timeout and no reply. On a bus at work it waits and every entry queued there is late; on an idle SERIAL4
it runs at once in its first phase; on an idle TWO_WIRE it runs when the data line is high, and when it is low a recovery
for it begins. The level of the data line is a free value, one for each sampling, which lineSamples counts: log entry 8. -/
def Obligations.RelayTakesSlot : Prop :=
  ∀ (r : Request) (s : State), s.serves r → 3 ≤ r.data.length → reqArg r 2 ≤ 16 →
    r.data.length = 6 + (reqArg r 2 + 3) / 4 → relayArgs r = true →
    let b := if reqArg r 0 = 0 then Bus.serial4 else Bus.twoWire
    let first := if 0 < reqArg r 2 then RelayPhase.write else if 0 < reqArg r 3 then .read else .probe
    let relay (ph : RelayPhase) : Relay :=
      { bus := b, device := reqArg r 1, writeBytes := (bytesOf (r.data.drop 6)).take (reqArg r 2), readLen := reqArg r 3
        waitAfter := reqArg r 4, phase := ph, waitEnd := 0 }
    let taken (m : Mou) : State :=
      { s with
        mou := m
        mrs := { s.mrs with
          requestsTaken := satInc s.mrs.requestsTaken
          slot := some { tag := r.tag, count := r.count, index := r.index, readLen := reqArg r 3
                         deadline := s.osc + reqArg r 5 * 24576 } } }
    let late (c : BusCtl) : BusCtl := { c with queue := c.queue.map fun q => { q with late := true } }
    (s.mrs.slot.isSome = true → exec (.relay r) s = .next (s.answered 1 r .busy []))
      ∧ (s.mrs.slot = none → (s.bus b).state = .fault → exec (.relay r) s = .next (s.answered 1 r .busError []))
      ∧ (s.mrs.slot = none → b = .serial4 → s.mou.serial4.state = .idle →
          exec (.relay r) s = .next (taken { s.mou with
            relay := some (relay first), serial4 := { late s.mou.serial4 with state := .busy } }))
      ∧ (s.mrs.slot = none → b = .serial4 → s.mou.serial4.state = .busy ∨ s.mou.serial4.state = .recovering →
          exec (.relay r) s = .next (taken { s.mou with relay := some (relay .waiting), serial4 := late s.mou.serial4 }))
      ∧ (s.mrs.slot = none → b = .twoWire → s.mou.twoWire.state = .busy ∨ s.mou.twoWire.state = .recovering →
          exec (.relay r) s = .next (taken { s.mou with relay := some (relay .waiting), twoWire := late s.mou.twoWire }))
      ∧ (s.mrs.slot = none → b = .twoWire → s.mou.twoWire.state = .idle → s.mou.twoWire.recPending = none →
          exec (.relay r) s = .next (taken { s.mou with
            relay := some (relay first)
            twoWire := if s.dataLow = true then
                { late s.mou.twoWire with
                  state := .recovering, poll := none, recovery := some ⟨.lineLow, true⟩, recPending := none, retryAt := none }
              else { late s.mou.twoWire with state := .busy }
            lineSamples := s.mou.lineSamples + 1 }))

/-- BUS_RECOVER, answered OK: on an IDLE or FAULT TWO_WIRE a recovery with cause COMMAND starts at once, in FAULT also where one
is pending already, on a BUSY one it is pending unless one is pending already (both: log entry 17), on a RECOVERING one and on
SERIAL4 nothing is done. FIFO_FLUSH empties
the sample FIFO and counts its records. -/
def Obligations.BusRecoverAndFifoFlush : Prop :=
  ∀ (r : Request) (s : State), s.serves r →
    let wired (c : BusCtl) : State := { s.answered 2 r .ok [] with mou := { s.mou with twoWire := c } }
    (∀ w, r.data = [w] → w = 0 → exec (.busRecover r) s = .next (s.answered 2 r .ok []))
      ∧ (∀ w, r.data = [w] → w = 1 → s.mou.twoWire.state = .idle ∨ s.mou.twoWire.state = .fault →
          exec (.busRecover r) s = .next (wired { s.mou.twoWire with
            state := .recovering, poll := none, recovery := some ⟨.command, false⟩, recPending := none, retryAt := none }))
      ∧ (∀ w, r.data = [w] → w = 1 → s.mou.twoWire.state = .busy → exec (.busRecover r) s = .next
          (wired { s.mou.twoWire with recPending := some (s.mou.twoWire.recPending.getD .command) }))
      ∧ (∀ w, r.data = [w] → w = 1 → s.mou.twoWire.state = .recovering →
          exec (.busRecover r) s = .next (s.answered 2 r .ok []))
      ∧ (r.data = [] → exec (.fifoFlush r) s = .next { s.answered 3 r .ok [] with
          mou := { s.mou with fifo := [], flushed := satAdd s.mou.flushed s.mou.fifo.length } })

/-- TEST_START turns test mode on, also when it is on already, and sets its two counters to 0; TEST_STOP turns it off and leaves
the counters. Test mode is off after power-on reset and RESTART, and a header judgement that leaves LOCKED does not change
it. -/
def Obligations.TestModeFollowsCommands : Prop :=
  (∀ (r : Request) (s : State), s.serves r → r.data = [] →
      exec (.testStart r) s = .next { s.answered 7 r .ok [] with
        lrx := { s.lrx with testMode := true, testCells := 0, testBitErrors := 0 } }
      ∧ exec (.testStop r) s = .next { s.answered 8 r .ok [] with lrx := { s.lrx with testMode := false } })
    ∧ (∀ (c : ResetCause) (s : State), s.held = true →
      ∃ t, exec (.powerOnResetEnds c) s = .next t ∧ t.lrx.testMode = false)
    ∧ (∀ s : State, s.held = false → s.restartSent = true →
      ∃ t, exec .restartTakesEffect s = .next t ∧ t.lrx.testMode = false)
    ∧ ∀ (b0 b1 b2 b3 : Byte) (s : State), s.held = false → s.lrx.lock = .locked →
      ∃ t, exec (.headerJudgement b0 b1 b2 b3) s = .next t ∧ t.lrx.testMode = s.lrx.testMode

/-- AUDIO_RESTART and the idle timer's expiry both stop audio: buffer flushed, no block in playout, owner 0, the timer stopped,
and the gain and the settings kept. AUDIO_RESTART sets F to 0; the expiry keeps F and counts an idle stop. While STOPPED with
nothing buffered AUDIO_RESTART sets F to 0 and changes nothing else. -/
def Obligations.AudioStops : Prop :=
  (∀ (r : Request) (s : State), s.serves r → r.data = [] →
      ∃ t, exec (.audioRestart r) s = .next t
        ∧ (∃ cap, t.auu = { s.auu with
            state := .stopped, buffer := [], playout := none, owner := 0, idleAt := none, servoF := 0, cap := cap })
        ∧ t.requestChanged = false ∧ t.ltx = (s.answered 4 r .ok []).ltx ∧ t.mrs = (s.answered 4 r .ok []).mrs
        ∧ { t with auu := s.auu, ltx := s.ltx, mrs := s.mrs, pmg := s.pmg, evu := s.evu, pte := s.pte, mou := s.mou
                   pxp := s.pxp, ftm := s.ftm } = s)
    ∧ (∀ (r : Request) (s : State), s.serves r → r.data = [] → s.auu.state = .stopped → s.auu.buffer = [] →
      s.auu.playout = none → s.auu.owner = 0 → s.auu.idleAt = none → s.requestChanged = false →
      exec (.audioRestart r) s = .next { s.answered 4 r .ok [] with auu := { s.auu with servoF := 0 } })
    ∧ ∀ s : State, s.held = false → s.idleExpired = true →
      ∃ t, exec .idleTimerExpiry s = .next t
        ∧ (∃ cap, t.auu = { s.auu with
            state := .stopped, buffer := [], playout := none, owner := 0, idleAt := none
            idleStops := satInc s.auu.idleStops, cap := cap })
        ∧ t.requestChanged = false
        ∧ { t with auu := s.auu, pmg := s.pmg, evu := s.evu, pte := s.pte, mou := s.mou, pxp := s.pxp, ftm := s.ftm } = s

/-- PLAY on a channel that plays a pattern of higher priority is BUSY and changes nothing. Otherwise the pattern that plays
ends PREEMPTED with PATTERN_DONE, and the new one begins its first step with one step begun and the rest of its budget left.
On channel H the bridge drives unless it is HELD, the displaced pattern's outputs are low, and, where its polarity was
NEGATIVE, the new pattern's POSITIVE is a reversal: the dead time in force runs from now. The on-time of the carrier period in
progress stays as fixed, and a dead time in progress that no reversal replaces runs on (log entry 31). The load requests are
brought up to date (with haptic power 0 that is no change: log entry 46). The tone channel has no power request, so on channel
T nothing else changes. -/
def Obligations.PlayStartsPattern : Prop :=
  ∀ (r : Request) (s : State) (c : Channel) (n : Fin 48), s.serves r → r.data.length = 4 → playArgs r = true →
    reqArg r 0 = (if c = .t then 0 else 1) → reqArg r 1 = n.val →
    let x := s.pte.steps[n]
    let begun : Pattern :=
      { priority := reqArg r 2, budgetLeft := reqArg r 3 - 1, stepsBegun := 1, step := n, copy := x, elapsed := 0
        level := envelopeLevel x 0, negative := false, began := s.osc, reversed := s.osc }
    let reported : Evu := match s.pte.chan c with
      | none => s.evu
      | some p => s.evu.take .patternDone (patternDetail c .preempted p) s.now s.timeUnset
    ((∃ p, s.pte.chan c = some p ∧ reqArg r 2 < p.priority) → exec (.play r) s = .next (s.answered 5 r .busy []))
      ∧ ((∀ p, s.pte.chan c = some p → p.priority ≤ reqArg r 2) → c = .t → s.requestChanged = false →
        exec (.play r) s = .next { s.answered 5 r .ok [] with pte := { s.pte with chanT := some begun }, evu := reported })
      ∧ ((∀ p, s.pte.chan c = some p → p.priority ≤ reqArg r 2) → c = .h →
        let a := s.answered 5 r .ok []
        let freed : Pte := match s.pte.chanH with
          | none => s.pte
          | some p => { s.pte with
            hp := false, hn := false
            deadEnd := if p.negative = true then some (s.osc + usTicks s.pte.deadTime) else s.pte.deadEnd }
        let placed : State := { s with
          mrs := a.mrs, evu := reported
          pte := { freed with chanH := some begun, bridge := if s.pte.bridge = .held then .held else .driving } }
        exec (.play r) s = .next { placed.refreshLoads with ltx := a.ltx }
          ∧ ({ placed.refreshLoads with ltx := a.ltx } : State).requestChanged = false)

/-- STOP, answered OK: on an IDLE channel nothing happens; a pattern that plays ends with reason STOPPED. On channel H both
outputs are low, the on-time is over, the bridge is IDLE unless it is HELD, and the load requests are brought up to date (with
haptic power 0 that is no change: log entry 46); a dead time in progress runs on (log entry 31). -/
def Obligations.StopEndsPattern : Prop :=
  ∀ (r : Request) (s : State) (c : Channel) (w : Word), s.serves r → r.data = [w] → w = (if c = .t then 0 else 1) →
    let a := s.answered 6 r .ok []
    (s.pte.chan c = none → s.requestChanged = false → exec (.stop r) s = .next a)
      ∧ (∀ p, s.pte.chan c = some p → c = .t → s.requestChanged = false → exec (.stop r) s = .next { a with
          pte := { s.pte with chanT := none }
          evu := s.evu.take .patternDone (patternDetail .t .stopped p) s.now s.timeUnset })
      ∧ (∀ p, s.pte.chan c = some p → c = .h →
        let ended : State := { s with
          mrs := a.mrs
          pte := { s.pte with
            chanH := none, hp := false, hn := false, onLevel := 0
            bridge := if s.pte.bridge = .held then .held else .idle }
          evu := s.evu.take .patternDone (patternDetail .h .stopped p) s.now s.timeUnset }
        exec (.stop r) s = .next { ended.refreshLoads with ltx := a.ltx }
          ∧ ({ ended.refreshLoads with ltx := a.ltx } : State).requestChanged = false)

/-! ### The loader (3.9) -/

/-- The loader in pass 1: a header with the marker and a length of 1 to 4096 goes on to the body; without the marker the
image is ABSENT, with another length BAD, and loading has ended. A body whose check, formed as PCRC is (log entry 52),
matches goes on to pass 2 from position 0; one that does not is BAD. At the end of loading IMAGE_STATUS is raised, the power
state makes its choice from the measurements held, if it is HELD with one taken, and the schedule leaves IDLE: for AWAITING
in mode LINKED, else for STARTING. The order of the three is the model's choice: log entry 16. -/
def Obligations.ImageHeaderAndBodyAreJudged : Prop :=
  ∀ s : State, s.held = false → s.cfl.state = .loading → s.cfl.pass = 1 →
    let p := s.pmg
    let choice : PowerState :=
      if p.latest.mv < p.cfg.vTrip then .trip
      else if p.hold = true then .shed
      else if p.cfg.vWarn ≤ p.filtered.mv then .normal
      else if p.cfg.vShed ≤ p.filtered.mv then .constrained else .shed
    let ended (t : State) (c : Cfl) : Prop :=
      t.cfl = c ∧ t.ftm.schedule = (if s.ftm.written.linked then .awaiting else .starting)
        ∧ t.lrx = s.lrx ∧ t.ltx = s.ltx ∧ t.stu = s.stu ∧ t.mrs = s.mrs ∧ t.lsu = s.lsu ∧ t.clock = s.clock
        ∧ t.pmg.state = (if p.state = .held ∧ p.window ≠ [] then choice else p.state)
        ∧ (p.state ≠ .held ∨ p.window = [] → t.evu = s.evu.take .imageStatus c.detail s.now s.timeUnset)
        ∧ t = s.edged fun s => (({ s with
          cfl := c, evu := s.evu.take .imageStatus c.detail s.now s.timeUnset } : State).loadEndPower).onFtm fun f =>
            f.leaveIdle s.now
    (∀ w0 w1 : Word, s.cfl.position = 0 →
        let read (version : Nat) : Cfl :=
          { s.cfl with position := 2, version := version, length := w1.toNat % 65536
                       check := BitVec.ofNat 16 (w1.toNat / 65536) }
        (w0.toNat % 65536 = 0x4A53 → 1 ≤ w1.toNat % 65536 → w1.toNat % 65536 ≤ 4096 →
            exec (.imageHeaderRead w0 w1) s = .next { s with cfl := read (w0.toNat / 65536) })
          ∧ (w0.toNat % 65536 = 0x4A53 → w1.toNat % 65536 = 0 ∨ 4096 < w1.toNat % 65536 →
            ∃ t, exec (.imageHeaderRead w0 w1) s = .next t
              ∧ ended t { read (w0.toNat / 65536) with state := .bad, pass := 0 })
          ∧ (w0.toNat % 65536 ≠ 0x4A53 → ∃ t, exec (.imageHeaderRead w0 w1) s = .next t
              ∧ ended t { read 0 with state := .absent, pass := 0 }))
      ∧ ∀ body : List Word, s.cfl.position = 2 → body.length = s.cfl.length →
        (pcrc (bytesOf body) = s.cfl.check →
            exec (.imageBodyRead body) s = .next { s with cfl := { s.cfl with pass := 2, position := 0 } })
          ∧ (pcrc (bytesOf body) ≠ s.cfl.check → ∃ t, exec (.imageBodyRead body) s = .next t
              ∧ ended t { s.cfl with state := .bad, pass := 0, position := 2 + s.cfl.length })

/-- A record in pass 2. One whose table does not exist, or whose data would run past the body, is skipped and ends loading at its
header. A whole record moves the position past its data; judged as a WRITE it is applied, adjusted where a value was
clamped, or skipped, the first skip keeping its position. Loading ends with the last word of the body: LOADED, or
LOADED_WITH_ERRORS when a record was skipped. A record skipped before the end changes the loader alone; one applied before
the end is stored as the WRITE of its entries, with the rising edges that this makes. -/
def Obligations.ImageRecordIsJudged : Prop :=
  ∀ (w : Word) (data : List Word) (s : State), s.held = false → s.cfl.state = .loading → s.cfl.pass = 2 →
    let pos := if s.cfl.position = 0 then 2 else s.cfl.position
    let count := w.toNat / 256 % 256
    let index := w.toNat / 65536 % 256
    let skip (c : Cfl) : Cfl :=
      { c with skipped := s.cfl.skipped + 1, firstSkipped := if s.cfl.skipped = 0 then pos else s.cfl.firstSkipped }
    let ends (c : Cfl) : Cfl :=
      { c with state := if c.skipped = 0 then .loaded else .loadedWithErrors, pass := 0 }
    ((17 < w.toNat % 256 ∨ ∃ t, Table.ofCode (w.toNat % 256) = some t ∧ 2 + s.cfl.length < pos + 1 + count * t.fields) →
        ∃ u, exec (.imageRecord w data) s = .next u ∧ u.cfl = ends (skip { s.cfl with position := pos + 1 })
          ∧ u.clock = s.clock ∧ u.mrs = s.mrs ∧ u.ltx = s.ltx ∧ u.lrx = s.lrx ∧ u.stu = s.stu ∧ u.lsu = s.lsu)
      ∧ ∀ t, Table.ofCode (w.toNat % 256) = some t → pos + 1 + count * t.fields ≤ 2 + s.cfl.length →
        data.length = count * t.fields →
        let c0 : Cfl := { s.cfl with position := pos + 1 + count * t.fields }
        let c1 : Cfl :=
          if count = 0 ∨ t.entries < index + count then skip c0
          else match s.judgeWrite t index count data with
            | .refused _ => skip c0
            | .store _ clamped => { c0 with applied := s.cfl.applied + 1, adjusted := s.cfl.adjusted + bit clamped }
        ∃ u, exec (.imageRecord w data) s = .next u
          ∧ u.cfl = (if pos + 1 + count * t.fields = 2 + s.cfl.length then ends c1 else c1)
          ∧ u.clock = s.clock ∧ u.mrs = s.mrs ∧ u.ltx.reply = s.ltx.reply ∧ u.ltx.voice = s.ltx.voice
          ∧ (c1.skipped ≠ s.cfl.skipped → pos + 1 + count * t.fields ≠ 2 + s.cfl.length → u = { s with cfl := c1 })
          ∧ ∀ es cl, count ≠ 0 → index + count ≤ t.entries → s.judgeWrite t index count data = .store es cl →
            pos + 1 + count * t.fields ≠ 2 + s.cfl.length →
            u = s.edged fun s => { ({ s with cfl := c0 } : State).store t es with cfl := c1 }

/-! ### Frame timer, late shift and side-band lines (chapters 2, 4, 7) -/

/-- A frame start gives the frame its number, makes tether time its start, brings the written tables into force, clears the
renumber and the target-taken flag, places the next start one nominal period on, creates the OPEN record of the next frame,
moves the display lock machine (mode FREE: FREE with counts 0; LINKED without a target: the frames without target rise, up to
8, and 8 take LOCKED to HOLDOVER, but while the display state is FREE that count stays as it is: log entry 19), starts the
10 µs of the FRAME_START lines, counted as 246 oscillator ticks (log entry 9; a pulse still on is made longer: log entry 50),
and leaves every power request up to date, by one reallocation at its end (log entry 14). A renumber that it applies raises
FRAME_RENUMBER, and a display that leaves LOCKED DISPLAY_UNLOCK. Each generator takes its written values, suppresses a pulse
still PENDING, and schedules this frame's pulse or suppresses it: not before the next start, or with a pulse ON. A scan still
ACTIVE is cut: the lines after pos are counted cut, and the record of the frame that ends is DONE with the cut flag of each
panel cut, and INCOMPLETE where one of them has missing lines. The next record is SCANNING, evaluated now if it was OPEN.
A panel with a new geometry loses its ring and its contexts, uncounted (before the contexts of other frames are counted
malformed: log entry 51); an enabled panel with a grant begins its scan with its ring re-based (log entry 41), the record's
shift, the ceiling in force and line 0, with its strobe scheduled unless it is HELD or not before the next start; any other
panel is OFF; with no scan the record is DONE and reported at once. -/
def Obligations.FrameStartNumbersAndPlacesFrames : Prop :=
  (∀ s : State, s.held = false → s.frameStartDue = true →
    let F := if s.ftm.schedule = .starting then (s.ftm.upcoming.map FrameRec.number).getD 0
      else s.ftm.renumber.getD (s.ftm.scanFrame.getD 0 + 1)
    let next := s.lrx.tt + BitVec.ofNat 32 s.ftm.written.period
    let n := min (s.ftm.noTarget + 1) 8
    ∃ t, exec .frameStart s = .next t
      ∧ t.ftm.scanFrame = some F ∧ t.ftm.sF = s.lrx.tt ∧ t.ftm.schedule = .running
      ∧ t.ftm.frameStarts = satInc s.ftm.frameStarts ∧ t.ftm.inForce = s.ftm.written ∧ t.ftm.renumber = none
      ∧ t.ftm.targetTaken = false ∧ t.ftm.sNext = next ∧ t.ftm.upcoming = some (FrameRec.fresh (F + 1) next)
      ∧ (∀ g : Side,
        let x := s.ftm.gens.get g
        let base : Generator := { x with inForce := x.written }
        let at_ := s.lrx.tt + BitVec.ofNat 32 x.written.offset
        let schedules : Prop := x.written.enable = true ∧ x.written.aEnd = false ∧ F.toNat % x.written.divider = 0
        let late : Prop := (next - at_).toInt ≤ 0
        let one := satInc x.suppressed
        let becomes (y : Generator) : Prop := t.ftm.gens.get g = y
        (x.state = .idle → ¬ schedules → becomes base)
          ∧ (x.state = .idle → schedules → late → becomes { base with suppressed := one })
          ∧ (x.state = .idle → schedules → ¬ late → becomes { base with state := .pending, startAt := at_ })
          ∧ (x.state = .pending → ¬ schedules → becomes { base with state := .idle, suppressed := one })
          ∧ (x.state = .pending → schedules → late → becomes { base with state := .idle, suppressed := satInc one })
          ∧ (x.state = .pending → schedules → ¬ late → becomes { base with startAt := at_, suppressed := one })
          ∧ (x.state = .on → ¬ schedules → becomes { base with crossed := true })
          ∧ (x.state = .on → schedules → becomes { base with crossed := true, suppressed := one }))
      ∧ t.stu = { s.stu with lines := s.stu.lines.map fun l => { l with pulse := decide (l.source = .frameStart) } }
      ∧ (∀ p, (t.panel p).inForce = (s.panel p).written) ∧ t.ftm.pulseEnd = some (s.osc + 246)
      ∧ (t.ftm.display, t.ftm.inCount, t.ftm.outCount, t.ftm.noTarget) =
        (if s.ftm.written.linked = false then (DisplayState.free, 0, 0, 0)
         else if s.ftm.targetTaken = false ∧ s.ftm.display ≠ .free then
          (if n = 8 ∧ s.ftm.display = .locked then DisplayState.holdover else s.ftm.display, s.ftm.inCount, s.ftm.outCount, n)
         else (s.ftm.display, s.ftm.inCount, s.ftm.outCount, s.ftm.noTarget))
      ∧ t.requestChanged = false
      ∧ t = (s.edged fun s =>
          ((((s.frameNumbers.frameRecords s.ftm.scanFrame).picturesStart s.ftm.scanFrame).onFtm Ftm.startGens).startPulses).refreshLoads)
      ∧ { t with stu := s.stu, ftm := s.ftm, pxp := s.pxp, mou := s.mou, lsu := s.lsu, auu := s.auu, pte := s.pte
                 pmg := s.pmg, evu := s.evu } = s)
    ∧ (∀ s : State,
      let F := if s.ftm.schedule = .starting then (s.ftm.upcoming.map FrameRec.number).getD 0
        else s.ftm.renumber.getD (s.ftm.scanFrame.getD 0 + 1)
      let numbered : Evu := match s.ftm.renumber with
        | none => s.evu
        | some n => if s.ftm.schedule = .starting then s.evu else s.evu.take .frameRenumber
            (leBytes 2 (s.ftm.scanFrame.getD 0 + 1).toNat ++ leBytes 2 n.toNat) s.now s.timeUnset
      let unlocks (cause : Nat) : Evu := numbered.take .displayUnlock (leBytes 2 F.toNat ++ leBytes 1 cause) s.now s.timeUnset
      s.frameNumbers.evu =
        if s.ftm.display ≠ .locked then numbered else if s.ftm.written.linked = false then unlocks 2
        else if s.ftm.targetTaken = false ∧ 8 ≤ s.ftm.noTarget + 1 then unlocks 1 else numbered)
    ∧ (∀ (s : State) (old : Option FrameNo) (F : FrameNo), s.ftm.scanFrame = some F →
      let u := s.picturesStart old
      let begins (p : Side) : Bool :=
        (s.panel p).written.enable && decide (0 < (s.pmg.loads[if p = .a then (0 : Fin 8) else 1]).grant)
      let reshapes (p : Side) : Bool :=
        decide ((s.panel p).written.width ≠ (s.panel p).inForce.width ∨ (s.panel p).written.height ≠ (s.panel p).inForce.height)
      let reshaped (c : SliceCtx) : Bool :=
        (reshapes .a && decide (c.target ≠ .one .b)) || (reshapes .b && decide (c.target ≠ .one .a))
      let strays (c : SliceCtx) : Bool := !reshaped c && decide (c.frame ≠ F ∧ c.frame ≠ F + 1)
      let swept (p : Side) : Nat := s.pxp.contexts.toList.countP fun k => match k with
        | none => false
        | some c => strays c && decide (c.target = .one p ∨ c.target = .both)
      let shift (p : Side) : Shift := (s.ftm.scanning.bind fun r => r.shifts.map fun d => d.get p).getD ⟨0, 0⟩
      let ring (p : Side) : List RingLine :=
        if reshapes p then [] else (s.panel p).ring.filter fun r => decide (r.frame = F ∧ r.line ≤ 79)
      let found (p : Side) : Option RingLine := (ring p).find? fun r => decide (r.frame = F ∧ (r.line : Int) = (shift p).dy)
      let inside (p : Side) : Prop := 0 ≤ (shift p).dy ∧ (shift p).dy < (s.panel p).written.height
      let misses (p : Side) : Bool := begins p && decide (inside p ∧ found p = none)
      let black (p : Side) : List Pixel := List.replicate (s.panel p).written.width .black
      let line (p : Side) : List Pixel :=
        if inside p then
          match found p with
          | some r => (List.range (s.panel p).written.width).map fun k =>
              if 0 ≤ (k : Int) - (shift p).dx ∧ (k : Int) - (shift p).dx < (s.panel p).written.width
              then r.pixels.getD ((k : Int) - (shift p).dx).toNat .black else .black
          | none => if (s.panel p).written.repeatFill then (s.panel p).lastLine.getD (black p) else black p
        else black p
      (∀ p : Side,
          let x := s.panel p
          let at_ := s.ftm.sF + BitVec.ofNat 32 x.written.strobeOffset
          let strobes : Prop := x.strobe ≠ .held ∧ 0 < (s.ftm.sNext - at_).toInt
          let started : PanelState := { x with
            inForce := x.written, ring := ring p, malformedSlices := satInc^[swept p] x.malformedSlices
            strobe := if x.strobe = .held then .held else .idle
            staleLines := satAdd x.staleLines
              (if reshapes p then 0 else x.ring.countP fun r => decide (r.frame ≠ F ∧ some r.frame ≠ old)) }
          (begins p = true → u.panel p = { started with
              scan := .active, pos := 0, scanStart := s.osc, shift := shift p, ceiling := s.pmg.ceilings.get p
              lastLine := some (line p), missingLines := satAdd x.missingLines (bit (misses p))
              strobe := if strobes then .pending else started.strobe
              strobeAt := if strobes then at_ else x.strobeAt
              strobeWidth :=
                if strobes then min x.written.brightness (s.pmg.ceilings.get p) * x.written.maxWidth / 1023
                else x.strobeWidth })
            ∧ (begins p = false → u.panel p = { started with scan := .off, ring := [], lastLine := none }))
        ∧ u.pxp.contexts = s.pxp.contexts.map (Option.filter fun c => !reshaped c && !strays c)
        ∧ (begins .a = true ∨ begins .b = true → u.evu = s.evu ∧ u.ftm = { s.ftm with
            pendingPanels := ⟨begins .a, begins .b⟩
            scanning := s.ftm.scanning.map fun r =>
              { r with missing := ⟨r.missing.a + bit (misses .a), r.missing.b + bit (misses .b)⟩ } })
        ∧ ∀ r, begins .a = false → begins .b = false → s.ftm.scanning = some r →
          let done : FrameRec := { r with state := .done }
          u.ftm = { s.ftm with pendingPanels := ⟨false, false⟩, scanning := none, done := some done }
            ∧ u.evu = s.evu.take .frameReport done.report s.now s.timeUnset)
    ∧ ∀ (s : State) (old : Option FrameNo),
      let active (p : Side) : Bool := decide ((s.panel p).scan = .active)
      (s.frameRecords old).ftm.upcoming = some (FrameRec.fresh (s.ftm.scanFrame.getD 0 + 1) s.ftm.sNext)
        ∧ (∀ r, s.ftm.upcoming = some r → r.state = .evaluated →
          (s.frameRecords old).ftm.scanning = some { r with state := .scanning, start := s.ftm.sF })
        ∧ (∀ r, s.ftm.upcoming = some r → r.state = .opened → ∃ e, s.evaluate.ftm.upcoming = some e
          ∧ (s.frameRecords old).ftm.scanning = some { e with
            state := .scanning, start := s.ftm.sF, flags := { e.flags with lateEval := true } })
        ∧ (∀ p, ((s.frameRecords old).panel p).cutLines =
          if active p then satAdd (s.panel p).cutLines ((s.panel p).inForce.height - 1 - (s.panel p).pos)
          else (s.panel p).cutLines)
        ∧ ∀ r, s.ftm.scanning = some r → (s.frameRecords old).ftm.done = some { r with
          state := .done
          flags := { r.flags with
            cutA := r.flags.cutA || active .a, cutB := r.flags.cutB || active .b
            incomplete := r.flags.incomplete || (active .a && decide (0 < r.missing.a))
              || (active .b && decide (0 < r.missing.b)) } }

/-- An evaluation makes the OPEN record EVALUATED at tether time's now, with the pose case's flag. Its angles are the integrals of
the gyro history from the pose P to now: an entry after the first covers the time since the entry before it, at most 5000 µs
(taken off without wrapping: log entry 44), the newest is extrapolated by at most 5000 µs, each contributes its rate times its
overlap with (P, now], and the sum is saturated once; an empty history, no pose, and a pose not before now give 0.
HISTORY_SHORT says that the history is empty or P before its oldest timestamp. The shifts are the angles by the gains,
rounded and clamped to the limits; with the shift disabled they are 0 and nothing clamps; CLAMPED says that a limit changed
one. The two flags raise their events. The written shift table is in force, and one evaluation is counted, with each flag. -/
def Obligations.EvaluationSetsAnglesAndShifts : Prop :=
  ∀ (s : State) (r : FrameRec), s.held = false → s.evaluationDue = true → s.ftm.upcoming = some r →
    let c := s.lsu.written
    let S := s.lrx.tt
    let h := s.mou.history
    let d (t : Time) : Int := (t - S).toInt
    let overlap (from_ to_ p : Int) : Int := max 0 (min to_ 0 - max from_ p)
    let integral (P : Time) (rate : GyroEntry → Int) : Int :=
      let between := (h.zip h.tail).map fun x =>
        rate x.2 * overlap (max (d x.1.time) (d x.2.time - 5000)) (d x.2.time) (d P)
      let newest := h.getLast?.map fun e => rate e * overlap (d e.time) (min 0 (d e.time + 5000)) (d P)
      max (-2147483647) (min 2147483647 (between.sum + newest.getD 0))
    ∃ t r1 g x, exec .evaluation s = .next t ∧ t.ftm = { s.ftm with upcoming := some r1 }
      ∧ { r1 with state := r.state, evalTime := r.evalTime, angles := r.angles, shifts := r.shifts, flags := r.flags } = r
      ∧ r1.state = .evaluated ∧ r1.evalTime = some S ∧ r1.angles = some g ∧ r1.shifts = some x
      ∧ (∀ P, r.pose = some P → 0 < (S - P).toInt → g = ⟨integral P GyroEntry.yaw, integral P GyroEntry.pitch⟩)
      ∧ (r.pose = none ∨ (∃ P, r.pose = some P ∧ (S - P).toInt ≤ 0) → g = ⟨0, 0⟩)
      ∧ (r1.flags.noPose = true ↔ r.pose = none)
      ∧ (r1.flags.poseAhead = true ↔ ∃ P, r.pose = some P ∧ (S - P).toInt < 0)
      ∧ (r1.flags.historyShort = true ↔
        ∃ P, r.pose = some P ∧ 0 < (S - P).toInt ∧ (h = [] ∨ ∃ e, h.head? = some e ∧ 0 < (e.time - P).toInt))
      ∧ { r1.flags with
          noPose := r.flags.noPose, poseAhead := r.flags.poseAhead, historyShort := r.flags.historyShort
          clamped := r.flags.clamped } = r.flags
      ∧ (let u (angle : Int) (gain : Nat) (minus : Bool) : Int :=
          if minus then -roundDiv (angle * gain) 4294967296 else roundDiv (angle * gain) 4294967296
        let raw (p : Side) : Shift :=
          ⟨u g.yaw (c.sides.get p).kx (c.sides.get p).minusX, u g.pitch (c.sides.get p).ky (c.sides.get p).minusY⟩
        let limited (p : Side) : Shift :=
          ⟨max (-((c.sides.get p).limX : Int)) (min (c.sides.get p).limX (raw p).dx),
            max (-((c.sides.get p).limY : Int)) (min (c.sides.get p).limY (raw p).dy)⟩
        let time (t : Option Time) : List Byte := leBytes 4 ((t.map BitVec.toNat).getD 0)
        let short := leBytes 2 r.number.toNat ++ time r.pose ++ time (some S) ++ time (h.head?.map GyroEntry.time)
        let clamps := leBytes 2 r.number.toNat ++ leBytesInt 4 (raw .a).dx ++ leBytesInt 4 (raw .a).dy
          ++ leBytesInt 4 (raw .b).dx ++ leBytesInt 4 (raw .b).dy
        (c.enable = false → x = ⟨⟨0, 0⟩, ⟨0, 0⟩⟩) ∧ (c.enable = true → x = ⟨limited .a, limited .b⟩)
          ∧ (∀ p, (limited p).dx.natAbs ≤ (c.sides.get p).limX ∧ (limited p).dy.natAbs ≤ (c.sides.get p).limY)
          ∧ (r1.flags.clamped = true ↔ c.enable = true ∧ (limited .a ≠ raw .a ∨ limited .b ≠ raw .b))
          ∧ (r1.flags.historyShort = false → r1.flags.clamped = false → t.evu = s.evu)
          ∧ (r1.flags.historyShort = true → r1.flags.clamped = false →
            t.evu = s.evu.take .historyShort short s.now s.timeUnset)
          ∧ (r1.flags.historyShort = false → r1.flags.clamped = true →
            t.evu = s.evu.take .shiftClamped clamps s.now s.timeUnset))
      ∧ t.lsu = { s.lsu with
          inForce := c, evaluations := satInc s.lsu.evaluations
          noPoseFrames := satAdd s.lsu.noPoseFrames (bit r1.flags.noPose)
          poseAheadFrames := satAdd s.lsu.poseAheadFrames (bit r1.flags.poseAhead)
          shortHistoryFrames := satAdd s.lsu.shortHistoryFrames (bit r1.flags.historyShort)
          clampedFrames := satAdd s.lsu.clampedFrames (bit r1.flags.clamped) }
      ∧ { t with ftm := s.ftm, lsu := s.lsu, evu := s.evu } = s

/-- An exposure pulse begins at its scheduled start: ON, counted, its end one width after the start, on the line in force. B's
pulse ends IDLE. At the end of A's pulse B, when it is enabled with reference A_END and its divider divides the number of the
frame in which A's pulse began, schedules its own pulse an offset after A's end, or suppresses it: after the next frame
start, not before s_next, or with B not IDLE. Times are counted from the scheduled ones (log entry 13). A line that rises with
a pulse triggers the polls that listen to it. -/
def Obligations.ExposurePulsesStartAndEnd : Prop :=
  ∀ s : State, s.held = false →
    let a := s.ftm.gens.a
    let b := s.ftm.gens.b
    let goes (i : Instr) (d : Duo Generator) : Prop :=
      let t : State := { s with ftm := { s.ftm with gens := d } }
      exec i s = .next (t.handEdges s.levels t.levels)
    let at_ := a.endAt + BitVec.ofNat 32 b.inForce.offset
    let follows : Prop := b.inForce.enable = true ∧ b.inForce.aEnd = true ∧ a.frame.toNat % b.inForce.divider = 0
    let suppresses : Prop := a.crossed = true ∨ (s.ftm.sNext - at_).toInt ≤ 0 ∨ b.state ≠ .idle
    (∀ g, s.expStartDue g = true → goes (.exposurePulseStart g) (s.ftm.gens.modify g fun x => { x with
        state := .on, pulses := satInc x.pulses, endAt := x.startAt + BitVec.ofNat 32 x.inForce.width
        pulseLine := x.inForce.line, frame := s.ftm.scanFrame.getD 0, crossed := false }))
      ∧ (s.expEndDue .b = true → goes (.exposurePulseEnd .b) ⟨a, { b with state := .idle }⟩)
      ∧ (s.expEndDue .a = true → ¬ follows → goes (.exposurePulseEnd .a) ⟨{ a with state := .idle }, b⟩)
      ∧ (s.expEndDue .a = true → follows → suppresses →
          goes (.exposurePulseEnd .a) ⟨{ a with state := .idle }, { b with suppressed := satInc b.suppressed }⟩)
      ∧ (s.expEndDue .a = true → follows → ¬ suppresses →
          goes (.exposurePulseEnd .a) ⟨{ a with state := .idle }, { b with state := .pending, startAt := at_ }⟩)

/-- The FRAME_START lines fall after 10 µs. A change of level at a pin is stored; on an unclaimed INPUT line it raises
SIDEBAND_CHANGE with the line and the six levels just after it, and that line alone rises or falls; on any other line it does
nothing more. A rising edge, a line at 0 before an act and at 1 after it (log entry 15), is counted by the one enabled READY
entry that listens to the line, and at decimate times the class factor takes the count to 0 and triggers the entry, its trigger
time being tether time now: dropped on a FAULT bus and while SUSPENDED, an overrun while the entry is queued, placed in the due
queue of a bus at work by its trigger (log entry 33), and begun at once on an idle bus, on TWO_WIRE with a line check first (log
entries 8 and 24). An edge that no entry listens to changes nothing; edges of several lines are handed on line 0 first. -/
def Obligations.LinesFollowPinsAndPulses : Prop :=
  (∀ s : State, s.held = false →
    (s.pulseEndDue = true → exec .frameStartPulseEnd s = .next { s with
        stu := { s.stu with lines := s.stu.lines.map fun l => { l with pulse := false } }
        ftm := { s.ftm with pulseEnd := none } })
      ∧ ∀ (i : Fin 6) (level : Bool),
        let pinned : State := { s with stu := { s.stu with pins := s.stu.pins.set i level } }
        (s.stu.pins[i] = level → exec (.sidebandChange i level) s = .next s)
          ∧ (s.stu.pins[i] ≠ level → s.stu.lines[i].source ≠ .input ∨ s.claimed i = true →
            exec (.sidebandChange i level) s = .next pinned)
          ∧ (s.stu.pins[i] ≠ level → s.stu.lines[i].source = .input → s.claimed i = false →
            let t : State := { pinned with
              evu := s.evu.take .sidebandChange [BitVec.ofNat 8 i.val, BitVec.ofNat 8 pinned.levels.toNat] s.now s.timeUnset }
            exec (.sidebandChange i level) s = .next (t.handEdges s.levels t.levels) ∧ s.levels.getLsbD i = !level
              ∧ ∀ j : Fin 6, t.levels.getLsbD j = if j = i then level else s.levels.getLsbD j))
    ∧ (∀ (s : State) (old new : BitVec 6),
      let rises (i : Fin 6) : Bool := !old.getLsbD i && new.getLsbD i
      s.handEdges old new =
        ([0, 1, 2, 3, 4, 5] : List (Fin 6)).foldl (fun s i => if rises i then s.handEdges 0 (BitVec.twoPow 6 i) else s) s)
    ∧ ∀ (s : State) (i : Fin 6),
      let listens (e : Fin 8) : Prop :=
        s.mou.poll[e].cfg.enable = true ∧ s.mou.poll[e].cfg.ready = true ∧ s.mou.poll[e].cfg.readyLine = i.val
      let edge := s.handEdges 0 (BitVec.twoPow 6 i)
      ((∀ e, ¬ listens e) → edge = s)
        ∧ ∀ e : Fin 8, listens e → (∀ k, k ≠ e → ¬ listens k) →
          let c := s.mou.poll[e].cfg
          let count := s.mou.poll[e].edgeCount + 1
          let triggers : Prop := c.decimate * (if s.mou.sensorClass = .reduced then 2 else 1) ≤ count
          let q : Queued :=
            { entry := e, trigger := s.lrx.tt, stamp := s.osc, timeUnset := s.timeUnset
              decimated := decide (s.mou.sensorClass = .reduced)
              late := decide (s.mou.relay.map Relay.bus = some c.bus) }
          let becomes (f : PollEntry → PollEntry) (m : Mou) : Prop :=
            edge = { s with mou := { m with poll := tabMod s.mou.poll e fun p => f { p with edgeCount := 0 } } }
          let earlier (p q : Queued) : Prop := p.stamp < q.stamp ∨ (p.stamp = q.stamp ∧ p.entry < q.entry)
          let free : Prop := triggers ∧ (s.bus c.bus).state ≠ .fault ∧ s.mou.sensorClass ≠ .suspended
          let queued : Prop := ∃ q ∈ s.mou.serial4.queue ++ s.mou.twoWire.queue, q.entry = e
          let alone : Prop := free ∧ ¬ queued ∧ s.mou.relay = none ∧ (s.bus c.bus).queue = [] ∧ (s.bus c.bus).state = .idle
          (¬ triggers → edge = { s with mou := { s.mou with
              poll := tabMod s.mou.poll e fun p => { p with edgeCount := count } } })
            ∧ (triggers → ¬ free → becomes id s.mou)
            ∧ (free → queued → becomes (fun p => { p with overruns := satInc p.overruns }) s.mou)
            ∧ (∀ l n, free → ¬ queued → (s.bus c.bus).state ≠ .idle → (s.bus c.bus).queue = l ++ n →
              (∀ p ∈ l, ¬ earlier q p) → (∀ p, n.head? = some p → earlier q p) →
              becomes id (s.onBus c.bus fun k => { k with queue := l ++ q :: n }).mou)
            ∧ (alone → c.bus = .serial4 → becomes (fun p => { p with late := satAdd p.late 0 }) { s.mou with
                serial4 := { s.mou.serial4 with state := .busy, poll := some ⟨q, c⟩ } })
            ∧ (alone → c.bus = .twoWire → s.mou.twoWire.recPending = none →
              becomes (fun p => { p with
                late := satAdd p.late 0, errors := if s.dataLow = true then satInc p.errors else p.errors }) { s.mou with
                twoWire := if s.dataLow = true then
                    { s.mou.twoWire with
                      state := .recovering, poll := none, recovery := some ⟨.lineLow, false⟩, recPending := none
                      retryAt := none }
                  else { s.mou.twoWire with state := .busy, poll := some ⟨q, c⟩ }
                lineSamples := s.mou.lineSamples + 1 })

/-! ### Picture path (chapter 5) -/

/-- A line-out moves pos to the next line and its window with it, and sends a line: black when the source line is outside the
picture; the ring's line moved sideways by dx, black at the edges; with the source missing the fill, counted on the panel and in
the SCANNING record (a REPEAT copy has the number of pixels it was output with: log entry 42). The line-out of the last line
ends the scan: BLANK with pos at the height and the window moved there; with missing lines the record takes INCOMPLETE and
MISSING_LINES is raised; and, unless the strobe is PENDING or ON, the panel completes: it leaves the pending panels, and the
last one to do so makes the record DONE with FRAME_REPORT. -/
def Obligations.LineOutSendsLine : Prop :=
  ∀ (s : State) (p : Side) (F : FrameNo), s.held = false → s.lineDue p = true → s.ftm.scanFrame = some F →
    let x := s.panel p
    let y := x.pos + 1
    let W := x.inForce.width
    let H := x.inForce.height
    let src : Int := (y : Int) + x.shift.dy
    let ring := x.ring.filter fun r => decide (y ≤ (r.frame - F).toNat * H + r.line + 16)
    let found := ring.find? fun r => decide (some r.frame = s.ftm.scanFrame ∧ (r.line : Int) = src)
    let black := List.replicate W Pixel.black
    let counted (r : FrameRec) : FrameRec :=
      if 0 ≤ src ∧ src < H ∧ found = none then { r with missing := r.missing.modify p (· + 1) } else r
    ∃ t, exec (.lineOut p) s = .next t
      ∧ (src < 0 ∨ (H : Int) ≤ src → (t.panel p).lastLine = some black ∧ (t.panel p).missingLines = satAdd x.missingLines 0)
      ∧ (0 ≤ src → src < H → found = none →
          (t.panel p).lastLine = some (if x.inForce.repeatFill then x.lastLine.getD black else black)
            ∧ (t.panel p).missingLines = satInc x.missingLines)
      ∧ (0 ≤ src → src < H → ∀ r, found = some r → (t.panel p).missingLines = satAdd x.missingLines 0
          ∧ ∃ out, (t.panel p).lastLine = some out ∧ out.length = W
            ∧ ∀ k < W, out.getD k .black =
                if 0 ≤ (k : Int) - x.shift.dx ∧ (k : Int) - x.shift.dx < W
                then r.pixels.getD ((k : Int) - x.shift.dx).toNat .black else .black)
      ∧ (y + 1 ≠ H → (t.panel p).pos = y ∧ (t.panel p).scan = .active ∧ (t.panel p).ring = ring ∧ t.evu = s.evu
          ∧ t.ftm = { s.ftm with scanning := s.ftm.scanning.map counted })
      ∧ (y + 1 = H → (t.panel p).pos = H ∧ (t.panel p).scan = .blank
          ∧ (t.panel p).ring = ring.filter fun r => decide (H ≤ (r.frame - F).toNat * H + r.line + 16))
      ∧ (y + 1 = H → s.ftm.scanning = none → t.ftm = s.ftm ∧ t.evu = s.evu)
      ∧ (∀ r, y + 1 = H → s.ftm.scanning = some r →
        let lines := (counted r).missing.get p
        let judged : FrameRec :=
          if 0 < lines then { counted r with flags := { r.flags with incomplete := true } } else counted r
        let told : Evu :=
          if 0 < lines then s.evu.take .missingLines
            (leBytes 1 (if p = .a then 0 else 1) ++ leBytes 2 r.number.toNat ++ leBytes 2 lines) s.now s.timeUnset
          else s.evu
        let completes : Prop := x.strobe ≠ .pending ∧ x.strobe ≠ .on ∧ s.ftm.pendingPanels.get p = true
        let others : Bool := if p = .a then s.ftm.pendingPanels.b else s.ftm.pendingPanels.a
        let done : FrameRec := { judged with state := .done }
        (¬ completes → t.ftm = { s.ftm with scanning := some judged } ∧ t.evu = told)
          ∧ (completes → others = true → t.evu = told ∧ t.ftm = { s.ftm with
            scanning := some judged, pendingPanels := if p = .a then ⟨false, true⟩ else ⟨true, false⟩ })
          ∧ (completes → others = false → t.evu = told.take .frameReport done.report s.now s.timeUnset ∧ t.ftm = { s.ftm with
            scanning := none, done := some done, pendingPanels := ⟨false, false⟩ }))
      ∧ { t.panel p with
          pos := x.pos, scan := x.scan, ring := x.ring, lastLine := x.lastLine, missingLines := x.missingLines } = x
      ∧ (∀ q, q ≠ p → t.panel q = s.panel q)
      ∧ { t with pxp := s.pxp, ftm := s.ftm, evu := s.evu } = s

/-- A strobe begins with its width cut at s_next and written once into the SCANNING record: ON until its end, or with width 0
passed over, and so also with s_next before its strobe time (log entry 55). At its end it is IDLE. While the scan is ACTIVE nothing is completed; after the scan the last completion makes
the record DONE and reports the frame. -/
def Obligations.StrobeStartsAndEnds : Prop :=
  ∀ (s : State) (p : Side), s.held = false →
    let x := s.panel p
    let w := min x.strobeWidth (s.ftm.sNext - x.strobeAt).toInt.toNat
    let goes (i : Instr) (f : PanelState → PanelState) (ftm : Ftm) (evu : Evu) : Prop :=
      let t : State := { s with pxp := { s.pxp with panels := s.pxp.panels.modify p f }, ftm := ftm, evu := evu }
      exec i s = .next (t.handEdges s.levels t.levels)
    let record := s.ftm.scanning.map fun r =>
      if r.strobe.get p = none then { r with strobe := r.strobe.set p (some w) } else r
    let idle (x : PanelState) : PanelState := { x with strobe := .idle }
    (s.strobeStartDue p = true → 0 < w → goes (.strobeStart p)
        (fun x => { x with strobe := .on, strobeEnd := x.strobeAt + BitVec.ofNat 32 w }) { s.ftm with scanning := record } s.evu)
      ∧ (s.strobeStartDue p = true → w = 0 → x.scan = .active →
        goes (.strobeStart p) idle { s.ftm with scanning := record } s.evu)
      ∧ (s.strobeEndDue p = true → x.scan = .active → goes (.strobeEnd p) idle s.ftm s.evu)
      ∧ (∀ r, s.strobeEndDue p = true → x.scan ≠ .active → s.ftm.scanning = some r →
        s.ftm.pendingPanels = (if p = .a then ⟨true, false⟩ else ⟨false, true⟩) →
        goes (.strobeEnd p) idle
          { s.ftm with scanning := none, done := some { r with state := .done }, pendingPanels := ⟨false, false⟩ }
          (s.evu.take .frameReport ({ r with state := .done } : FrameRec).report s.now s.timeUnset))

/-! ### Motion unit (chapter 6) -/

/-- A due moment triggers its poll entry and sets its next moment, one written period on, two under REDUCED. A trigger is
dropped on a FAULT bus and while SUSPENDED, is an overrun while the entry is queued, joins the due queue of a bus at work,
and starts at once on an idle bus; on TWO_WIRE a low data line makes it an error and starts a recovery. The model's choices:
the level of the data line is a free value, one for each sampling (log entry 8), the queue is ordered by the oscillator count of
its triggers (log entry 33), and the late count rises before the line check (log entry 24). -/
def Obligations.DueMomentTriggersPoll : Prop :=
  ∀ (s : State) (e : Fin 8), s.held = false → s.momentDue e = true →
    let c := s.mou.poll[e].cfg
    let factor := if s.mou.sensorClass = .reduced then 2 else 1
    let q : Queued :=
      { entry := e, trigger := s.lrx.tt, stamp := s.osc, timeUnset := s.timeUnset
        decimated := decide (s.mou.sensorClass = .reduced), late := s.relayOn c.bus }
    let moved (p : PollEntry) : PollEntry :=
      { p with periodForce := c.period, dueAt := p.dueAt.map fun t => t + c.period * 6144 * factor }
    let after (f : PollEntry → PollEntry) (m : Mou) : Host.Outcome State Fault Refusal :=
      .next { s with mou := { m with poll := tabMod s.mou.poll e fun p => moved (f p) } }
    let free := (s.bus c.bus).state ≠ .fault ∧ s.mou.sensorClass ≠ .suspended
    let alone := s.isQueued e = false ∧ s.mou.relay = none ∧ (s.bus c.bus).queue = [] ∧ (s.bus c.bus).state = .idle
    (¬ free → exec (.dueMoment e) s = after id s.mou)
      ∧ (free → s.isQueued e = true → exec (.dueMoment e) s = after (fun p => { p with overruns := satInc p.overruns }) s.mou)
      ∧ (free → s.isQueued e = false → (s.bus c.bus).state ≠ .idle → exec (.dueMoment e) s =
          after id (s.onBus c.bus fun k => { k with queue := insertQueued q k.queue }).mou)
      ∧ (free → alone → c.bus = .serial4 → exec (.dueMoment e) s =
          after (fun p => { p with late := satAdd p.late 0 }) { s.mou with
            serial4 := { s.mou.serial4 with state := .busy, poll := some ⟨q, c⟩ } })
      ∧ (free → alone → c.bus = .twoWire → s.mou.twoWire.recPending = none → exec (.dueMoment e) s =
          after (fun p => { p with
            late := satAdd p.late 0, errors := if s.dataLow = true then satInc p.errors else p.errors }) { s.mou with
            twoWire := if s.dataLow = true then
                { s.mou.twoWire with
                  state := .recovering, poll := none, recovery := some ⟨.lineLow, false⟩, recPending := none, retryAt := none }
              else { s.mou.twoWire with state := .busy, poll := some ⟨q, c⟩ }
            lineSamples := s.mou.lineSamples + 1 })

/-- A good transaction counts a sample. Of kind IMU6, the mount table comes into force and the head rates join the history, or
are rejected when the trigger time is not after the newest entry: each axis takes the signed 16-bit value of its raw axis,
times the gain over 2^14, rounded halves away from zero, saturated to ±32767 and negated under MINUS; a saturation on any axis
is counted once. With FIFO on its record joins the sample FIFO, the 16-bit values of IMU6 and MAG3 rewritten as little-endian;
a full FIFO first loses its oldest record, counted, with FIFO_OVERFLOW and the next record marked GAP. A refused one on
TWO_WIRE counts an error and raises POLL_ERROR with the phase. The bus is then free: with nothing waiting it is IDLE; else a
pending recovery goes first, then a WAITING relay, then the head of the queue, on TWO_WIRE the last two with a line check (its
level is a free value, log entry 8; the late count rises before it, log entry 24). -/
def Obligations.TransactionCompletes : Prop :=
  (∀ (s : State) (b : Bus) (w : PollWork) (bytes : List Byte), s.held = false → (s.bus b).poll = some w →
    (s.bus b).queue = [] → s.mou.relay = none → s.mou.twoWire.recPending = none →
    let freed (m : Mou) (v : Evu) : State :=
      ({ s with mou := m, evu := v }).onBus b fun c => { c with state := .idle, poll := none }
    let sampled : Mou := { s.mou with poll := tabMod s.mou.poll w.q.entry fun p => { p with samples := satInc p.samples } }
    let refused : Mou := { s.mou with poll := tabMod s.mou.poll w.q.entry fun p => { p with errors := satInc p.errors } }
    let values : Nat := if w.cfg.kind = .imu6 then 6 else if w.cfg.kind = .mag3 then 3 else 0
    let payload : List Byte := (List.range bytes.length).map fun k =>
      if w.cfg.big = true ∧ k / 2 < values ∧ k / 2 * 2 + 1 < bytes.length
      then bytes.getD (if k % 2 = 0 then k + 1 else k - 1) 0 else bytes.getD k 0
    let record : SensorRec :=
      { kind := w.cfg.kind, entry := w.q.entry, timeUnset := w.q.timeUnset, gap := false, decimated := w.q.decimated
        late := w.q.late, time := w.q.trigger, payload := payload, joined := s.osc }
    let mount := s.mou.mountWritten
    let raw (axis : Axis) : Int :=
      let k := match axis with
        | .x => 0
        | .y => 2
        | .z => 4
      let first := (bytes.getD k 0).toNat
      let second := (bytes.getD (k + 1) 0).toNat
      (BitVec.ofNat 16 (if w.cfg.big then first * 256 + second else first + second * 256)).toInt
    let scaled (m : AxisMap) : Int := roundDiv (raw m.axis * mount.gain) 16384
    let rate (m : AxisMap) : Int :=
      let v := max (-32767) (min 32767 (scaled m))
      if m.minus then -v else v
    let saturates : Bool :=
      decide (32767 < (scaled mount.yaw).natAbs ∨ 32767 < (scaled mount.pitch).natAbs ∨ 32767 < (scaled mount.roll).natAbs)
    let mounted : Mou := { sampled with mountForce := mount, saturations := satAdd s.mou.saturations (bit saturates) }
    let newer : Bool := (s.mou.history.getLast?.map fun e => decide (0 < (w.q.trigger - e.time).toInt)).getD true
    let taken : Mou :=
      if w.cfg.kind ≠ .imu6 then sampled
      else if newer then { mounted with
        history := (if s.mou.history.length < 64 then s.mou.history else s.mou.history.drop 1) ++
          [{ time := w.q.trigger, yaw := rate mount.yaw, pitch := rate mount.pitch, roll := rate mount.roll }] }
      else { mounted with historyRejects := satInc s.mou.historyRejects }
    let goes (t : State) : Prop := exec (.transactionCompletes b (.good bytes)) s = .next t
    let joined : Mou := { taken with fifo := s.mou.fifo ++ [record], records := satInc s.mou.records }
    (bytes.length = w.cfg.length → w.cfg.toFifo = false → goes (freed taken s.evu))
      ∧ (bytes.length = w.cfg.length → w.cfg.toFifo = true → s.mou.fifo.length + 1 < s.mou.watermark →
        s.mou.fifo.length < 64 → s.flushDue = false → 0 < s.mou.flushTimeout → goes (freed joined s.evu))
      ∧ (bytes.length = w.cfg.length → w.cfg.toFifo = true → 8 ≤ s.ltx.motion.length → s.mou.fifo.length < 64 →
        goes (freed joined s.evu))
      ∧ (∀ r head rest, bytes.length = w.cfg.length → w.cfg.toFifo = true → 8 ≤ s.ltx.motion.length →
        s.mou.fifo = r :: head :: rest → 64 ≤ s.mou.fifo.length →
        let drops := satInc s.mou.fifoDrops
        goes (freed { joined with fifo := { head with gap := true } :: rest ++ [record], fifoDrops := drops }
          (s.evu.take .fifoOverflow (leBytes 1 r.entry.val ++ leBytes 4 r.time.toNat ++ leBytes 4 drops) s.now s.timeUnset)))
      ∧ (b = .twoWire → exec (.transactionCompletes b .refusedAddress) s = .next (freed refused
          (s.evu.take .pollError [BitVec.ofNat 8 w.q.entry.val, BitVec.ofNat 8 w.cfg.device, 0] s.now s.timeUnset)))
      ∧ (b = .twoWire → exec (.transactionCompletes b .refusedData) s = .next (freed refused
          (s.evu.take .pollError [BitVec.ofNat 8 w.q.entry.val, BitVec.ofNat 8 w.cfg.device, 1] s.now s.timeUnset))))
    ∧ ∀ (s : State) (b : Bus) (w : PollWork) (bytes : List Byte), s.held = false → (s.bus b).poll = some w →
      bytes.length = w.cfg.length → w.cfg.kind ≠ .imu6 → w.cfg.toFifo = false →
      let free : State := (s.onPoll w.q.entry fun p => { p with samples := satInc p.samples }).onBus b fun c =>
        { c with state := .idle, poll := none }
      let checked (t : State) : State := { t with mou := { t.mou with lineSamples := t.mou.lineSamples + 1 } }
      let recovers (t : State) (cause : Cause) (forRelay : Bool) : State := t.onBus .twoWire fun c =>
        { c with state := .recovering, poll := none, recovery := some ⟨cause, forRelay⟩, recPending := none, retryAt := none }
      let goes (t : State) : Prop := exec (.transactionCompletes b (.good bytes)) s = .next t
      let waits (r : Relay) : Prop := s.mou.relay = some r ∧ r.bus = b ∧ r.phase = .waiting
      let clear : Prop := b = .serial4 ∨ s.mou.twoWire.recPending = none
      (∀ cause, b = .twoWire → s.mou.twoWire.recPending = some cause → goes (recovers free cause false))
        ∧ (∀ r, clear → waits r →
          let first := if r.writeBytes ≠ [] then RelayPhase.write else if 0 < r.readLen then .read else .probe
          let busy := free.onBus b fun c => { c with state := .busy }
          let runs : State := { busy with mou := { busy.mou with relay := some { r with phase := first } } }
          (b = .serial4 → goes runs)
            ∧ (b = .twoWire → s.dataLow = false → goes (checked runs))
            ∧ (b = .twoWire → s.dataLow = true → goes (recovers (checked runs) .lineLow true)))
        ∧ ∀ q rest, clear → (∀ r, ¬ waits r) → (s.bus b).queue = q :: rest →
          let begun := (free.onPoll q.entry fun p => { p with late := satAdd p.late (bit q.late) }).onBus b fun c =>
            { c with queue := rest }
          let runs := begun.onBus b fun c => { c with state := .busy, poll := some ⟨q, s.mou.poll[q.entry].cfg⟩ }
          (b = .serial4 → goes runs)
            ∧ (b = .twoWire → s.dataLow = false → goes (checked runs))
            ∧ (b = .twoWire → s.dataLow = true →
              goes (recovers (checked (begun.onPoll q.entry fun p => { p with errors := satInc p.errors })) .lineLow false))

/-- A clock-hold failure fails the poll with an error, or refuses the relay with BUS_ERROR, and starts a recovery with cause
STRETCH. A recovery that succeeds raises BUS_RECOVERED and leaves TWO_WIRE IDLE, or BUSY again for the relay it was for; one
that fails raises BUS_FAULT, empties the due queue and starts the 64 ms retry timer, counted on the oscillator (log entry 43), whose
expiry starts a recovery; a relay WAITING on TWO_WIRE, or the one for whose line check the recovery was, then ends with BUS_ERROR
and frees the slot, while a relay on SERIAL4 goes on. -/
def Obligations.RecoveryRunsOnTwoWire : Prop :=
  ∀ s : State, s.held = false →
    let bus := s.mou.twoWire
    let recovering (cause : Cause) : BusCtl :=
      { bus with state := .recovering, poll := none, recovery := some ⟨cause, false⟩, recPending := none, retryAt := none }
    let detail (r : Recovery) (n : Fin 10) : List Byte := [BitVec.ofNat 8 r.cause.code, BitVec.ofNat 8 n.val]
    (∀ w, bus.poll = some w → exec .clockHoldFailure s = .next { s with mou := { s.mou with
        twoWire := recovering .stretch
        poll := tabMod s.mou.poll w.q.entry fun p => { p with errors := satInc p.errors } } })
      ∧ (∀ r k, bus.poll = none → s.mou.relay = some r → r.bus = .twoWire → r.phase.transfers = true → bus.state = .busy →
        s.mrs.slot = some k → exec .clockHoldFailure s = .next { s with
          mou := { s.mou with twoWire := recovering .stretch, relay := none }
          mrs := { s.mrs with slot := none }
          ltx := { s.ltx with reply := s.ltx.reply ++ [
            { tag := k.tag, status := .busError, table := 1, count := k.count, index := k.index, data := []
              restart := false }] } })
      ∧ (∀ r n, bus.recovery = some r → r.forRelay = false → bus.recPending = none → bus.queue = [] → s.mou.relay = none →
        exec (.recoveryCompletes (.success n)) s = .next { s with
          mou := { s.mou with twoWire := { bus with state := .idle, recovery := none }, recoveries := satInc s.mou.recoveries }
          evu := s.evu.take .busRecovered (detail r n) s.now s.timeUnset })
      ∧ (∀ r n, bus.recovery = some r → r.forRelay = true → exec (.recoveryCompletes (.success n)) s = .next { s with
          mou := { s.mou with twoWire := { bus with state := .busy, recovery := none }, recoveries := satInc s.mou.recoveries }
          evu := s.evu.take .busRecovered (detail r n) s.now s.timeUnset })
      ∧ (∀ r n, bus.recovery = some r →
        let ends : Prop := ∃ x, s.mou.relay = some x ∧ x.bus = .twoWire ∧ (r.forRelay = true ∨ x.phase = .waiting)
        let failed : State := { s with
          mou := { s.mou with
            twoWire := { bus with state := .fault, queue := [], recovery := none, retryAt := some (s.osc + 64 * 24576) }
            recoveryFailures := satInc s.mou.recoveryFailures }
          evu := s.evu.take .busFault (detail r n) s.now s.timeUnset }
        (¬ ends → exec (.recoveryCompletes (.failure n)) s = .next failed)
          ∧ (∀ k, ends → s.mrs.slot = some k → exec (.recoveryCompletes (.failure n)) s = .next { failed with
            mou := { failed.mou with relay := none }
            mrs := { s.mrs with slot := none }
            ltx := { s.ltx with reply := s.ltx.reply ++ [
              { tag := k.tag, status := .busError, table := 1, count := k.count, index := k.index, data := []
                restart := false }] } }))
      ∧ (s.retryDue = true → exec .retryExpiry s = .next { s with mou := { s.mou with twoWire := recovering .retry } })

/-- A relay in a transfer. Its last phase's end answers OK with the read length and the bytes, a missing acknowledgement on
TWO_WIRE answers BUS_ERROR, and either frees the slot and the bus; which phase is the last is log entry 35. The end of its write
phase holds the bus for the wait-after interval, counted on the oscillator and rounded up to a tick (log entry 43), and the
end of the wait begins the read phase, on TWO_WIRE with a line check first: a low line starts a recovery for the relay (its
level is a free value, log entry 8). The slot's timeout answers TIMEOUT and aborts the relay: a running one on TWO_WIRE leaves
the bus in recovery, a running one on SERIAL4 leaves it IDLE. -/
def Obligations.RelayRunsToItsReply : Prop :=
  ∀ (s : State) (r : Relay) (k : Slot), s.held = false → s.mou.relay = some r → s.mrs.slot = some k → (s.bus r.bus).queue = [] →
    s.mou.twoWire.recPending = none → r.phase ≠ .waiting →
    let answered (st : Status) (count : Byte) (data : List Word) (m : Mou) : State := { s with
      mou := { m with relay := none }
      mrs := { s.mrs with slot := none }
      ltx := { s.ltx with reply := s.ltx.reply ++ [
        { tag := k.tag, status := st, table := 1, count := count, index := k.index, data := data, restart := false }] } }
    let freed : Mou := (s.onBus r.bus fun c => { c with state := .idle, poll := none }).mou
    (∀ bytes, r.phase.transfers = true → (s.bus r.bus).state = .busy → r.lastPhase = true → bytes.length = r.readLen →
        exec (.relayCompletes (.ok bytes)) s =
          .next (answered .ok (BitVec.ofNat 8 k.readLen) (wordsOf ((k.readLen + 3) / 4) bytes) freed))
      ∧ (r.phase.transfers = true → (s.bus r.bus).state = .busy → r.bus = .twoWire →
        exec (.relayCompletes .refused) s = .next (answered .busError k.count [] freed))
      ∧ ((s.bus r.bus).state = .busy → r.phase = .write → 0 < r.waitAfter → exec .relayWritePhaseEnd s = .next { s with
          mou := { s.mou with relay := some { r with phase := .wait, waitEnd := s.osc + usTicks r.waitAfter } } })
      ∧ (r.phase = .wait → r.waitEnd ≤ s.osc → r.bus = .serial4 → 0 < r.readLen → exec .relayWaitEnd s = .next { s with
          mou := { s.mou with relay := some { r with phase := .read } } })
      ∧ (r.phase = .wait → r.waitEnd ≤ s.osc → r.bus = .twoWire → 0 < r.readLen → exec .relayWaitEnd s = .next { s with
          mou := { s.mou with
            relay := some { r with phase := .read }, lineSamples := s.mou.lineSamples + 1
            twoWire := if s.dataLow = true then
                { s.mou.twoWire with
                  state := .recovering, poll := none, recovery := some ⟨.lineLow, true⟩, recPending := none, retryAt := none }
              else s.mou.twoWire } })
      ∧ (k.deadline ≤ s.osc → r.bus = .serial4 → exec .relayTimeout s = .next (answered .timeout k.count [] freed))
      ∧ (k.deadline ≤ s.osc → r.bus = .twoWire → exec .relayTimeout s = .next (answered .timeout k.count [] { s.mou with
          twoWire := { s.mou.twoWire with
            state := .recovering, poll := none, recovery := some ⟨.relayAbort, false⟩, recPending := none, retryAt := none } }))

/-- When the flush timeout of the oldest record has run (on the oscillator, to the first tick at or after: log entry 43),
batches are built: the oldest records leave the FIFO, at least one with room in the MOTION queue, and stand in order as the
payloads of new cells at its end, each as many whole records as fit in 96 bytes; batches rises once per cell; afterwards the
batch condition fails, the FIFO is empty, or the MOTION queue is full. -/
def Obligations.FlushTimeoutBuildsBatches : Prop :=
  ∀ s : State, s.held = false → s.flushDue = true → (∀ r ∈ s.mou.fifo, r.payload.length ≤ 16) →
    s.ltx.motion.length ≤ 8 →
    ∃ t n, ∃ groups : List (List SensorRec), exec .flushTimeout s = .next t ∧ groups.flatten = s.mou.fifo.take n
      ∧ t.mou = { s.mou with fifo := s.mou.fifo.drop n, batches := satInc^[groups.length] s.mou.batches }
      ∧ t.ltx = { s.ltx with motion := s.ltx.motion ++ groups.map fun g => g.flatMap SensorRec.bytes }
      ∧ (∀ g ∈ groups, g ≠ [] ∧ (g.flatMap SensorRec.bytes).length ≤ 96)
      ∧ (∀ before_ g r after_, groups = before_ ++ g :: after_ → (s.mou.fifo.drop (before_ ++ [g]).flatten.length).head? = some r →
        96 < (g.flatMap SensorRec.bytes).length + r.bytes.length)
      ∧ (s.ltx.motion.length < 8 → 0 < n) ∧ t.ltx.motion.length ≤ 8
      ∧ (t.batchDue = false ∨ t.mou.fifo = [] ∨ t.ltx.motion.length = 8)
      ∧ { t with mou := s.mou, ltx := s.ltx } = s

/-! ### Audio (chapter 8) -/

/-- A cell steered to the audio unit. One whose LEN is not 32 is counted malformed and is a silence block. The first block while
STOPPED makes its stream the owner, and the state FILLING; a block of another stream is counted foreign. A block of the owner
restarts the idle timer; with no gap it joins the buffer, with a gap of 1 to 3 behind as many silence blocks, counted, with
AUDIO_GAP, with one of 4 to 127 it empties the buffer first and fills again, and with a greater one it is late and dropped. A
full buffer first loses its oldest block, counted, with AUDIO_OVERRUN (each before AUDIO_GAP: log entry 45). In FILLING a buffer
that reaches the fill target makes the state PLAYING. -/
def Obligations.AudioCellsFillBuffer : Prop :=
  ∀ (s : State) (c : RxCell) (payload : List Byte) (p0 p1 : Byte), s.held = false → s.lrx.cell = some c →
    c.locked = true → c.sn ≠ 0 → c.kind = .data → payload.length = 128 → payloadGood (payload.take (4 * c.len)) p0 p1 = true →
    ((s.stu.written.toList.find? fun w => w.hits c.sn.val).map Window.destination) = some .audio →
    let a := (s.arrived true).handEdges s.levels (s.arrived true).levels
    let e := s.stu.streams[c.sn]
    let g := (c.seq - (e.lastSeq + 1)).toNat
    let gap := if e.tracking = false then 0 else if g = 0 then bit e.gapPending else g
    let sample (k : Nat) : Sample := BitVec.ofNat 16 (ofLe ((payload.drop k).take 2))
    let silent : Block := List.replicate 32 ⟨0, 0⟩
    let block : Block := if c.len = 32 then (List.range 32).map fun k => ⟨sample (4 * k), sample (4 * k + 2)⟩ else silent
    let old : Auu := { s.auu with
      malformedBlocks := if c.len = 32 then s.auu.malformedBlocks else satInc s.auu.malformedBlocks }
    let add (x : List Block × Nat × Evu) (b : Block) : List Block × Nat × Evu :=
      if x.1.length < 24 then (x.1 ++ [b], x.2)
      else (x.1.drop 1 ++ [b], satInc x.2.1,
        x.2.2.take .audioOverrun (leBytes 1 s.auu.owner ++ leBytes 4 (satInc x.2.1)) s.now s.timeUnset)
    let filled := (List.replicate gap silent ++ [block]).foldl add (s.auu.buffer, s.auu.overruns, a.evu)
    let owned : Prop := s.auu.state ≠ .stopped ∧ s.auu.owner = c.sn.val
    let timer := some (s.osc + 2457600)
    let tracked : Stu := { a.stu with
      streams := tabMod s.stu.streams c.sn fun e => { e with
        tracking := true, lastSeq := c.seq, gapPending := false, goodCells := satInc e.goodCells
        gaps := satAdd e.gaps (if gap = 0 then 0 else 1) } }
    ∃ t, exec (.cellArrival payload p0 p1) s = .next t
      ∧ { t with lrx := s.lrx, stu := s.stu, auu := s.auu, pmg := s.pmg, evu := s.evu, pte := s.pte, mou := s.mou
                 pxp := s.pxp, ftm := s.ftm } = s
      ∧ (s.auu.state = .stopped → s.auu.buffer = [] → 2 ≤ s.auu.fillTarget → t.auu = { old with
          owner := c.sn.val, buffer := [block], blocks := satInc s.auu.blocks, state := .filling, idleAt := timer
          cap := t.auu.cap })
      ∧ (s.auu.state ≠ .stopped → s.auu.owner ≠ c.sn.val → t.auu = { old with
          foreignBlocks := satInc s.auu.foreignBlocks, cap := t.auu.cap })
      ∧ (owned → gap ≤ 3 → t.auu = { old with
          buffer := filled.1, overruns := filled.2.1, idleAt := timer, blocks := satInc s.auu.blocks
          silenceBlocks := if gap = 0 then s.auu.silenceBlocks else satAdd s.auu.silenceBlocks gap
          state := if s.auu.state = .filling ∧ s.auu.fillTarget ≤ filled.1.length then .playing else s.auu.state
          cap := t.auu.cap })
      ∧ (owned → 4 ≤ gap → gap ≤ 127 → 2 ≤ s.auu.fillTarget → t.auu = { old with
          buffer := [block], state := .filling, gapFlushes := satInc s.auu.gapFlushes, blocks := satInc s.auu.blocks
          idleAt := timer, cap := t.auu.cap })
      ∧ (owned → 127 < gap → t.auu = { old with
          lateBlocks := satInc s.auu.lateBlocks, idleAt := timer, cap := t.auu.cap })
      ∧ (s.auu.state ≠ .stopped → s.requestChanged = false → t.auu.cap = s.auu.cap ∧ t = { a with
          stu := tracked, auu := t.auu
          evu := if owned ∧ gap = 0 then filled.2.2
            else if owned ∧ gap ≤ 3 then
              filled.2.2.take .audioGap (leBytes 1 s.auu.owner ++ leBytes 1 gap) s.now s.timeUnset
            else a.evu })

/-- On the frame clock. A period start steps the gain by at most 512 toward its target, fixes F for the period, and in PLAYING
takes the oldest block with the servo's step, or is an underrun and refills; otherwise the period carries no stream. An output
frame sends the mix of the stream and the tone and moves the clock by 512 + F/128 ticks, the fraction being kept and a moment
between two ticks taken at the later one (log entry 53). A microphone sample that is due joins
its block, and the forty-fourth hands the block to the VOICE queue, whose oldest cell goes when it is full. MIC_BLOCK_COMPLETE is
the forty-fourth sample's row: before it the row changes nothing, and at it either row is the same act (the model's choice:
log entries 2 and 3). -/
def Obligations.AudioRunsOnFrameClock : Prop :=
  ∀ s : State, s.held = false →
    let a := s.auu
    let target := min (if a.mute then 0 else a.volume) a.cap
    let started : Auu := { a with
      frameIdx := 0, periodF := a.servoF
      gain := if target + 512 < a.gain then a.gain - 512 else if a.gain + 512 < target then a.gain + 512 else target }
    let frame := (a.playout.map fun b => b.getD a.frameIdx ⟨0, 0⟩).getD ⟨0, 0⟩
    (∀ b rest, s.periodDue = true → a.state = .playing → a.buffer = b :: rest →
        let err : Int := (rest.length : Int) - a.fillTarget
        exec .periodStart s = .next { s with auu := { started with
          buffer := rest, playout := some b
          servoF := max (-16) (min 16 (if 2 ≤ err then a.servoF - 1 else if err ≤ -2 then a.servoF + 1 else a.servoF)) } })
      ∧ (s.periodDue = true → a.state = .playing → a.buffer = [] → exec .periodStart s = .next { s with
          auu := { started with state := .filling, playout := none, underruns := satInc a.underruns }
          evu := s.evu.take .audioUnderrun (leBytes 1 a.owner ++ leBytes 4 (satInc a.underruns)) s.now s.timeUnset })
      ∧ (s.periodDue = true → a.state ≠ .playing → exec .periodStart s = .next { s with
          auu := { started with playout := none } })
      ∧ (s.frameDue = true → exec .outputFrame s = .next { s with auu := { a with
          dacLeft := mix frame.left.toInt s.pte.tone a.gain, dacRight := mix frame.right.toInt s.pte.tone a.gain
          frameIdx := a.frameIdx + 1, frameAt := a.frameAt + (65536 + a.periodF).toNat
          micPhase := (a.micPhase + 1) % 3, micDue := a.micDue || decide (a.micPhase = 2) } })
      ∧ (∀ (x tone : Int) (gain : Nat), -32768 ≤ mix x tone gain ∧ mix x tone gain ≤ 32767
          ∧ mix x tone 32768 = max (-32768) (min 32767 (x + tone)) ∧ mix x tone 0 = 0)
      ∧ ∀ x : Sample, s.micReady = true →
        let b : MicBlock := match a.mic with
          | none => { time := s.lrx.tt, samples := [x] }
          | some b => { b with samples := b.samples ++ [x] }
        (b.samples.length < 44 → exec (.microphoneSample x) s = .next { s with auu := { a with micDue := false, mic := some b } }
            ∧ exec (.micBlockComplete x) s = .next s)
          ∧ (b.samples.length = 44 → ∃ v n,
            exec (.microphoneSample x) s = .next { s with
              auu := { a with micDue := false, mic := none, micBlocks := satInc a.micBlocks }
              ltx := { s.ltx with voice := v, voiceDrops := n } }
            ∧ exec (.micBlockComplete x) s = exec (.microphoneSample x) s
            ∧ (s.ltx.voice.length < 8 → v = s.ltx.voice ++ [b.payload] ∧ n = s.ltx.voiceDrops)
            ∧ (8 ≤ s.ltx.voice.length → v = s.ltx.voice.drop 1 ++ [b.payload] ∧ n = satInc s.ltx.voiceDrops))

/-! ### Pattern engine (chapter 9) -/

/-- A pattern's moments. Each whole millisecond but the last raises elapsed and forms the level again: L, floor(L × e / D) or
floor(L × (D − e) / D). Each half period reverses the polarity, on channel H with both outputs low for the dead time, which
ends at the first tick at or after its end (log entry 43). At the end of its duration the next step begins at once with a
POSITIVE polarity, on channel H as a reversal where the polarity was NEGATIVE, or the pattern ends with PATTERN_DONE: DONE at
END, else BUDGET when no budget is left; on channel H both outputs are then low, the on-time is over, the bridge IDLE unless it
is HELD, and the load requests are brought up to date; a dead time in progress runs on (log entry 31). -/
def Obligations.PatternRunsItsSteps : Prop :=
  ∀ (s : State) (c : Channel) (p : Pattern), s.held = false → s.pte.chan c = some p →
    let formed (x : Step) (e : Nat) : Nat := match x.envelope with
      | .flat => x.level
      | .rise => x.level * e / x.duration
      | .fall => x.level * (x.duration - e) / x.duration
    let low (x : Pte) : Pte := { x with hp := false, hn := false, deadEnd := some (s.osc + usTicks x.deadTime) }
    let fresh (n : Fin 48) : Pattern := { p with
      budgetLeft := p.budgetLeft - 1, stepsBegun := p.stepsBegun + 1, step := n, copy := s.pte.steps[n], elapsed := 0
      level := formed s.pte.steps[n] 0, negative := false, began := p.began + p.copy.duration * 24576
      reversed := p.began + p.copy.duration * 24576 }
    let turned : Pattern := { p with negative := !p.negative, reversed := p.reversed + p.copy.halfPeriod * 512 }
    (p.elapsedDue s.osc = true → exec (.elapsedRise c) s = .next { s with
        pte := s.pte.setChan c (some { p with elapsed := p.elapsed + 1, level := formed p.copy (p.elapsed + 1) }) })
      ∧ (p.reversalDue s.osc = true → c = .t → exec (.polarityReversal c) s = .next { s with
        pte := s.pte.setChan c (some turned) })
      ∧ (p.reversalDue s.osc = true → c = .h → exec (.polarityReversal c) s = .next { s with
        pte := low (s.pte.setChan c (some turned)) })
      ∧ (∀ n, p.stepEndDue s.osc = true → p.copy.next = some n → p.budgetLeft ≠ 0 → s.requestChanged = false →
        exec (.stepEnd c) s = .next { s with
          pte := if c = .h ∧ p.negative = true then low (s.pte.setChan c (some (fresh n)))
            else s.pte.setChan c (some (fresh n)) })
      ∧ (p.stepEndDue s.osc = true → p.copy.next = none ∨ p.budgetLeft = 0 →
        let why := if p.copy.next = none then EndReason.done else .budget
        (c = .t → s.requestChanged = false → exec (.stepEnd c) s = .next { s with
            pte := { s.pte with chanT := none }
            evu := s.evu.take .patternDone (patternDetail c why p) s.now s.timeUnset })
          ∧ (c = .h →
            let ended : State := { s with
              pte := { s.pte with
                chanH := none, hp := false, hn := false, onLevel := 0
                bridge := if s.pte.bridge = .held then .held else .idle }
              evu := s.evu.take .patternDone (patternDetail .h why p) s.now s.timeUnset }
            exec (.stepEnd c) s = .next ended.refreshLoads ∧ ended.refreshLoads.requestChanged = false))

/-- The haptic outputs. At a carrier period start the cap handed comes into force and the on-time is fixed at min(level,
cap) / 255 of the period while DRIVING, else 0; the active side, HP for POSITIVE and HN for NEGATIVE, is high while the
on-time runs (up to the first tick at or after its end: log entry 43), and both are low in a dead time. The end of a dead
time drives the side the rest of the period gives it; the end of the on-time makes both low. -/
def Obligations.HapticOutputsFollowCarrier : Prop :=
  ∀ s : State, s.held = false →
    let x := s.pte
    let negative := (x.chanH.map Pattern.negative).getD false
    let level := if x.bridge = .driving then min ((x.chanH.map Pattern.level).getD 0) x.capHanded else 0
    let period : Pte := { x with
      capForce := x.capHanded, periodStart := x.carrierAt, carrierAt := x.carrierAt + 1024, onLevel := level }
    let on := decide ((s.osc - x.carrierAt) * 255 < level * 1024)
    let rest := decide ((s.osc - x.periodStart) * 255 < x.onLevel * 1024) && decide (x.bridge = .driving)
    (s.carrierDue = true → x.deadEnd = none → exec .carrierPeriodStart s = .next { s with
        pte := { period with hp := on && !negative, hn := on && negative } })
      ∧ (s.carrierDue = true → x.deadEnd ≠ none → exec .carrierPeriodStart s = .next { s with
        pte := { period with hp := false, hn := false } })
      ∧ (s.deadTimeOver = true → exec .deadTimeEnd s = .next { s with
        pte := { x with deadEnd := none, hp := rest && !negative, hn := rest && negative } })
      ∧ (s.onTimeOver = true → exec .onTimeEnd s = .next { s with pte := { x with hp := false, hn := false } })

/-! ### Power manager (chapter 10) -/

/-- A measurement, its readings limited to 8000 mV and 4000 mA (log entry 21), joins the window of eight and forms the floor of the
means. The current hold begins at the fourth filtered current above I_max in a row and ends at the eighth within it; where it
begins, NORMAL and CONSTRAINED become SHED, and while it lasts the state only falls, to SHED. Below V_trip the measurement
enters TRIP: every grant and derived value 0, strobes and bridge HELD, patterns ended, sensors SUSPENDED. In TRIP the eighth
good measurement in a row gives SHED, which no ladder follows at that measurement (log entry 28). Without a current hold the
state follows the voltage ladder. While the image loads the state stays HELD; with loading ended HELD makes its choice, SHED
under the hold. -/
def Obligations.MeasurementMovesPowerState : Prop :=
  ∀ (s : State) (mv ma : Nat), s.held = false → s.measureDue = true →
    let w := (if s.pmg.window.length < 8 then s.pmg.window else s.pmg.window.drop 1) ++ [⟨min mv 8000, min ma 4000⟩]
    let f := (w.map Sense.mv).sum / w.length
    let i := (w.map Sense.ma).sum / w.length
    let c := s.pmg.cfg
    let ladderState : Prop := s.pmg.state = .normal ∨ s.pmg.state = .constrained ∨ s.pmg.state = .shed
    let good : Prop := c.vShed + c.hysteresis ≤ f ∧ c.vTrip ≤ min mv 8000
    let begins : Prop := s.pmg.hold = false ∧ c.iMax < i ∧ s.pmg.overCount + 1 = 4
    let holds : Bool := decide begins || (s.pmg.hold && !decide (i ≤ c.iMax ∧ s.pmg.underCount + 1 = 8))
    ∃ t, exec (.measurement mv ma) s = .next t
      ∧ t.clock = { s.clock with measAt := s.clock.measAt + 24576 }
      ∧ t.pmg.latest = ⟨min mv 8000, min ma 4000⟩ ∧ t.pmg.window = w ∧ t.pmg.filtered = ⟨f, i⟩
      ∧ (ladderState → min mv 8000 < c.vTrip →
          t.pmg.state = .trip ∧ t.pmg.budget = 0 ∧ t.pmg.recoverCount = 0 ∧ t.pmg.trips = satAdd s.pmg.trips 1
            ∧ (∀ i : Fin 8, t.pmg.loads[i].grant = 0) ∧ t.pmg.ceilings = ⟨0, 0⟩ ∧ t.auu.cap = 0 ∧ t.pte.capHanded = 0
            ∧ t.mou.sensorClass = .suspended ∧ (t.panel .a).strobe = .held ∧ (t.panel .b).strobe = .held
            ∧ t.pte.bridge = .held ∧ t.pte.hp = false ∧ t.pte.hn = false ∧ t.pte.chanT = none ∧ t.pte.chanH = none)
      ∧ (s.pmg.state = .trip → good → s.pmg.recoverCount + 1 = 8 → t.pmg.state = .shed ∧ t.pmg.recoverCount = 0)
      ∧ (s.pmg.state = .trip → good → s.pmg.recoverCount + 1 ≠ 8 →
          t.pmg.state = .trip ∧ t.pmg.recoverCount = s.pmg.recoverCount + 1)
      ∧ (s.pmg.state = .trip → ¬ good → t.pmg.state = .trip ∧ t.pmg.recoverCount = 0)
      ∧ t.pmg.hold = holds
      ∧ (s.pmg.hold = false → i ≤ c.iMax → t.pmg.overCount = 0 ∧ t.pmg.underCount = s.pmg.underCount
          ∧ t.pmg.currentHolds = s.pmg.currentHolds)
      ∧ (s.pmg.hold = false → c.iMax < i → s.pmg.overCount + 1 ≠ 4 → t.pmg.overCount = s.pmg.overCount + 1
          ∧ t.pmg.underCount = s.pmg.underCount ∧ t.pmg.currentHolds = s.pmg.currentHolds)
      ∧ (begins → t.pmg.overCount = 0 ∧ t.pmg.underCount = 0 ∧ t.pmg.currentHolds = satInc s.pmg.currentHolds)
      ∧ (s.pmg.hold = true → t.pmg.overCount = s.pmg.overCount ∧ t.pmg.currentHolds = s.pmg.currentHolds
          ∧ t.pmg.underCount = if i ≤ c.iMax ∧ s.pmg.underCount + 1 ≠ 8 then s.pmg.underCount + 1 else 0)
      ∧ (ladderState → c.vTrip ≤ min mv 8000 → begins → t.pmg.state = .shed)
      ∧ (ladderState → c.vTrip ≤ min mv 8000 → s.pmg.hold = true → holds = true →
          t.pmg.state = if f < c.vShed then .shed else s.pmg.state)
      ∧ (ladderState → c.vTrip ≤ min mv 8000 → holds = false →
          (s.pmg.state = .normal → t.pmg.state = (if f < c.vShed then .shed else if f < c.vWarn then .constrained else .normal))
            ∧ (s.pmg.state = .constrained → t.pmg.state =
                (if f < c.vShed then .shed else if c.vWarn + c.hysteresis ≤ f then .normal else .constrained))
            ∧ (s.pmg.state = .shed → t.pmg.state =
                (if c.vWarn + c.hysteresis ≤ f then .normal
                 else if c.vShed + c.hysteresis ≤ f then .constrained else .shed)))
      ∧ (s.pmg.state = .held → s.cfl.state = .loading → t.pmg.state = .held ∧ t.pmg.loads = s.pmg.loads)
      ∧ (s.pmg.state = .held → s.cfl.state ≠ .loading → t.pmg.state =
          (if min mv 8000 < c.vTrip then .trip else if holds = true then .shed
           else if c.vWarn ≤ f then .normal else if c.vShed ≤ f then .constrained else .shed))
      ∧ { t with clock := s.clock, pmg := s.pmg, evu := s.evu, auu := s.auu, pte := s.pte, mou := s.mou, pxp := s.pxp
                 ftm := s.ftm } = s

/-- The budget is max(0, floor(limit × factor) − reserve), with the factor 1 in NORMAL, 3/4 in CONSTRAINED and 1/2 in SHED, and 0
in HELD and TRIP. It is formed at each change of the power state and at each store of the power table, before the allocation,
whose grants are those of that budget; the budget field shows it; after power-on reset and RESTART it is 0. -/
def Obligations.BudgetFollowsPowerState : Prop :=
  let budget (c : PowerCfg) (st : PowerState) : Nat := match st with
    | .held => 0
    | .trip => 0
    | .normal => (max 0 ((c.limit : Int) - c.reserve)).toNat
    | .constrained => (max 0 (((c.limit * 3 / 4 : Nat) : Int) - c.reserve)).toNat
    | .shed => (max 0 (((c.limit / 2 : Nat) : Int) - c.reserve)).toNat
  (∀ (s : State) (new : PowerState) (why : PowerCause), s.pmg.state ≠ new →
      let t := s.powerTo new why
      t.pmg.state = new ∧ t.pmg.budget = budget s.pmg.cfg new
        ∧ ∃ v, t.pmg.loads = allocated v new (budget s.pmg.cfg new))
    ∧ (∀ (s : State) (c : PowerCfg),
      let t := s.storePower c
      t.pmg.cfg = c ∧ t.pmg.budget = budget c t.pmg.state ∧ ∃ v, t.pmg.loads = allocated v t.pmg.state (budget c t.pmg.state))
    ∧ (∀ s : State, (s.readEntry .power 0)[9]? = some (BitVec.ofNat 32 s.pmg.budget))
    ∧ (∀ s : State, s.held = true → ∃ t, exec (.powerOnResetEnds .rstn) s = .next t ∧ t.pmg.budget = 0)
    ∧ ∀ s : State, s.held = false → s.restartSent = true → ∃ t, exec .restartTakesEffect s = .next t ∧ t.pmg.budget = 0

/-- An allocation's grants: together they are within the budget, none is above its load's request, each is 0 or at least the
load's effective floor, and when the floors fit together every load has its floor. A panel and AUX have their floor or
nothing; the sensors have nothing, their floor, or their whole request. The loads are served by priority, highest first,
and by entry number within one: pass 1 takes each effective floor that the remainder still covers, pass 2 the top-ups of the
loads that pass 1 served (of no other: log entry 30), where a SCALED load takes what is left, the backlights at entry 2's turn
halve it, A the larger half, each passing on what it leaves, and the sensors take their whole top-up or none. What it
hands over follows from the grants: each
derived value is floor(grant × top ÷ divisor) up to its top, the top with divisor 0, and 0 in HELD and TRIP; AUX_EN is high
with a grant; the sensor class is FULL, REDUCED or SUSPENDED by request and floor. A panel whose grant falls to 0 is OFF with
its ring empty and its strobe ended, an ACTIVE scan being cut: the lines after pos are counted cut, the SCANNING record takes
the cut flag, and with missing lines INCOMPLETE and MISSING_LINES; an enabled panel that is OFF waits once it has a grant. -/
def Obligations.AllocationFitsBudget : Prop :=
  (∀ (v : Vector Load 8) (budget : Nat),
    let g := grantsOf v budget
    let floor (i : Fin 8) : Nat := min v[i].floor v[i].request
    (allLoads.map fun i => g[i]).sum ≤ budget
      ∧ (∀ i : Fin 8, g[i] ≤ v[i].request ∧ (g[i] = 0 ∨ floor i ≤ g[i]))
      ∧ ((∀ i : Fin 8, v[i].priority ≤ 7) → (allLoads.map floor).sum ≤ budget → ∀ i : Fin 8, floor i ≤ g[i])
      ∧ (∀ i : Fin 8, i = 0 ∨ i = 1 ∨ i = 7 → g[i] = 0 ∨ g[i] = floor i)
      ∧ (g[6] = 0 ∨ g[6] = floor 6 ∨ g[6] = v[6].request))
    ∧ (∀ (v : Vector Load 8) (budget : Nat) (order : List (Fin 8)), order.Nodup → (∀ i, i ∈ order) →
      order.Pairwise (fun i j => v[j].priority < v[i].priority ∨ (v[i].priority = v[j].priority ∧ i < j)) →
      (∀ i : Fin 8, v[i].priority ≤ 7) →
      let floor (i : Fin 8) : Nat := min v[i].floor v[i].request
      let one : Nat × List (Fin 8) := order.foldl
        (fun a i => if floor i ≤ a.1 then (a.1 - floor i, a.2) else (a.1, i :: a.2)) (budget, [])
      let base (i : Fin 8) : Nat := if i ∈ one.2 then 0 else floor i
      let top (i : Fin 8) : Nat := if i ∈ one.2 then 0 else v[i].request - floor i
      let take (a : Nat × List Nat) (i : Fin 8) (n : Nat) : Nat × List Nat := (a.1 - n, a.2.set i.val n)
      let two : Nat × List Nat := order.foldl (fun a i =>
        if i = 2 then
          let offerA := a.1 - a.1 / 2
          let offerB := a.1 / 2
          let takeA := min offerA (top 2)
          let takeB := min offerB (top 3)
          take (take a 2 (takeA + min (offerB - takeB) (top 2 - takeA))) 3 (takeB + min (offerA - takeA) (top 3 - takeB))
        else if i = 4 ∨ i = 5 then take a i (min (top i) a.1)
        else if i = 6 then (if top 6 ≤ a.1 then take a 6 (top 6) else a)
        else a) (one.1, List.replicate 8 0)
      ∀ i : Fin 8, (grantsOf v budget)[i] = base i + two.2.getD i.val 0)
    ∧ (∀ s : State,
      let t := s.allocate
      let v := t.pmg.loads
      let none_ : Prop := s.pmg.state = .held ∨ s.pmg.state = .trip
      let value (grant divisor top : Nat) : Nat :=
        if none_ then 0 else if divisor = 0 then top else min top (grant * top / divisor)
      let g (i : Fin 8) : Nat := if none_ then 0 else (grantsOf s.requested s.pmg.budget)[i]
      (∀ i : Fin 8, v[i].request = s.wanted i ∧ v[i].grant = g i ∧ v[i].state = loadState (s.wanted i) (g i))
        ∧ t.pmg.ceilings = ⟨value (g 2) (s.panel .a).written.fullPower 1023, value (g 3) (s.panel .b).written.fullPower 1023⟩
        ∧ t.auu.cap = value (g 4) s.auu.ampPower 32768 ∧ t.pte.capHanded = value (g 5) s.pte.hapticPower 255
        ∧ t.pmg.auxOn = decide (0 < g 7)
        ∧ t.mou.sensorClass =
          (if none_ then .suspended else if s.wanted 6 ≤ g 6 then .full
           else if min s.pmg.loads[6].floor (s.wanted 6) ≤ g 6 then .reduced else .suspended)
        ∧ ∀ p : Side,
          let i : Fin 8 := if p = .a then 0 else 1
          let x := s.panel p
          (0 < s.pmg.loads[i].grant → g i = 0 → t.panel p = { x with
              scan := .off, ring := [], lastLine := none, strobe := if x.strobe = .held then .held else .idle
              pos := if x.scan = .active then x.inForce.height else x.pos
              cutLines := if x.scan = .active then satAdd x.cutLines (x.inForce.height - 1 - x.pos) else x.cutLines })
            ∧ (s.pmg.loads[i].grant = 0 → 0 < g i → x.scan = .off → x.inForce.enable = true →
              t.panel p = { x with scan := .waiting, pos := x.inForce.height })
            ∧ (s.pmg.loads[i].grant = 0 → 0 < g i → x.scan ≠ .off ∨ x.inForce.enable = false → t.panel p = x)
            ∧ ((0 < s.pmg.loads[i].grant ↔ 0 < g i) → t.panel p = x))
    ∧ ∀ (s : State) (p : Side) (F : FrameNo),
      let cut : Duo PanelState := s.pxp.panels.modify p fun x => { x with
        cutLines := satAdd x.cutLines (x.inForce.height - 1 - x.pos), pos := x.inForce.height
        ring := x.ring.filter fun l =>
          decide (x.inForce.height ≤ (l.frame - F).toNat * x.inForce.height + l.line + 16) }
      (s.ftm.scanning = none → s.cutScan p (some F) = { s with pxp := { s.pxp with panels := cut } })
        ∧ ∀ r, s.ftm.scanning = some r →
          let lines := r.missing.get p
          s.cutScan p (some F) = { s with
            pxp := { s.pxp with panels := cut }
            ftm := { s.ftm with scanning := some { r with flags := { r.flags with
              cutA := r.flags.cutA || decide (p = .a), cutB := r.flags.cutB || decide (p = .b)
              incomplete := r.flags.incomplete || decide (0 < lines) } } }
            evu := if 0 < lines then s.evu.take .missingLines
                (leBytes 1 (if p = .a then 0 else 1) ++ leBytes 2 r.number.toNat ++ leBytes 2 lines) s.now s.timeUnset
              else s.evu }

/-! ### Event unit (chapter 11) -/

/-- One occurrence raises its kind's counter. With the kind disabled nothing more happens. With coalescing on and a notice
of the kind waiting, that notice's count rises, up to 255, in its place; of several the one nearest the head (log entry 34).
Otherwise a new notice enters behind every notice of its priority or higher; at a full queue it displaces the newest notice
of the lowest priority when that is below its own, whose count is counted lost, and else is itself counted lost. -/
def Obligations.EventIsTakenByUnit : Prop :=
  ∀ (e : Evu) (k : EventKind) (detail : List Byte) (time : Time) (unset : Bool),
    let x := e.table[k.code]
    let counted := tabMod e.table k.code fun y => { y with occurrences := satInc y.occurrences }
    let n : Notice := { kind := k, priority := x.priority, count := 1, timeUnset := unset, time := time, detail := detail }
    let t := e.take k detail time unset
    let builds : Prop := x.enable = true ∧ (x.coalesce = false ∨ ∀ m ∈ e.queue, m.kind ≠ k)
    let between (l r : List Notice) : Prop := (∀ m ∈ l, x.priority ≤ m.priority) ∧ ∀ m ∈ r, m.priority < x.priority
    (x.enable = false → t = ⟨counted, e.queue⟩)
      ∧ (∀ l m r, x.enable = true → x.coalesce = true → e.queue = l ++ m :: r → m.kind = k → (∀ y ∈ l, y.kind ≠ k) →
        t = ⟨counted, l ++ { m with count := min (m.count + 1) 255 } :: r⟩)
      ∧ (∀ l r, builds → e.queue.length < 16 → e.queue = l ++ r → between l r → t = ⟨counted, l ++ n :: r⟩)
      ∧ (∀ q m, builds → 16 ≤ e.queue.length → e.queue = q ++ [m] → x.priority ≤ m.priority →
        t = ⟨tabMod counted k.code fun y => { y with lost := satInc y.lost }, e.queue⟩)
      ∧ (∀ l r m, builds → 16 ≤ e.queue.length → e.queue = l ++ r ++ [m] → m.priority < x.priority → between l r →
        t = ⟨tabMod counted m.kind.code fun y => { y with lost := satAdd y.lost m.count }, l ++ n :: r⟩)

/-! ### Invariants that every step keeps -/

/-- The state after power-on reset is safe. -/
def Obligations.ResetStateIsSafe : Prop := State.reset.safe

/-- No step takes a queue or a buffer above its capacity, the NOTICE queue out of its order, or a line ring out of its slots and
its window. -/
def Obligations.StepKeepsCapacities : Prop :=
  ∀ s t : State, s.withinCapacity ∧ s.noticesOrdered ∧ s.ringsSound → step s = .next t →
    t.withinCapacity ∧ t.noticesOrdered ∧ t.ringsSound

/-- Every step keeps the power manager consistent: the requests are what their owners want, load states and budget agree with
requests, grants and power state, the grants are within the budget, each derived value is that of its load's grant and of its
full, amp or haptic power as stored, and the sensor class is that of the sensors' grant. -/
def Obligations.StepKeepsPowerConsistent : Prop :=
  ∀ s t : State, s.powerConsistent → step s = .next t → t.powerConsistent

/-- Every step keeps the outputs safe: strobes and bridge held exactly in TRIP, HP and HN never high together and low unless
DRIVING; the servo, the gain and the SERIAL4 bus stay in their ranges. -/
def Obligations.StepKeepsOutputsSafe : Prop :=
  ∀ s t : State, s.tripHolds ∧ s.audioInRange ∧ s.serialSound → step s = .next t →
    t.tripHolds ∧ t.audioInRange ∧ t.serialSound

/-- Every step keeps the link consistent: nothing of a stream outlives LOCKED, and the counts stay in their ranges. -/
def Obligations.StepKeepsLinkConsistent : Prop :=
  ∀ s t : State, s.linkConsistent → step s = .next t → t.linkConsistent

/-- Every step keeps the frame records and the schedule in agreement. -/
def Obligations.StepKeepsFramesConsistent : Prop :=
  ∀ s t : State, s.framesConsistent → step s = .next t → t.framesConsistent
end

