-- ==== Sys2Proof/Laws/State.lean ====
section
/-! SUPPORT. One lemma for each field of State after each named updater, true by unfolding once, so that no later proof unfolds a
record update. -/

namespace Sys2Proof.Machine

open Sys2Proof

variable (s : State)

/-! ### onClock -/

@[simp] theorem State.onClock_pending (f : Clock → Clock) : (s.onClock f).pending = s.pending := rfl
@[simp] theorem State.onClock_hold (f : Clock → Clock) : (s.onClock f).hold = s.hold := rfl
@[simp] theorem State.onClock_clock (f : Clock → Clock) : (s.onClock f).clock = f s.clock := rfl
@[simp] theorem State.onClock_lrx (f : Clock → Clock) : (s.onClock f).lrx = s.lrx := rfl
@[simp] theorem State.onClock_ltx (f : Clock → Clock) : (s.onClock f).ltx = s.ltx := rfl
@[simp] theorem State.onClock_stu (f : Clock → Clock) : (s.onClock f).stu = s.stu := rfl
@[simp] theorem State.onClock_mrs (f : Clock → Clock) : (s.onClock f).mrs = s.mrs := rfl
@[simp] theorem State.onClock_cfl (f : Clock → Clock) : (s.onClock f).cfl = s.cfl := rfl
@[simp] theorem State.onClock_ftm (f : Clock → Clock) : (s.onClock f).ftm = s.ftm := rfl
@[simp] theorem State.onClock_pxp (f : Clock → Clock) : (s.onClock f).pxp = s.pxp := rfl
@[simp] theorem State.onClock_mou (f : Clock → Clock) : (s.onClock f).mou = s.mou := rfl
@[simp] theorem State.onClock_lsu (f : Clock → Clock) : (s.onClock f).lsu = s.lsu := rfl
@[simp] theorem State.onClock_auu (f : Clock → Clock) : (s.onClock f).auu = s.auu := rfl
@[simp] theorem State.onClock_pte (f : Clock → Clock) : (s.onClock f).pte = s.pte := rfl
@[simp] theorem State.onClock_pmg (f : Clock → Clock) : (s.onClock f).pmg = s.pmg := rfl
@[simp] theorem State.onClock_evu (f : Clock → Clock) : (s.onClock f).evu = s.evu := rfl

/-! ### onLrx -/

@[simp] theorem State.onLrx_pending (f : Lrx → Lrx) : (s.onLrx f).pending = s.pending := rfl
@[simp] theorem State.onLrx_hold (f : Lrx → Lrx) : (s.onLrx f).hold = s.hold := rfl
@[simp] theorem State.onLrx_clock (f : Lrx → Lrx) : (s.onLrx f).clock = s.clock := rfl
@[simp] theorem State.onLrx_lrx (f : Lrx → Lrx) : (s.onLrx f).lrx = f s.lrx := rfl
@[simp] theorem State.onLrx_ltx (f : Lrx → Lrx) : (s.onLrx f).ltx = s.ltx := rfl
@[simp] theorem State.onLrx_stu (f : Lrx → Lrx) : (s.onLrx f).stu = s.stu := rfl
@[simp] theorem State.onLrx_mrs (f : Lrx → Lrx) : (s.onLrx f).mrs = s.mrs := rfl
@[simp] theorem State.onLrx_cfl (f : Lrx → Lrx) : (s.onLrx f).cfl = s.cfl := rfl
@[simp] theorem State.onLrx_ftm (f : Lrx → Lrx) : (s.onLrx f).ftm = s.ftm := rfl
@[simp] theorem State.onLrx_pxp (f : Lrx → Lrx) : (s.onLrx f).pxp = s.pxp := rfl
@[simp] theorem State.onLrx_mou (f : Lrx → Lrx) : (s.onLrx f).mou = s.mou := rfl
@[simp] theorem State.onLrx_lsu (f : Lrx → Lrx) : (s.onLrx f).lsu = s.lsu := rfl
@[simp] theorem State.onLrx_auu (f : Lrx → Lrx) : (s.onLrx f).auu = s.auu := rfl
@[simp] theorem State.onLrx_pte (f : Lrx → Lrx) : (s.onLrx f).pte = s.pte := rfl
@[simp] theorem State.onLrx_pmg (f : Lrx → Lrx) : (s.onLrx f).pmg = s.pmg := rfl
@[simp] theorem State.onLrx_evu (f : Lrx → Lrx) : (s.onLrx f).evu = s.evu := rfl

/-! ### onLtx -/

@[simp] theorem State.onLtx_pending (f : Ltx → Ltx) : (s.onLtx f).pending = s.pending := rfl
@[simp] theorem State.onLtx_hold (f : Ltx → Ltx) : (s.onLtx f).hold = s.hold := rfl
@[simp] theorem State.onLtx_clock (f : Ltx → Ltx) : (s.onLtx f).clock = s.clock := rfl
@[simp] theorem State.onLtx_lrx (f : Ltx → Ltx) : (s.onLtx f).lrx = s.lrx := rfl
@[simp] theorem State.onLtx_ltx (f : Ltx → Ltx) : (s.onLtx f).ltx = f s.ltx := rfl
@[simp] theorem State.onLtx_stu (f : Ltx → Ltx) : (s.onLtx f).stu = s.stu := rfl
@[simp] theorem State.onLtx_mrs (f : Ltx → Ltx) : (s.onLtx f).mrs = s.mrs := rfl
@[simp] theorem State.onLtx_cfl (f : Ltx → Ltx) : (s.onLtx f).cfl = s.cfl := rfl
@[simp] theorem State.onLtx_ftm (f : Ltx → Ltx) : (s.onLtx f).ftm = s.ftm := rfl
@[simp] theorem State.onLtx_pxp (f : Ltx → Ltx) : (s.onLtx f).pxp = s.pxp := rfl
@[simp] theorem State.onLtx_mou (f : Ltx → Ltx) : (s.onLtx f).mou = s.mou := rfl
@[simp] theorem State.onLtx_lsu (f : Ltx → Ltx) : (s.onLtx f).lsu = s.lsu := rfl
@[simp] theorem State.onLtx_auu (f : Ltx → Ltx) : (s.onLtx f).auu = s.auu := rfl
@[simp] theorem State.onLtx_pte (f : Ltx → Ltx) : (s.onLtx f).pte = s.pte := rfl
@[simp] theorem State.onLtx_pmg (f : Ltx → Ltx) : (s.onLtx f).pmg = s.pmg := rfl
@[simp] theorem State.onLtx_evu (f : Ltx → Ltx) : (s.onLtx f).evu = s.evu := rfl

/-! ### onStu -/

@[simp] theorem State.onStu_pending (f : Stu → Stu) : (s.onStu f).pending = s.pending := rfl
@[simp] theorem State.onStu_hold (f : Stu → Stu) : (s.onStu f).hold = s.hold := rfl
@[simp] theorem State.onStu_clock (f : Stu → Stu) : (s.onStu f).clock = s.clock := rfl
@[simp] theorem State.onStu_lrx (f : Stu → Stu) : (s.onStu f).lrx = s.lrx := rfl
@[simp] theorem State.onStu_ltx (f : Stu → Stu) : (s.onStu f).ltx = s.ltx := rfl
@[simp] theorem State.onStu_stu (f : Stu → Stu) : (s.onStu f).stu = f s.stu := rfl
@[simp] theorem State.onStu_mrs (f : Stu → Stu) : (s.onStu f).mrs = s.mrs := rfl
@[simp] theorem State.onStu_cfl (f : Stu → Stu) : (s.onStu f).cfl = s.cfl := rfl
@[simp] theorem State.onStu_ftm (f : Stu → Stu) : (s.onStu f).ftm = s.ftm := rfl
@[simp] theorem State.onStu_pxp (f : Stu → Stu) : (s.onStu f).pxp = s.pxp := rfl
@[simp] theorem State.onStu_mou (f : Stu → Stu) : (s.onStu f).mou = s.mou := rfl
@[simp] theorem State.onStu_lsu (f : Stu → Stu) : (s.onStu f).lsu = s.lsu := rfl
@[simp] theorem State.onStu_auu (f : Stu → Stu) : (s.onStu f).auu = s.auu := rfl
@[simp] theorem State.onStu_pte (f : Stu → Stu) : (s.onStu f).pte = s.pte := rfl
@[simp] theorem State.onStu_pmg (f : Stu → Stu) : (s.onStu f).pmg = s.pmg := rfl
@[simp] theorem State.onStu_evu (f : Stu → Stu) : (s.onStu f).evu = s.evu := rfl

/-! ### onMrs -/

@[simp] theorem State.onMrs_pending (f : Mrs → Mrs) : (s.onMrs f).pending = s.pending := rfl
@[simp] theorem State.onMrs_hold (f : Mrs → Mrs) : (s.onMrs f).hold = s.hold := rfl
@[simp] theorem State.onMrs_clock (f : Mrs → Mrs) : (s.onMrs f).clock = s.clock := rfl
@[simp] theorem State.onMrs_lrx (f : Mrs → Mrs) : (s.onMrs f).lrx = s.lrx := rfl
@[simp] theorem State.onMrs_ltx (f : Mrs → Mrs) : (s.onMrs f).ltx = s.ltx := rfl
@[simp] theorem State.onMrs_stu (f : Mrs → Mrs) : (s.onMrs f).stu = s.stu := rfl
@[simp] theorem State.onMrs_mrs (f : Mrs → Mrs) : (s.onMrs f).mrs = f s.mrs := rfl
@[simp] theorem State.onMrs_cfl (f : Mrs → Mrs) : (s.onMrs f).cfl = s.cfl := rfl
@[simp] theorem State.onMrs_ftm (f : Mrs → Mrs) : (s.onMrs f).ftm = s.ftm := rfl
@[simp] theorem State.onMrs_pxp (f : Mrs → Mrs) : (s.onMrs f).pxp = s.pxp := rfl
@[simp] theorem State.onMrs_mou (f : Mrs → Mrs) : (s.onMrs f).mou = s.mou := rfl
@[simp] theorem State.onMrs_lsu (f : Mrs → Mrs) : (s.onMrs f).lsu = s.lsu := rfl
@[simp] theorem State.onMrs_auu (f : Mrs → Mrs) : (s.onMrs f).auu = s.auu := rfl
@[simp] theorem State.onMrs_pte (f : Mrs → Mrs) : (s.onMrs f).pte = s.pte := rfl
@[simp] theorem State.onMrs_pmg (f : Mrs → Mrs) : (s.onMrs f).pmg = s.pmg := rfl
@[simp] theorem State.onMrs_evu (f : Mrs → Mrs) : (s.onMrs f).evu = s.evu := rfl

/-! ### onCfl -/

@[simp] theorem State.onCfl_pending (f : Cfl → Cfl) : (s.onCfl f).pending = s.pending := rfl
@[simp] theorem State.onCfl_hold (f : Cfl → Cfl) : (s.onCfl f).hold = s.hold := rfl
@[simp] theorem State.onCfl_clock (f : Cfl → Cfl) : (s.onCfl f).clock = s.clock := rfl
@[simp] theorem State.onCfl_lrx (f : Cfl → Cfl) : (s.onCfl f).lrx = s.lrx := rfl
@[simp] theorem State.onCfl_ltx (f : Cfl → Cfl) : (s.onCfl f).ltx = s.ltx := rfl
@[simp] theorem State.onCfl_stu (f : Cfl → Cfl) : (s.onCfl f).stu = s.stu := rfl
@[simp] theorem State.onCfl_mrs (f : Cfl → Cfl) : (s.onCfl f).mrs = s.mrs := rfl
@[simp] theorem State.onCfl_cfl (f : Cfl → Cfl) : (s.onCfl f).cfl = f s.cfl := rfl
@[simp] theorem State.onCfl_ftm (f : Cfl → Cfl) : (s.onCfl f).ftm = s.ftm := rfl
@[simp] theorem State.onCfl_pxp (f : Cfl → Cfl) : (s.onCfl f).pxp = s.pxp := rfl
@[simp] theorem State.onCfl_mou (f : Cfl → Cfl) : (s.onCfl f).mou = s.mou := rfl
@[simp] theorem State.onCfl_lsu (f : Cfl → Cfl) : (s.onCfl f).lsu = s.lsu := rfl
@[simp] theorem State.onCfl_auu (f : Cfl → Cfl) : (s.onCfl f).auu = s.auu := rfl
@[simp] theorem State.onCfl_pte (f : Cfl → Cfl) : (s.onCfl f).pte = s.pte := rfl
@[simp] theorem State.onCfl_pmg (f : Cfl → Cfl) : (s.onCfl f).pmg = s.pmg := rfl
@[simp] theorem State.onCfl_evu (f : Cfl → Cfl) : (s.onCfl f).evu = s.evu := rfl

/-! ### onFtm -/

@[simp] theorem State.onFtm_pending (f : Ftm → Ftm) : (s.onFtm f).pending = s.pending := rfl
@[simp] theorem State.onFtm_hold (f : Ftm → Ftm) : (s.onFtm f).hold = s.hold := rfl
@[simp] theorem State.onFtm_clock (f : Ftm → Ftm) : (s.onFtm f).clock = s.clock := rfl
@[simp] theorem State.onFtm_lrx (f : Ftm → Ftm) : (s.onFtm f).lrx = s.lrx := rfl
@[simp] theorem State.onFtm_ltx (f : Ftm → Ftm) : (s.onFtm f).ltx = s.ltx := rfl
@[simp] theorem State.onFtm_stu (f : Ftm → Ftm) : (s.onFtm f).stu = s.stu := rfl
@[simp] theorem State.onFtm_mrs (f : Ftm → Ftm) : (s.onFtm f).mrs = s.mrs := rfl
@[simp] theorem State.onFtm_cfl (f : Ftm → Ftm) : (s.onFtm f).cfl = s.cfl := rfl
@[simp] theorem State.onFtm_ftm (f : Ftm → Ftm) : (s.onFtm f).ftm = f s.ftm := rfl
@[simp] theorem State.onFtm_pxp (f : Ftm → Ftm) : (s.onFtm f).pxp = s.pxp := rfl
@[simp] theorem State.onFtm_mou (f : Ftm → Ftm) : (s.onFtm f).mou = s.mou := rfl
@[simp] theorem State.onFtm_lsu (f : Ftm → Ftm) : (s.onFtm f).lsu = s.lsu := rfl
@[simp] theorem State.onFtm_auu (f : Ftm → Ftm) : (s.onFtm f).auu = s.auu := rfl
@[simp] theorem State.onFtm_pte (f : Ftm → Ftm) : (s.onFtm f).pte = s.pte := rfl
@[simp] theorem State.onFtm_pmg (f : Ftm → Ftm) : (s.onFtm f).pmg = s.pmg := rfl
@[simp] theorem State.onFtm_evu (f : Ftm → Ftm) : (s.onFtm f).evu = s.evu := rfl

/-! ### onPxp -/

@[simp] theorem State.onPxp_pending (f : Pxp → Pxp) : (s.onPxp f).pending = s.pending := rfl
@[simp] theorem State.onPxp_hold (f : Pxp → Pxp) : (s.onPxp f).hold = s.hold := rfl
@[simp] theorem State.onPxp_clock (f : Pxp → Pxp) : (s.onPxp f).clock = s.clock := rfl
@[simp] theorem State.onPxp_lrx (f : Pxp → Pxp) : (s.onPxp f).lrx = s.lrx := rfl
@[simp] theorem State.onPxp_ltx (f : Pxp → Pxp) : (s.onPxp f).ltx = s.ltx := rfl
@[simp] theorem State.onPxp_stu (f : Pxp → Pxp) : (s.onPxp f).stu = s.stu := rfl
@[simp] theorem State.onPxp_mrs (f : Pxp → Pxp) : (s.onPxp f).mrs = s.mrs := rfl
@[simp] theorem State.onPxp_cfl (f : Pxp → Pxp) : (s.onPxp f).cfl = s.cfl := rfl
@[simp] theorem State.onPxp_ftm (f : Pxp → Pxp) : (s.onPxp f).ftm = s.ftm := rfl
@[simp] theorem State.onPxp_pxp (f : Pxp → Pxp) : (s.onPxp f).pxp = f s.pxp := rfl
@[simp] theorem State.onPxp_mou (f : Pxp → Pxp) : (s.onPxp f).mou = s.mou := rfl
@[simp] theorem State.onPxp_lsu (f : Pxp → Pxp) : (s.onPxp f).lsu = s.lsu := rfl
@[simp] theorem State.onPxp_auu (f : Pxp → Pxp) : (s.onPxp f).auu = s.auu := rfl
@[simp] theorem State.onPxp_pte (f : Pxp → Pxp) : (s.onPxp f).pte = s.pte := rfl
@[simp] theorem State.onPxp_pmg (f : Pxp → Pxp) : (s.onPxp f).pmg = s.pmg := rfl
@[simp] theorem State.onPxp_evu (f : Pxp → Pxp) : (s.onPxp f).evu = s.evu := rfl

/-! ### onMou -/

@[simp] theorem State.onMou_pending (f : Mou → Mou) : (s.onMou f).pending = s.pending := rfl
@[simp] theorem State.onMou_hold (f : Mou → Mou) : (s.onMou f).hold = s.hold := rfl
@[simp] theorem State.onMou_clock (f : Mou → Mou) : (s.onMou f).clock = s.clock := rfl
@[simp] theorem State.onMou_lrx (f : Mou → Mou) : (s.onMou f).lrx = s.lrx := rfl
@[simp] theorem State.onMou_ltx (f : Mou → Mou) : (s.onMou f).ltx = s.ltx := rfl
@[simp] theorem State.onMou_stu (f : Mou → Mou) : (s.onMou f).stu = s.stu := rfl
@[simp] theorem State.onMou_mrs (f : Mou → Mou) : (s.onMou f).mrs = s.mrs := rfl
@[simp] theorem State.onMou_cfl (f : Mou → Mou) : (s.onMou f).cfl = s.cfl := rfl
@[simp] theorem State.onMou_ftm (f : Mou → Mou) : (s.onMou f).ftm = s.ftm := rfl
@[simp] theorem State.onMou_pxp (f : Mou → Mou) : (s.onMou f).pxp = s.pxp := rfl
@[simp] theorem State.onMou_mou (f : Mou → Mou) : (s.onMou f).mou = f s.mou := rfl
@[simp] theorem State.onMou_lsu (f : Mou → Mou) : (s.onMou f).lsu = s.lsu := rfl
@[simp] theorem State.onMou_auu (f : Mou → Mou) : (s.onMou f).auu = s.auu := rfl
@[simp] theorem State.onMou_pte (f : Mou → Mou) : (s.onMou f).pte = s.pte := rfl
@[simp] theorem State.onMou_pmg (f : Mou → Mou) : (s.onMou f).pmg = s.pmg := rfl
@[simp] theorem State.onMou_evu (f : Mou → Mou) : (s.onMou f).evu = s.evu := rfl

/-! ### onLsu -/

@[simp] theorem State.onLsu_pending (f : Lsu → Lsu) : (s.onLsu f).pending = s.pending := rfl
@[simp] theorem State.onLsu_hold (f : Lsu → Lsu) : (s.onLsu f).hold = s.hold := rfl
@[simp] theorem State.onLsu_clock (f : Lsu → Lsu) : (s.onLsu f).clock = s.clock := rfl
@[simp] theorem State.onLsu_lrx (f : Lsu → Lsu) : (s.onLsu f).lrx = s.lrx := rfl
@[simp] theorem State.onLsu_ltx (f : Lsu → Lsu) : (s.onLsu f).ltx = s.ltx := rfl
@[simp] theorem State.onLsu_stu (f : Lsu → Lsu) : (s.onLsu f).stu = s.stu := rfl
@[simp] theorem State.onLsu_mrs (f : Lsu → Lsu) : (s.onLsu f).mrs = s.mrs := rfl
@[simp] theorem State.onLsu_cfl (f : Lsu → Lsu) : (s.onLsu f).cfl = s.cfl := rfl
@[simp] theorem State.onLsu_ftm (f : Lsu → Lsu) : (s.onLsu f).ftm = s.ftm := rfl
@[simp] theorem State.onLsu_pxp (f : Lsu → Lsu) : (s.onLsu f).pxp = s.pxp := rfl
@[simp] theorem State.onLsu_mou (f : Lsu → Lsu) : (s.onLsu f).mou = s.mou := rfl
@[simp] theorem State.onLsu_lsu (f : Lsu → Lsu) : (s.onLsu f).lsu = f s.lsu := rfl
@[simp] theorem State.onLsu_auu (f : Lsu → Lsu) : (s.onLsu f).auu = s.auu := rfl
@[simp] theorem State.onLsu_pte (f : Lsu → Lsu) : (s.onLsu f).pte = s.pte := rfl
@[simp] theorem State.onLsu_pmg (f : Lsu → Lsu) : (s.onLsu f).pmg = s.pmg := rfl
@[simp] theorem State.onLsu_evu (f : Lsu → Lsu) : (s.onLsu f).evu = s.evu := rfl

/-! ### onAuu -/

@[simp] theorem State.onAuu_pending (f : Auu → Auu) : (s.onAuu f).pending = s.pending := rfl
@[simp] theorem State.onAuu_hold (f : Auu → Auu) : (s.onAuu f).hold = s.hold := rfl
@[simp] theorem State.onAuu_clock (f : Auu → Auu) : (s.onAuu f).clock = s.clock := rfl
@[simp] theorem State.onAuu_lrx (f : Auu → Auu) : (s.onAuu f).lrx = s.lrx := rfl
@[simp] theorem State.onAuu_ltx (f : Auu → Auu) : (s.onAuu f).ltx = s.ltx := rfl
@[simp] theorem State.onAuu_stu (f : Auu → Auu) : (s.onAuu f).stu = s.stu := rfl
@[simp] theorem State.onAuu_mrs (f : Auu → Auu) : (s.onAuu f).mrs = s.mrs := rfl
@[simp] theorem State.onAuu_cfl (f : Auu → Auu) : (s.onAuu f).cfl = s.cfl := rfl
@[simp] theorem State.onAuu_ftm (f : Auu → Auu) : (s.onAuu f).ftm = s.ftm := rfl
@[simp] theorem State.onAuu_pxp (f : Auu → Auu) : (s.onAuu f).pxp = s.pxp := rfl
@[simp] theorem State.onAuu_mou (f : Auu → Auu) : (s.onAuu f).mou = s.mou := rfl
@[simp] theorem State.onAuu_lsu (f : Auu → Auu) : (s.onAuu f).lsu = s.lsu := rfl
@[simp] theorem State.onAuu_auu (f : Auu → Auu) : (s.onAuu f).auu = f s.auu := rfl
@[simp] theorem State.onAuu_pte (f : Auu → Auu) : (s.onAuu f).pte = s.pte := rfl
@[simp] theorem State.onAuu_pmg (f : Auu → Auu) : (s.onAuu f).pmg = s.pmg := rfl
@[simp] theorem State.onAuu_evu (f : Auu → Auu) : (s.onAuu f).evu = s.evu := rfl

/-! ### onPte -/

@[simp] theorem State.onPte_pending (f : Pte → Pte) : (s.onPte f).pending = s.pending := rfl
@[simp] theorem State.onPte_hold (f : Pte → Pte) : (s.onPte f).hold = s.hold := rfl
@[simp] theorem State.onPte_clock (f : Pte → Pte) : (s.onPte f).clock = s.clock := rfl
@[simp] theorem State.onPte_lrx (f : Pte → Pte) : (s.onPte f).lrx = s.lrx := rfl
@[simp] theorem State.onPte_ltx (f : Pte → Pte) : (s.onPte f).ltx = s.ltx := rfl
@[simp] theorem State.onPte_stu (f : Pte → Pte) : (s.onPte f).stu = s.stu := rfl
@[simp] theorem State.onPte_mrs (f : Pte → Pte) : (s.onPte f).mrs = s.mrs := rfl
@[simp] theorem State.onPte_cfl (f : Pte → Pte) : (s.onPte f).cfl = s.cfl := rfl
@[simp] theorem State.onPte_ftm (f : Pte → Pte) : (s.onPte f).ftm = s.ftm := rfl
@[simp] theorem State.onPte_pxp (f : Pte → Pte) : (s.onPte f).pxp = s.pxp := rfl
@[simp] theorem State.onPte_mou (f : Pte → Pte) : (s.onPte f).mou = s.mou := rfl
@[simp] theorem State.onPte_lsu (f : Pte → Pte) : (s.onPte f).lsu = s.lsu := rfl
@[simp] theorem State.onPte_auu (f : Pte → Pte) : (s.onPte f).auu = s.auu := rfl
@[simp] theorem State.onPte_pte (f : Pte → Pte) : (s.onPte f).pte = f s.pte := rfl
@[simp] theorem State.onPte_pmg (f : Pte → Pte) : (s.onPte f).pmg = s.pmg := rfl
@[simp] theorem State.onPte_evu (f : Pte → Pte) : (s.onPte f).evu = s.evu := rfl

/-! ### onPmg -/

@[simp] theorem State.onPmg_pending (f : Pmg → Pmg) : (s.onPmg f).pending = s.pending := rfl
@[simp] theorem State.onPmg_hold (f : Pmg → Pmg) : (s.onPmg f).hold = s.hold := rfl
@[simp] theorem State.onPmg_clock (f : Pmg → Pmg) : (s.onPmg f).clock = s.clock := rfl
@[simp] theorem State.onPmg_lrx (f : Pmg → Pmg) : (s.onPmg f).lrx = s.lrx := rfl
@[simp] theorem State.onPmg_ltx (f : Pmg → Pmg) : (s.onPmg f).ltx = s.ltx := rfl
@[simp] theorem State.onPmg_stu (f : Pmg → Pmg) : (s.onPmg f).stu = s.stu := rfl
@[simp] theorem State.onPmg_mrs (f : Pmg → Pmg) : (s.onPmg f).mrs = s.mrs := rfl
@[simp] theorem State.onPmg_cfl (f : Pmg → Pmg) : (s.onPmg f).cfl = s.cfl := rfl
@[simp] theorem State.onPmg_ftm (f : Pmg → Pmg) : (s.onPmg f).ftm = s.ftm := rfl
@[simp] theorem State.onPmg_pxp (f : Pmg → Pmg) : (s.onPmg f).pxp = s.pxp := rfl
@[simp] theorem State.onPmg_mou (f : Pmg → Pmg) : (s.onPmg f).mou = s.mou := rfl
@[simp] theorem State.onPmg_lsu (f : Pmg → Pmg) : (s.onPmg f).lsu = s.lsu := rfl
@[simp] theorem State.onPmg_auu (f : Pmg → Pmg) : (s.onPmg f).auu = s.auu := rfl
@[simp] theorem State.onPmg_pte (f : Pmg → Pmg) : (s.onPmg f).pte = s.pte := rfl
@[simp] theorem State.onPmg_pmg (f : Pmg → Pmg) : (s.onPmg f).pmg = f s.pmg := rfl
@[simp] theorem State.onPmg_evu (f : Pmg → Pmg) : (s.onPmg f).evu = s.evu := rfl

/-! ### onEvu -/

@[simp] theorem State.onEvu_pending (f : Evu → Evu) : (s.onEvu f).pending = s.pending := rfl
@[simp] theorem State.onEvu_hold (f : Evu → Evu) : (s.onEvu f).hold = s.hold := rfl
@[simp] theorem State.onEvu_clock (f : Evu → Evu) : (s.onEvu f).clock = s.clock := rfl
@[simp] theorem State.onEvu_lrx (f : Evu → Evu) : (s.onEvu f).lrx = s.lrx := rfl
@[simp] theorem State.onEvu_ltx (f : Evu → Evu) : (s.onEvu f).ltx = s.ltx := rfl
@[simp] theorem State.onEvu_stu (f : Evu → Evu) : (s.onEvu f).stu = s.stu := rfl
@[simp] theorem State.onEvu_mrs (f : Evu → Evu) : (s.onEvu f).mrs = s.mrs := rfl
@[simp] theorem State.onEvu_cfl (f : Evu → Evu) : (s.onEvu f).cfl = s.cfl := rfl
@[simp] theorem State.onEvu_ftm (f : Evu → Evu) : (s.onEvu f).ftm = s.ftm := rfl
@[simp] theorem State.onEvu_pxp (f : Evu → Evu) : (s.onEvu f).pxp = s.pxp := rfl
@[simp] theorem State.onEvu_mou (f : Evu → Evu) : (s.onEvu f).mou = s.mou := rfl
@[simp] theorem State.onEvu_lsu (f : Evu → Evu) : (s.onEvu f).lsu = s.lsu := rfl
@[simp] theorem State.onEvu_auu (f : Evu → Evu) : (s.onEvu f).auu = s.auu := rfl
@[simp] theorem State.onEvu_pte (f : Evu → Evu) : (s.onEvu f).pte = s.pte := rfl
@[simp] theorem State.onEvu_pmg (f : Evu → Evu) : (s.onEvu f).pmg = s.pmg := rfl
@[simp] theorem State.onEvu_evu (f : Evu → Evu) : (s.onEvu f).evu = f s.evu := rfl

/-! ### onPanel -/

@[simp] theorem State.onPanel_pending (p : Side) (f : PanelState → PanelState) : (s.onPanel p f).pending = s.pending := rfl
@[simp] theorem State.onPanel_hold (p : Side) (f : PanelState → PanelState) : (s.onPanel p f).hold = s.hold := rfl
@[simp] theorem State.onPanel_clock (p : Side) (f : PanelState → PanelState) : (s.onPanel p f).clock = s.clock := rfl
@[simp] theorem State.onPanel_lrx (p : Side) (f : PanelState → PanelState) : (s.onPanel p f).lrx = s.lrx := rfl
@[simp] theorem State.onPanel_ltx (p : Side) (f : PanelState → PanelState) : (s.onPanel p f).ltx = s.ltx := rfl
@[simp] theorem State.onPanel_stu (p : Side) (f : PanelState → PanelState) : (s.onPanel p f).stu = s.stu := rfl
@[simp] theorem State.onPanel_mrs (p : Side) (f : PanelState → PanelState) : (s.onPanel p f).mrs = s.mrs := rfl
@[simp] theorem State.onPanel_cfl (p : Side) (f : PanelState → PanelState) : (s.onPanel p f).cfl = s.cfl := rfl
@[simp] theorem State.onPanel_ftm (p : Side) (f : PanelState → PanelState) : (s.onPanel p f).ftm = s.ftm := rfl
@[simp] theorem State.onPanel_pxp (p : Side) (f : PanelState → PanelState) : (s.onPanel p f).pxp = { s.pxp with panels := s.pxp.panels.modify p f } := rfl
@[simp] theorem State.onPanel_mou (p : Side) (f : PanelState → PanelState) : (s.onPanel p f).mou = s.mou := rfl
@[simp] theorem State.onPanel_lsu (p : Side) (f : PanelState → PanelState) : (s.onPanel p f).lsu = s.lsu := rfl
@[simp] theorem State.onPanel_auu (p : Side) (f : PanelState → PanelState) : (s.onPanel p f).auu = s.auu := rfl
@[simp] theorem State.onPanel_pte (p : Side) (f : PanelState → PanelState) : (s.onPanel p f).pte = s.pte := rfl
@[simp] theorem State.onPanel_pmg (p : Side) (f : PanelState → PanelState) : (s.onPanel p f).pmg = s.pmg := rfl
@[simp] theorem State.onPanel_evu (p : Side) (f : PanelState → PanelState) : (s.onPanel p f).evu = s.evu := rfl

/-! ### onGen -/

@[simp] theorem State.onGen_pending (g : Side) (f : Generator → Generator) : (s.onGen g f).pending = s.pending := rfl
@[simp] theorem State.onGen_hold (g : Side) (f : Generator → Generator) : (s.onGen g f).hold = s.hold := rfl
@[simp] theorem State.onGen_clock (g : Side) (f : Generator → Generator) : (s.onGen g f).clock = s.clock := rfl
@[simp] theorem State.onGen_lrx (g : Side) (f : Generator → Generator) : (s.onGen g f).lrx = s.lrx := rfl
@[simp] theorem State.onGen_ltx (g : Side) (f : Generator → Generator) : (s.onGen g f).ltx = s.ltx := rfl
@[simp] theorem State.onGen_stu (g : Side) (f : Generator → Generator) : (s.onGen g f).stu = s.stu := rfl
@[simp] theorem State.onGen_mrs (g : Side) (f : Generator → Generator) : (s.onGen g f).mrs = s.mrs := rfl
@[simp] theorem State.onGen_cfl (g : Side) (f : Generator → Generator) : (s.onGen g f).cfl = s.cfl := rfl
@[simp] theorem State.onGen_ftm (g : Side) (f : Generator → Generator) : (s.onGen g f).ftm = { s.ftm with gens := s.ftm.gens.modify g f } := rfl
@[simp] theorem State.onGen_pxp (g : Side) (f : Generator → Generator) : (s.onGen g f).pxp = s.pxp := rfl
@[simp] theorem State.onGen_mou (g : Side) (f : Generator → Generator) : (s.onGen g f).mou = s.mou := rfl
@[simp] theorem State.onGen_lsu (g : Side) (f : Generator → Generator) : (s.onGen g f).lsu = s.lsu := rfl
@[simp] theorem State.onGen_auu (g : Side) (f : Generator → Generator) : (s.onGen g f).auu = s.auu := rfl
@[simp] theorem State.onGen_pte (g : Side) (f : Generator → Generator) : (s.onGen g f).pte = s.pte := rfl
@[simp] theorem State.onGen_pmg (g : Side) (f : Generator → Generator) : (s.onGen g f).pmg = s.pmg := rfl
@[simp] theorem State.onGen_evu (g : Side) (f : Generator → Generator) : (s.onGen g f).evu = s.evu := rfl

/-! ### onPoll -/

@[simp] theorem State.onPoll_pending (e : Fin 8) (f : PollEntry → PollEntry) : (s.onPoll e f).pending = s.pending := rfl
@[simp] theorem State.onPoll_hold (e : Fin 8) (f : PollEntry → PollEntry) : (s.onPoll e f).hold = s.hold := rfl
@[simp] theorem State.onPoll_clock (e : Fin 8) (f : PollEntry → PollEntry) : (s.onPoll e f).clock = s.clock := rfl
@[simp] theorem State.onPoll_lrx (e : Fin 8) (f : PollEntry → PollEntry) : (s.onPoll e f).lrx = s.lrx := rfl
@[simp] theorem State.onPoll_ltx (e : Fin 8) (f : PollEntry → PollEntry) : (s.onPoll e f).ltx = s.ltx := rfl
@[simp] theorem State.onPoll_stu (e : Fin 8) (f : PollEntry → PollEntry) : (s.onPoll e f).stu = s.stu := rfl
@[simp] theorem State.onPoll_mrs (e : Fin 8) (f : PollEntry → PollEntry) : (s.onPoll e f).mrs = s.mrs := rfl
@[simp] theorem State.onPoll_cfl (e : Fin 8) (f : PollEntry → PollEntry) : (s.onPoll e f).cfl = s.cfl := rfl
@[simp] theorem State.onPoll_ftm (e : Fin 8) (f : PollEntry → PollEntry) : (s.onPoll e f).ftm = s.ftm := rfl
@[simp] theorem State.onPoll_pxp (e : Fin 8) (f : PollEntry → PollEntry) : (s.onPoll e f).pxp = s.pxp := rfl
@[simp] theorem State.onPoll_mou (e : Fin 8) (f : PollEntry → PollEntry) : (s.onPoll e f).mou = { s.mou with poll := tabMod s.mou.poll e f } := rfl
@[simp] theorem State.onPoll_lsu (e : Fin 8) (f : PollEntry → PollEntry) : (s.onPoll e f).lsu = s.lsu := rfl
@[simp] theorem State.onPoll_auu (e : Fin 8) (f : PollEntry → PollEntry) : (s.onPoll e f).auu = s.auu := rfl
@[simp] theorem State.onPoll_pte (e : Fin 8) (f : PollEntry → PollEntry) : (s.onPoll e f).pte = s.pte := rfl
@[simp] theorem State.onPoll_pmg (e : Fin 8) (f : PollEntry → PollEntry) : (s.onPoll e f).pmg = s.pmg := rfl
@[simp] theorem State.onPoll_evu (e : Fin 8) (f : PollEntry → PollEntry) : (s.onPoll e f).evu = s.evu := rfl

/-! ### onStream -/

@[simp] theorem State.onStream_pending (n : Fin 32) (f : StreamEntry → StreamEntry) : (s.onStream n f).pending = s.pending := rfl
@[simp] theorem State.onStream_hold (n : Fin 32) (f : StreamEntry → StreamEntry) : (s.onStream n f).hold = s.hold := rfl
@[simp] theorem State.onStream_clock (n : Fin 32) (f : StreamEntry → StreamEntry) : (s.onStream n f).clock = s.clock := rfl
@[simp] theorem State.onStream_lrx (n : Fin 32) (f : StreamEntry → StreamEntry) : (s.onStream n f).lrx = s.lrx := rfl
@[simp] theorem State.onStream_ltx (n : Fin 32) (f : StreamEntry → StreamEntry) : (s.onStream n f).ltx = s.ltx := rfl
@[simp] theorem State.onStream_stu (n : Fin 32) (f : StreamEntry → StreamEntry) : (s.onStream n f).stu = { s.stu with streams := tabMod s.stu.streams n f } := rfl
@[simp] theorem State.onStream_mrs (n : Fin 32) (f : StreamEntry → StreamEntry) : (s.onStream n f).mrs = s.mrs := rfl
@[simp] theorem State.onStream_cfl (n : Fin 32) (f : StreamEntry → StreamEntry) : (s.onStream n f).cfl = s.cfl := rfl
@[simp] theorem State.onStream_ftm (n : Fin 32) (f : StreamEntry → StreamEntry) : (s.onStream n f).ftm = s.ftm := rfl
@[simp] theorem State.onStream_pxp (n : Fin 32) (f : StreamEntry → StreamEntry) : (s.onStream n f).pxp = s.pxp := rfl
@[simp] theorem State.onStream_mou (n : Fin 32) (f : StreamEntry → StreamEntry) : (s.onStream n f).mou = s.mou := rfl
@[simp] theorem State.onStream_lsu (n : Fin 32) (f : StreamEntry → StreamEntry) : (s.onStream n f).lsu = s.lsu := rfl
@[simp] theorem State.onStream_auu (n : Fin 32) (f : StreamEntry → StreamEntry) : (s.onStream n f).auu = s.auu := rfl
@[simp] theorem State.onStream_pte (n : Fin 32) (f : StreamEntry → StreamEntry) : (s.onStream n f).pte = s.pte := rfl
@[simp] theorem State.onStream_pmg (n : Fin 32) (f : StreamEntry → StreamEntry) : (s.onStream n f).pmg = s.pmg := rfl
@[simp] theorem State.onStream_evu (n : Fin 32) (f : StreamEntry → StreamEntry) : (s.onStream n f).evu = s.evu := rfl

/-! ### onScanning -/

@[simp] theorem State.onScanning_pending (f : FrameRec → FrameRec) : (s.onScanning f).pending = s.pending := rfl
@[simp] theorem State.onScanning_hold (f : FrameRec → FrameRec) : (s.onScanning f).hold = s.hold := rfl
@[simp] theorem State.onScanning_clock (f : FrameRec → FrameRec) : (s.onScanning f).clock = s.clock := rfl
@[simp] theorem State.onScanning_lrx (f : FrameRec → FrameRec) : (s.onScanning f).lrx = s.lrx := rfl
@[simp] theorem State.onScanning_ltx (f : FrameRec → FrameRec) : (s.onScanning f).ltx = s.ltx := rfl
@[simp] theorem State.onScanning_stu (f : FrameRec → FrameRec) : (s.onScanning f).stu = s.stu := rfl
@[simp] theorem State.onScanning_mrs (f : FrameRec → FrameRec) : (s.onScanning f).mrs = s.mrs := rfl
@[simp] theorem State.onScanning_cfl (f : FrameRec → FrameRec) : (s.onScanning f).cfl = s.cfl := rfl
@[simp] theorem State.onScanning_ftm (f : FrameRec → FrameRec) : (s.onScanning f).ftm = { s.ftm with scanning := s.ftm.scanning.map f } := rfl
@[simp] theorem State.onScanning_pxp (f : FrameRec → FrameRec) : (s.onScanning f).pxp = s.pxp := rfl
@[simp] theorem State.onScanning_mou (f : FrameRec → FrameRec) : (s.onScanning f).mou = s.mou := rfl
@[simp] theorem State.onScanning_lsu (f : FrameRec → FrameRec) : (s.onScanning f).lsu = s.lsu := rfl
@[simp] theorem State.onScanning_auu (f : FrameRec → FrameRec) : (s.onScanning f).auu = s.auu := rfl
@[simp] theorem State.onScanning_pte (f : FrameRec → FrameRec) : (s.onScanning f).pte = s.pte := rfl
@[simp] theorem State.onScanning_pmg (f : FrameRec → FrameRec) : (s.onScanning f).pmg = s.pmg := rfl
@[simp] theorem State.onScanning_evu (f : FrameRec → FrameRec) : (s.onScanning f).evu = s.evu := rfl

/-! ### onUpcoming -/

@[simp] theorem State.onUpcoming_pending (f : FrameRec → FrameRec) : (s.onUpcoming f).pending = s.pending := rfl
@[simp] theorem State.onUpcoming_hold (f : FrameRec → FrameRec) : (s.onUpcoming f).hold = s.hold := rfl
@[simp] theorem State.onUpcoming_clock (f : FrameRec → FrameRec) : (s.onUpcoming f).clock = s.clock := rfl
@[simp] theorem State.onUpcoming_lrx (f : FrameRec → FrameRec) : (s.onUpcoming f).lrx = s.lrx := rfl
@[simp] theorem State.onUpcoming_ltx (f : FrameRec → FrameRec) : (s.onUpcoming f).ltx = s.ltx := rfl
@[simp] theorem State.onUpcoming_stu (f : FrameRec → FrameRec) : (s.onUpcoming f).stu = s.stu := rfl
@[simp] theorem State.onUpcoming_mrs (f : FrameRec → FrameRec) : (s.onUpcoming f).mrs = s.mrs := rfl
@[simp] theorem State.onUpcoming_cfl (f : FrameRec → FrameRec) : (s.onUpcoming f).cfl = s.cfl := rfl
@[simp] theorem State.onUpcoming_ftm (f : FrameRec → FrameRec) : (s.onUpcoming f).ftm = { s.ftm with upcoming := s.ftm.upcoming.map f } := rfl
@[simp] theorem State.onUpcoming_pxp (f : FrameRec → FrameRec) : (s.onUpcoming f).pxp = s.pxp := rfl
@[simp] theorem State.onUpcoming_mou (f : FrameRec → FrameRec) : (s.onUpcoming f).mou = s.mou := rfl
@[simp] theorem State.onUpcoming_lsu (f : FrameRec → FrameRec) : (s.onUpcoming f).lsu = s.lsu := rfl
@[simp] theorem State.onUpcoming_auu (f : FrameRec → FrameRec) : (s.onUpcoming f).auu = s.auu := rfl
@[simp] theorem State.onUpcoming_pte (f : FrameRec → FrameRec) : (s.onUpcoming f).pte = s.pte := rfl
@[simp] theorem State.onUpcoming_pmg (f : FrameRec → FrameRec) : (s.onUpcoming f).pmg = s.pmg := rfl
@[simp] theorem State.onUpcoming_evu (f : FrameRec → FrameRec) : (s.onUpcoming f).evu = s.evu := rfl

/-! ### raise -/

@[simp] theorem State.raise_pending (k : EventKind) (d : List Byte) : (s.raise k d).pending = s.pending := rfl
@[simp] theorem State.raise_hold (k : EventKind) (d : List Byte) : (s.raise k d).hold = s.hold := rfl
@[simp] theorem State.raise_clock (k : EventKind) (d : List Byte) : (s.raise k d).clock = s.clock := rfl
@[simp] theorem State.raise_lrx (k : EventKind) (d : List Byte) : (s.raise k d).lrx = s.lrx := rfl
@[simp] theorem State.raise_ltx (k : EventKind) (d : List Byte) : (s.raise k d).ltx = s.ltx := rfl
@[simp] theorem State.raise_stu (k : EventKind) (d : List Byte) : (s.raise k d).stu = s.stu := rfl
@[simp] theorem State.raise_mrs (k : EventKind) (d : List Byte) : (s.raise k d).mrs = s.mrs := rfl
@[simp] theorem State.raise_cfl (k : EventKind) (d : List Byte) : (s.raise k d).cfl = s.cfl := rfl
@[simp] theorem State.raise_ftm (k : EventKind) (d : List Byte) : (s.raise k d).ftm = s.ftm := rfl
@[simp] theorem State.raise_pxp (k : EventKind) (d : List Byte) : (s.raise k d).pxp = s.pxp := rfl
@[simp] theorem State.raise_mou (k : EventKind) (d : List Byte) : (s.raise k d).mou = s.mou := rfl
@[simp] theorem State.raise_lsu (k : EventKind) (d : List Byte) : (s.raise k d).lsu = s.lsu := rfl
@[simp] theorem State.raise_auu (k : EventKind) (d : List Byte) : (s.raise k d).auu = s.auu := rfl
@[simp] theorem State.raise_pte (k : EventKind) (d : List Byte) : (s.raise k d).pte = s.pte := rfl
@[simp] theorem State.raise_pmg (k : EventKind) (d : List Byte) : (s.raise k d).pmg = s.pmg := rfl
@[simp] theorem State.raise_evu (k : EventKind) (d : List Byte) : (s.raise k d).evu = s.evu.take k d s.now s.timeUnset := rfl

/-! ### placeReply -/

@[simp] theorem State.placeReply_pending (p : Reply) : (s.placeReply p).pending = s.pending := rfl
@[simp] theorem State.placeReply_hold (p : Reply) : (s.placeReply p).hold = s.hold := rfl
@[simp] theorem State.placeReply_clock (p : Reply) : (s.placeReply p).clock = s.clock := rfl
@[simp] theorem State.placeReply_lrx (p : Reply) : (s.placeReply p).lrx = s.lrx := rfl
@[simp] theorem State.placeReply_ltx (p : Reply) : (s.placeReply p).ltx = { s.ltx with reply := s.ltx.reply ++ [p] } := rfl
@[simp] theorem State.placeReply_stu (p : Reply) : (s.placeReply p).stu = s.stu := rfl
@[simp] theorem State.placeReply_mrs (p : Reply) : (s.placeReply p).mrs = s.mrs := rfl
@[simp] theorem State.placeReply_cfl (p : Reply) : (s.placeReply p).cfl = s.cfl := rfl
@[simp] theorem State.placeReply_ftm (p : Reply) : (s.placeReply p).ftm = s.ftm := rfl
@[simp] theorem State.placeReply_pxp (p : Reply) : (s.placeReply p).pxp = s.pxp := rfl
@[simp] theorem State.placeReply_mou (p : Reply) : (s.placeReply p).mou = s.mou := rfl
@[simp] theorem State.placeReply_lsu (p : Reply) : (s.placeReply p).lsu = s.lsu := rfl
@[simp] theorem State.placeReply_auu (p : Reply) : (s.placeReply p).auu = s.auu := rfl
@[simp] theorem State.placeReply_pte (p : Reply) : (s.placeReply p).pte = s.pte := rfl
@[simp] theorem State.placeReply_pmg (p : Reply) : (s.placeReply p).pmg = s.pmg := rfl
@[simp] theorem State.placeReply_evu (p : Reply) : (s.placeReply p).evu = s.evu := rfl

/-! ### onBus -/

@[simp] theorem State.onBus_pending (b : Bus) (f : BusCtl → BusCtl) : (s.onBus b f).pending = s.pending := rfl
@[simp] theorem State.onBus_hold (b : Bus) (f : BusCtl → BusCtl) : (s.onBus b f).hold = s.hold := rfl
@[simp] theorem State.onBus_clock (b : Bus) (f : BusCtl → BusCtl) : (s.onBus b f).clock = s.clock := rfl
@[simp] theorem State.onBus_lrx (b : Bus) (f : BusCtl → BusCtl) : (s.onBus b f).lrx = s.lrx := rfl
@[simp] theorem State.onBus_ltx (b : Bus) (f : BusCtl → BusCtl) : (s.onBus b f).ltx = s.ltx := rfl
@[simp] theorem State.onBus_stu (b : Bus) (f : BusCtl → BusCtl) : (s.onBus b f).stu = s.stu := rfl
@[simp] theorem State.onBus_mrs (b : Bus) (f : BusCtl → BusCtl) : (s.onBus b f).mrs = s.mrs := rfl
@[simp] theorem State.onBus_cfl (b : Bus) (f : BusCtl → BusCtl) : (s.onBus b f).cfl = s.cfl := rfl
@[simp] theorem State.onBus_ftm (b : Bus) (f : BusCtl → BusCtl) : (s.onBus b f).ftm = s.ftm := rfl
@[simp] theorem State.onBus_pxp (b : Bus) (f : BusCtl → BusCtl) : (s.onBus b f).pxp = s.pxp := rfl
@[simp] theorem State.onBus_lsu (b : Bus) (f : BusCtl → BusCtl) : (s.onBus b f).lsu = s.lsu := rfl
@[simp] theorem State.onBus_auu (b : Bus) (f : BusCtl → BusCtl) : (s.onBus b f).auu = s.auu := rfl
@[simp] theorem State.onBus_pte (b : Bus) (f : BusCtl → BusCtl) : (s.onBus b f).pte = s.pte := rfl
@[simp] theorem State.onBus_pmg (b : Bus) (f : BusCtl → BusCtl) : (s.onBus b f).pmg = s.pmg := rfl
@[simp] theorem State.onBus_evu (b : Bus) (f : BusCtl → BusCtl) : (s.onBus b f).evu = s.evu := rfl

/-! ### Pairs, tables and the guard of a held part -/

@[simp] theorem Duo.get_set_same {α : Type} (d : Duo α) (p : Side) (x : α) : (d.set p x).get p = x := by cases p <;> rfl

@[simp] theorem Duo.get_modify_same {α : Type} (d : Duo α) (p : Side) (f : α → α) : (d.modify p f).get p = f (d.get p) := by
  cases p <;> rfl

theorem Duo.get_modify_other {α : Type} (d : Duo α) {p q : Side} (f : α → α) (h : q ≠ p) : (d.modify p f).get q = d.get q := by
  cases p <;> cases q <;> first | rfl | exact absurd rfl h

@[simp] theorem tabMod_same {α : Type} {n : Nat} (v : Vector α n) (i : Fin n) (f : α → α) : (tabMod v i f)[i] = f v[i] := by
  simp [tabMod]

theorem tabMod_other {α : Type} {n : Nat} (v : Vector α n) {i j : Fin n} (f : α → α) (h : i ≠ j) :
    (tabMod v i f)[j] = v[j] := by
  simp [tabMod, Fin.val_ne_of_ne h]

@[simp] theorem State.panel_onPanel_same (p : Side) (f : PanelState → PanelState) :
    (s.onPanel p f).panel p = f (s.panel p) := by
  simp [State.panel]

theorem State.panel_onPanel_other {p q : Side} (f : PanelState → PanelState) (h : q ≠ p) :
    (s.onPanel p f).panel q = s.panel q := by
  simp [State.panel, Duo.get_modify_other _ _ h]

@[simp] theorem State.bus_onBus_same (b : Bus) (f : BusCtl → BusCtl) : (s.onBus b f).bus b = f (s.bus b) := by
  cases b <;> rfl

theorem State.bus_onBus_other {b c : Bus} (f : BusCtl → BusCtl) (h : c ≠ b) : (s.onBus b f).bus c = s.bus c := by
  cases b <;> cases c <;> first | rfl | exact absurd rfl h

/-- A part that is not held in power-on reset does what the command says. -/
theorem State.live_of_free {s : State} (f : State → State) (h : s.held = false) : s.live f = f s := by
  simp [State.live, h]

/-- A part that is held ignores the command (R193). -/
theorem State.live_of_held {s : State} (f : State → State) (h : s.held = true) : s.live f = s := by
  simp [State.live, h]

end Sys2Proof.Machine
end

