-- ==== Sys2Proof/Laws/Within.lean ====
section
/-! SUPPORT. Which blocks an operation can touch: one lemma for each shared operation, so that a proof about one block passes
over the operations of the others. -/

namespace Sys2Proof.Machine

open Sys2Proof

/-- The parts of State. -/
inductive Part
  | clock | lrx | ltx | stu | mrs | cfl | ftm | pxp | mou | lsu | auu | pte | pmg | evu
  deriving DecidableEq, Repr

/-- `t` differs from `s` at most in the blocks listed; the queue of commands and the hold are never among them. -/
structure Within (bs : List Part) (s t : State) : Prop where
  pending : t.pending = s.pending
  hold : t.hold = s.hold
  clock : Part.clock ∈ bs ∨ t.clock = s.clock
  lrx : Part.lrx ∈ bs ∨ t.lrx = s.lrx
  ltx : Part.ltx ∈ bs ∨ t.ltx = s.ltx
  stu : Part.stu ∈ bs ∨ t.stu = s.stu
  mrs : Part.mrs ∈ bs ∨ t.mrs = s.mrs
  cfl : Part.cfl ∈ bs ∨ t.cfl = s.cfl
  ftm : Part.ftm ∈ bs ∨ t.ftm = s.ftm
  pxp : Part.pxp ∈ bs ∨ t.pxp = s.pxp
  mou : Part.mou ∈ bs ∨ t.mou = s.mou
  lsu : Part.lsu ∈ bs ∨ t.lsu = s.lsu
  auu : Part.auu ∈ bs ∨ t.auu = s.auu
  pte : Part.pte ∈ bs ∨ t.pte = s.pte
  pmg : Part.pmg ∈ bs ∨ t.pmg = s.pmg
  evu : Part.evu ∈ bs ∨ t.evu = s.evu

namespace Within

variable {bs cs : List Part} {s t u : State}

theorem refl : Within bs s s := by constructor <;> simp

/-- Two changes one after the other. -/
theorem trans (h : Within bs s t) (k : Within bs t u) : Within bs s u where
  pending := k.pending.trans h.pending
  hold := k.hold.trans h.hold
  clock := by rcases h.clock with h | h <;> rcases k.clock with k | k <;> simp_all
  lrx := by rcases h.lrx with h | h <;> rcases k.lrx with k | k <;> simp_all
  ltx := by rcases h.ltx with h | h <;> rcases k.ltx with k | k <;> simp_all
  stu := by rcases h.stu with h | h <;> rcases k.stu with k | k <;> simp_all
  mrs := by rcases h.mrs with h | h <;> rcases k.mrs with k | k <;> simp_all
  cfl := by rcases h.cfl with h | h <;> rcases k.cfl with k | k <;> simp_all
  ftm := by rcases h.ftm with h | h <;> rcases k.ftm with k | k <;> simp_all
  pxp := by rcases h.pxp with h | h <;> rcases k.pxp with k | k <;> simp_all
  mou := by rcases h.mou with h | h <;> rcases k.mou with k | k <;> simp_all
  lsu := by rcases h.lsu with h | h <;> rcases k.lsu with k | k <;> simp_all
  auu := by rcases h.auu with h | h <;> rcases k.auu with k | k <;> simp_all
  pte := by rcases h.pte with h | h <;> rcases k.pte with k | k <;> simp_all
  pmg := by rcases h.pmg with h | h <;> rcases k.pmg with k | k <;> simp_all
  evu := by rcases h.evu with h | h <;> rcases k.evu with k | k <;> simp_all

/-- A change within fewer blocks. -/
theorem mono (h : Within cs s t) (k : ∀ b ∈ cs, b ∈ bs) : Within bs s t where
  pending := h.pending
  hold := h.hold
  clock := h.clock.imp_left (k _)
  lrx := h.lrx.imp_left (k _)
  ltx := h.ltx.imp_left (k _)
  stu := h.stu.imp_left (k _)
  mrs := h.mrs.imp_left (k _)
  cfl := h.cfl.imp_left (k _)
  ftm := h.ftm.imp_left (k _)
  pxp := h.pxp.imp_left (k _)
  mou := h.mou.imp_left (k _)
  lsu := h.lsu.imp_left (k _)
  auu := h.auu.imp_left (k _)
  pte := h.pte.imp_left (k _)
  pmg := h.pmg.imp_left (k _)
  evu := h.evu.imp_left (k _)

/-- A change followed by one within fewer blocks. -/
theorem andThen (h : Within bs s t) (k : Within cs t u) (m : ∀ b ∈ cs, b ∈ bs) : Within bs s u := h.trans (k.mono m)

/-- A part stays free or held. -/
theorem held (h : Within bs s t) : t.held = s.held := by simp [State.held, h.hold]

end Within

theorem State.onClock_within (s : State) (f : Clock → Clock) : Within [.clock] s (s.onClock f) := by constructor <;> simp
theorem State.onLrx_within (s : State) (f : Lrx → Lrx) : Within [.lrx] s (s.onLrx f) := by constructor <;> simp
theorem State.onLtx_within (s : State) (f : Ltx → Ltx) : Within [.ltx] s (s.onLtx f) := by constructor <;> simp
theorem State.onStu_within (s : State) (f : Stu → Stu) : Within [.stu] s (s.onStu f) := by constructor <;> simp
theorem State.onMrs_within (s : State) (f : Mrs → Mrs) : Within [.mrs] s (s.onMrs f) := by constructor <;> simp
theorem State.onCfl_within (s : State) (f : Cfl → Cfl) : Within [.cfl] s (s.onCfl f) := by constructor <;> simp
theorem State.onFtm_within (s : State) (f : Ftm → Ftm) : Within [.ftm] s (s.onFtm f) := by constructor <;> simp
theorem State.onPxp_within (s : State) (f : Pxp → Pxp) : Within [.pxp] s (s.onPxp f) := by constructor <;> simp
theorem State.onMou_within (s : State) (f : Mou → Mou) : Within [.mou] s (s.onMou f) := by constructor <;> simp
theorem State.onLsu_within (s : State) (f : Lsu → Lsu) : Within [.lsu] s (s.onLsu f) := by constructor <;> simp
theorem State.onAuu_within (s : State) (f : Auu → Auu) : Within [.auu] s (s.onAuu f) := by constructor <;> simp
theorem State.onPte_within (s : State) (f : Pte → Pte) : Within [.pte] s (s.onPte f) := by constructor <;> simp
theorem State.onPmg_within (s : State) (f : Pmg → Pmg) : Within [.pmg] s (s.onPmg f) := by constructor <;> simp
theorem State.onEvu_within (s : State) (f : Evu → Evu) : Within [.evu] s (s.onEvu f) := by constructor <;> simp
theorem State.onPanel_within (s : State) (p : Side) (f : PanelState → PanelState) : Within [.pxp] s (s.onPanel p f) := by
  constructor <;> simp
theorem State.onGen_within (s : State) (g : Side) (f : Generator → Generator) : Within [.ftm] s (s.onGen g f) := by
  constructor <;> simp
theorem State.onPoll_within (s : State) (e : Fin 8) (f : PollEntry → PollEntry) : Within [.mou] s (s.onPoll e f) := by
  constructor <;> simp
theorem State.onStream_within (s : State) (n : Fin 32) (f : StreamEntry → StreamEntry) : Within [.stu] s (s.onStream n f) := by
  constructor <;> simp
theorem State.onScanning_within (s : State) (f : FrameRec → FrameRec) : Within [.ftm] s (s.onScanning f) := by
  constructor <;> simp
theorem State.onUpcoming_within (s : State) (f : FrameRec → FrameRec) : Within [.ftm] s (s.onUpcoming f) := by
  constructor <;> simp
theorem State.onBus_within (s : State) (b : Bus) (f : BusCtl → BusCtl) : Within [.mou] s (s.onBus b f) := by
  constructor <;> simp
theorem State.raise_within (s : State) (k : EventKind) (d : List Byte) : Within [.evu] s (s.raise k d) := by
  constructor <;> simp
theorem State.placeReply_within (s : State) (p : Reply) : Within [.ltx] s (s.placeReply p) := by
  constructor <;> simp

end Sys2Proof.Machine
end

