-- ==== Sys2Proof/Laws/Frames.lean ====
section
/-! SUPPORT. Which parts of State each shared operation can touch, from the smallest operations up. -/

namespace Sys2Proof.Machine

open Sys2Proof

variable (s : State)

/-! ### Sensor buses: the motion unit alone -/

theorem State.startRecovery_within (c : Cause) (r : Bool) : Within [.mou] s (s.startRecovery c r) := s.onBus_within _ _

theorem State.sampled_within : Within [.mou] s s.sampled := s.onMou_within _

theorem State.relayPhase_within (ph : RelayPhase) : Within [.mou] s (s.relayPhase ph) := s.onMou_within _

theorem State.beginTransfer_within (b : Bus) (ph : RelayPhase) : Within [.mou] s (s.beginTransfer b ph) := by
  have h := s.relayPhase_within ph
  cases b <;> simp only [State.beginTransfer]
  · exact h
  · split
    · exact (h.trans (State.sampled_within _)).trans (State.startRecovery_within _ _ _)
    · exact h.trans (State.sampled_within _)

theorem State.startRelay_within (r : Relay) : Within [.mou] s (s.startRelay r) :=
  (s.onBus_within _ _).trans (State.beginTransfer_within _ _ _)

theorem State.startPoll_within (b : Bus) (q : Queued) (rest : List Queued) : Within [.mou] s (s.startPoll b q rest) := by
  have h : Within [.mou] s ((s.onBus b fun c => { c with queue := rest }).onPoll q.entry fun p =>
    { p with late := satAdd p.late (bit q.late) }) := (s.onBus_within _ _).trans (State.onPoll_within _ _ _)
  cases b <;> simp only [State.startPoll]
  · exact h.trans (State.onBus_within _ _ _)
  · split
    · exact ((h.trans (State.sampled_within _)).trans (State.onPoll_within _ _ _)).trans (State.startRecovery_within _ _ _)
    · exact (h.trans (State.sampled_within _)).trans (State.onBus_within _ _ _)

theorem State.startHead_within (b : Bus) : Within [.mou] s (s.startHead b) := by
  unfold State.startHead
  split
  · exact .refl
  · exact s.startPoll_within _ _ _

theorem State.startNext_within (b : Bus) : Within [.mou] s (s.startNext b) := by
  unfold State.startNext
  split
  · split
    · exact s.startRecovery_within _ _
    · split
      · exact s.startRelay_within _
      · exact s.startHead_within _
  · exact .refl

theorem State.busFree_within (b : Bus) : Within [.mou] s (s.busFree b) :=
  (s.onBus_within _ _).trans (State.startNext_within _ _)

theorem State.trigger_within (e : Fin 8) (t : Time) : Within [.mou] s (s.trigger e t) := by
  simp only [State.trigger]
  split
  · exact .refl
  · split
    · exact s.onPoll_within _ _
    · exact (s.onBus_within _ _).trans (State.startNext_within _ _)

theorem State.readyEntry_within (i : Fin 6) (e : Fin 8) : Within [.mou] s (s.readyEntry i e) := by
  simp only [State.readyEntry]
  split
  · split
    · exact (s.onPoll_within _ _).trans (State.trigger_within _ _ _)
    · exact s.onPoll_within _ _
  · exact .refl

/-- A fold of changes within some parts stays within them. -/
theorem Within.foldl {α : Type} {bs : List Part} {f : State → α → State} (h : ∀ s a, Within bs s (f s a)) (xs : List α)
    (s : State) : Within bs s (xs.foldl f s) := by
  induction xs generalizing s with
  | nil => exact .refl
  | cons x xs ih => exact (h s x).trans (ih _)

theorem State.readyEdge_within (i : Fin 6) : Within [.mou] s (s.readyEdge i) :=
  Within.foldl (fun s e => s.readyEntry_within i e) _ s

theorem State.handEdges_within (old new : BitVec 6) : Within [.mou] s (s.handEdges old new) := by
  refine Within.foldl (fun s i => ?_) _ s
  split
  · exact s.readyEdge_within i
  · exact .refl

theorem State.edged_within {bs : List Part} {f : State → State} (h : Within bs s (f s)) (m : Part.mou ∈ bs) :
    Within bs s (s.edged f) :=
  h.andThen ((f s).handEdges_within _ _) (by simpa using m)

theorem State.unqueue_within (e : Fin 8) : Within [.mou] s (s.unqueue e) := by
  simp only [State.unqueue]
  exact (s.onBus_within _ _).trans (State.onBus_within _ _ _)

theorem State.handClass_within (c : SensorClass) : Within [.mou] s (s.handClass c) := by
  simp only [State.handClass]
  split
  · exact ((s.onMou_within _).trans (State.onBus_within _ _ _)).trans (State.onBus_within _ _ _)
  · exact s.onMou_within _

theorem State.relayHandOver_within (r : Relay) : Within [.mou] s (s.relayHandOver r) :=
  ((s.onMou_within _).trans (State.onBus_within _ _ _)).trans (State.startNext_within _ _)

theorem State.relayAbort_within : Within [.mou] s s.relayAbort := by
  unfold State.relayAbort
  split
  · exact .refl
  · rename_i r _
    have h : Within [.mou] s (s.onMou fun m => { m with relay := none }) := s.onMou_within _
    rcases r with ⟨b, d, w, n, wa, ph, we⟩
    cases b <;> dsimp only <;> split
    · exact h
    · exact h.trans (State.busFree_within _ _)
    · exact (h.trans (State.onBus_within _ _ _)).trans (State.startNext_within _ _)
    · exact h.trans (State.startRecovery_within _ _ _)

theorem State.busRecover_within (b : Bus) : Within [.mou] s (s.busRecover b) := by
  cases b <;> simp only [State.busRecover]
  · exact .refl
  · split
    · exact s.startRecovery_within _ _
    · exact s.onBus_within _ _
    · exact .refl
    · exact s.startRecovery_within _ _

/-! ### Relay replies, records and batches -/

theorem State.slotReply_within (st : Status) (bs : List Byte) : Within [.mrs, .ltx] s (s.slotReply st bs) := by
  unfold State.slotReply
  split
  · exact .refl
  · exact ((s.onMrs_within _).mono (by decide)).andThen (State.onLtx_within _ _) (by decide)

theorem State.relayDone_within (st : Status) (bs : List Byte) : Within [.mou, .mrs, .ltx] s (s.relayDone st bs) :=
  ((s.onMou_within _).mono (by decide)).andThen (State.slotReply_within _ _ _) (by decide)

theorem State.fifoDrop_within : Within [.mou, .evu] s s.fifoDrop := by
  unfold State.fifoDrop
  split
  · exact .refl
  · split
    · exact .refl
    · exact ((s.onMou_within _).mono (by decide)).andThen (State.raise_within _ _ _) (by decide)

theorem State.buildBatch_within : Within [.mou, .ltx] s s.buildBatch := by
  simp only [State.buildBatch]
  exact ((s.onMou_within _).mono (by decide)).andThen (State.onLtx_within _ _) (by decide)

theorem buildBatches_within (n : Nat) : Within [.mou, .ltx] s (buildBatches n s) := by
  induction n generalizing s with
  | zero => exact .refl
  | succ n ih =>
    unfold buildBatches
    split
    · exact s.buildBatch_within.trans (ih _)
    · exact .refl

theorem State.judgeBatch_within : Within [.mou, .ltx] s s.judgeBatch := buildBatches_within s _

theorem State.fifoJoin_within (r : SensorRec) : Within [.mou, .ltx, .evu] s (s.fifoJoin r) :=
  ((s.fifoDrop_within.mono (by decide)).andThen (State.onMou_within _ _) (by decide)).andThen
    (State.judgeBatch_within _) (by decide)

theorem State.pollGood_within (w : PollWork) (bs : List Byte) : Within [.mou, .ltx, .evu] s (s.pollGood w bs) := by
  have h : Within [.mou, .ltx, .evu] s (s.onPoll w.q.entry fun p => { p with samples := satInc p.samples }) :=
    (s.onPoll_within _ _).mono (by decide)
  simp only [State.pollGood]
  split <;> split
  · exact (h.andThen (State.onMou_within _ _) (by decide)).trans (State.fifoJoin_within _ _)
  · exact h.trans (State.fifoJoin_within _ _)
  · exact h.andThen (State.onMou_within _ _) (by decide)
  · exact h

theorem State.pollRefused_within (w : PollWork) (n : Nat) : Within [.mou, .evu] s (s.pollRefused w n) :=
  ((s.onPoll_within _ _).mono (by decide)).andThen (State.raise_within _ _ _) (by decide)

theorem State.relayToRead_within (r : Relay) : Within [.mou, .mrs, .ltx] s (s.relayToRead r) := by
  unfold State.relayToRead
  split
  · exact (s.beginTransfer_within _ _).mono (by decide)
  · exact (s.relayDone_within _ _).andThen (State.busFree_within _ _) (by decide)

theorem State.relayWriteEnds_within (r : Relay) : Within [.mou, .mrs, .ltx] s (s.relayWriteEnds r) := by
  unfold State.relayWriteEnds
  split
  · exact (s.onMou_within _).mono (by decide)
  · exact s.relayToRead_within r

theorem State.recoveryFails_within (r : Recovery) (n : Nat) : Within [.mou, .mrs, .ltx, .evu] s (s.recoveryFails r n) := by
  have h : Within [.mou, .mrs, .ltx, .evu] s (((s.onBus .twoWire fun c =>
      { c with state := .fault, queue := [], recovery := none, retryAt := some (s.osc + retryTicks) }).onMou fun m =>
        { m with recoveryFailures := satInc m.recoveryFailures }).raise .busFault
          (leBytes 1 r.cause.code ++ leBytes 1 n)) :=
    (((s.onBus_within _ _).mono (by decide)).andThen (State.onMou_within _ _) (by decide)).andThen
      (State.raise_within _ _ _) (by decide)
  simp only [State.recoveryFails]
  split
  · exact h.andThen (State.relayDone_within _ _ _) (by decide)
  · exact h

theorem State.recoverySucceeds_within (r : Recovery) (n : Nat) : Within [.mou, .evu] s (s.recoverySucceeds r n) := by
  simp only [State.recoverySucceeds]
  split
  · exact (((s.onBus_within _ _).mono (by decide)).andThen (State.onMou_within _ _) (by decide)).andThen
      (State.raise_within _ _ _) (by decide)
  · exact ((((s.onBus_within _ _).mono (by decide)).andThen (State.onMou_within _ _) (by decide)).andThen
      (State.raise_within _ _ _) (by decide)).andThen (State.startNext_within _ _) (by decide)

theorem State.pollCompletes_within (b : Bus) (w : PollWork) (o : PollOutcome) :
    Within [.mou, .ltx, .evu] s (s.pollCompletes b w o) := by
  cases o <;> simp only [State.pollCompletes] <;> split
  · exact (s.pollGood_within _ _).andThen (State.busFree_within _ _) (by decide)
  · exact .refl
  · exact ((s.pollRefused_within _ _).mono (by decide)).andThen (State.busFree_within _ _) (by decide)
  · exact .refl
  · exact ((s.pollRefused_within _ _).mono (by decide)).andThen (State.busFree_within _ _) (by decide)
  · exact .refl

theorem State.clockHold_within : Within [.mou, .mrs, .ltx] s s.clockHold := by
  unfold State.clockHold
  split
  · exact ((s.onPoll_within _ _).mono (by decide)).andThen (State.startRecovery_within _ _ _) (by decide)
  · split
    · exact (s.relayDone_within _ _).andThen (State.startRecovery_within _ _ _) (by decide)
    · exact .refl

theorem State.relayCompletes_within (r : Relay) (o : RelayOutcome) :
    Within [.mou, .mrs, .ltx] s (s.relayCompletes r o) := by
  cases o <;> simp only [State.relayCompletes] <;> split
  · exact (s.relayDone_within _ _).andThen (State.busFree_within _ _) (by decide)
  · exact .refl
  · exact (s.relayDone_within _ _).andThen (State.busFree_within _ _) (by decide)
  · exact .refl

/-! ### Frame records and the picture path -/

theorem State.finishRecord_within : Within [.ftm, .evu] s s.finishRecord := by
  unfold State.finishRecord
  split
  · exact .refl
  · exact ((s.onFtm_within _).mono (by decide)).andThen (State.raise_within _ _ _) (by decide)

theorem State.completion_within (p : Side) : Within [.ftm, .evu] s (s.completion p) := by
  simp only [State.completion]
  split
  · split
    · exact (s.onFtm_within _).mono (by decide)
    · exact ((s.onFtm_within _).mono (by decide)).trans (State.finishRecord_within _)
  · exact .refl

theorem State.outputLine_within (p : Side) (y : Nat) : Within [.pxp, .ftm] s (s.outputLine p y) := by
  simp only [State.outputLine]
  split
  · exact ((s.onPanel_within _ _).mono (by decide)).andThen (State.onScanning_within _ _) (by decide)
  · exact (s.onPanel_within _ _).mono (by decide)

theorem State.endScan_within (p : Side) : Within [.ftm, .evu] s (s.endScan p) := by
  unfold State.endScan
  split
  · exact .refl
  · split
    · exact ((s.onScanning_within _).mono (by decide)).andThen (State.raise_within _ _ _) (by decide)
    · exact .refl

theorem State.tryComplete_within (p : Side) : Within [.ftm, .evu] s (s.tryComplete p) := by
  unfold State.tryComplete
  split
  · exact s.completion_within p
  · exact .refl

theorem State.closeScan_within (p : Side) (F : Option FrameNo) : Within [.pxp, .ftm, .evu] s (s.closeScan p F) :=
  ((s.onPanel_within _ _).mono (by decide)).andThen (State.endScan_within _ _) (by decide)

theorem State.cutScan_within (p : Side) (F : Option FrameNo) : Within [.pxp, .ftm, .evu] s (s.cutScan p F) :=
  (((s.onPanel_within _ _).mono (by decide)).andThen (State.onScanning_within _ _) (by decide)).trans
    (State.closeScan_within _ _ _)

theorem State.panelOff_within (p : Side) : Within [.pxp, .ftm, .evu] s (s.panelOff p) := by
  simp only [State.panelOff]
  split
  · exact ((s.cutScan_within _ _).andThen (State.onPanel_within _ _ _) (by decide)).andThen
      (State.tryComplete_within _ _) (by decide)
  · exact ((s.onPanel_within _ _).mono (by decide)).andThen (State.tryComplete_within _ _) (by decide)

theorem State.panelWake_within (p : Side) : Within [.pxp] s (s.panelWake p) := s.onPanel_within _ _

theorem State.holdStrobe_within (p : Side) : Within [.pxp, .ftm, .evu] s (s.holdStrobe p) :=
  ((s.onPanel_within _ _).mono (by decide)).andThen (State.tryComplete_within _ _) (by decide)

theorem State.releaseStrobe_within (p : Side) : Within [.pxp] s (s.releaseStrobe p) := s.onPanel_within _ _

theorem State.beginStrobe_within (p : Side) : Within [.pxp, .ftm, .evu] s (s.beginStrobe p) :=
  (((s.onPanel_within _ _).mono (by decide)).andThen (State.onScanning_within _ _) (by decide)).andThen
    (State.tryComplete_within _ _) (by decide)

theorem State.endStrobe_within (p : Side) : Within [.pxp, .ftm, .evu] s (s.endStrobe p) :=
  ((s.onPanel_within _ _).mono (by decide)).andThen (State.tryComplete_within _ _) (by decide)

theorem State.scanEnds_within (p : Side) : Within [.pxp, .ftm, .evu] s (s.scanEnds p) :=
  ((s.closeScan_within _ _).andThen (State.onPanel_within _ _ _) (by decide)).andThen
    (State.tryComplete_within _ _) (by decide)

theorem State.lineOut_within (p : Side) : Within [.pxp, .ftm, .evu] s (s.lineOut p) := by
  simp only [State.lineOut]
  split
  · exact ((s.outputLine_within _ _).mono (by decide)).trans (State.scanEnds_within _ _)
  · exact (s.outputLine_within _ _).mono (by decide)

theorem State.onTarget_within (t : Target) (f : PanelState → PanelState) : Within [.pxp] s (s.onTarget t f) := by
  cases t
  · exact s.onPanel_within _ _
  · exact (s.onPanel_within _ _).trans (State.onPanel_within _ _ _)

theorem State.countMalformed_within (t : Target) : Within [.pxp] s (s.countMalformed t) := s.onTarget_within _ _

theorem State.setCtx_within (i : Fin 4) (c : Option SliceCtx) : Within [.pxp] s (s.setCtx i c) := s.onPxp_within _

theorem State.abortCtx_within (i : Fin 4) : Within [.pxp] s (s.abortCtx i) := by
  unfold State.abortCtx
  split
  · exact (s.setCtx_within _ _).trans (State.countMalformed_within _ _)
  · exact .refl

theorem commitLines_within (n : Nat) (c : SliceCtx) : Within [.pxp] s (commitLines n c s).2 := by
  induction n generalizing s c with
  | zero => exact .refl
  | succ n ih =>
    unfold commitLines
    split
    · exact (s.onTarget_within _ _).trans (ih _ _)
    · exact .refl

theorem State.sliceBytes_within (i : Fin 4) (c : SliceCtx) (bs : List Byte) (final : Bool) :
    Within [.pxp] s (s.sliceBytes i c bs final) := by
  simp only [State.sliceBytes]
  split
  · exact s.abortCtx_within _
  · exact (commitLines_within s _ _).trans (State.setCtx_within _ _ _)

theorem State.writePose_within (n : FrameNo) (t : Time) : Within [.ftm] s (s.writePose n t) := s.onUpcoming_within _

theorem State.sliceFirst_within (c : PicCell) : Within [.pxp, .ftm] s (s.sliceFirst c) := by
  have h : ∀ s1 : State, Within [.pxp, .ftm] s s1 → Within [.pxp, .ftm] s
      (if s1.pxp.headerGood c then
        match (s1.writePose (readSlice c.bytes).frame (readSlice c.bytes).pose).pxp.freeCtx with
        | none => (s1.writePose (readSlice c.bytes).frame (readSlice c.bytes).pose).onTarget c.target fun x =>
            { x with noContextSlices := satInc x.noContextSlices }
        | some i =>
          let s2 := s1.writePose (readSlice c.bytes).frame (readSlice c.bytes).pose
          let k : SliceCtx :=
            { sn := c.sn, target := c.target, frame := (readSlice c.bytes).frame, first := (readSlice c.bytes).first
              count := (readSlice c.bytes).count, width := (s2.panel c.target.lead).inForce.width
              nextLine := (readSlice c.bytes).first, current := [], received := 0 }
          (s2.setCtx i (some k)).sliceBytes i k (c.bytes.drop 8) (decide (c.pos = .only))
      else s1.countMalformed c.target) := by
    intro s1 h1
    have h2 := h1.andThen (s1.writePose_within (readSlice c.bytes).frame (readSlice c.bytes).pose) (by decide)
    split
    · split
      · exact h2.andThen (State.onTarget_within _ _ _) (by decide)
      · exact (h2.andThen (State.setCtx_within _ _ _) (by decide)).andThen (State.sliceBytes_within _ _ _ _ _) (by decide)
    · exact h1.andThen (State.countMalformed_within _ _) (by decide)
  unfold State.sliceFirst
  cases hc : s.pxp.ctxOf c.sn with
  | none => exact h s .refl
  | some i => exact h _ ((s.abortCtx_within i).mono (by decide))

theorem State.sliceNext_within (c : PicCell) : Within [.pxp] s (s.sliceNext c) := by
  unfold State.sliceNext
  split
  · exact s.onTarget_within _ _
  · split
    · exact .refl
    · split
      · exact s.abortCtx_within _
      · exact s.sliceBytes_within _ _ _ _

theorem State.pictureCell_within (c : PicCell) : Within [.pxp, .ftm] s (s.pictureCell c) := by
  unfold State.pictureCell
  split
  · exact s.sliceFirst_within c
  · exact s.sliceFirst_within c
  · exact (s.sliceNext_within c).mono (by decide)
  · exact (s.sliceNext_within c).mono (by decide)

/-! ### Late shift, audio, patterns -/

theorem State.evaluate_within : Within [.lsu, .ftm, .evu] s s.evaluate := by
  unfold State.evaluate
  split
  · exact .refl
  · rename_i r _
    split
    · have h : Within [.lsu, .ftm, .evu] s ((s.onLsu fun l =>
          l.afterEval (evalRecord r s.now s.mou.history s.lsu.written)).onFtm fun t =>
            { t with upcoming := some (evalRecord r s.now s.mou.history s.lsu.written) }) :=
        ((s.onLsu_within _).mono (by decide)).andThen (State.onFtm_within _ _) (by decide)
      dsimp only
      split <;> split
      · exact (h.andThen (State.raise_within _ _ _) (by decide)).andThen (State.raise_within _ _ _) (by decide)
      · exact h.andThen (State.raise_within _ _ _) (by decide)
      · exact h.andThen (State.raise_within _ _ _) (by decide)
      · exact h
    · exact .refl

theorem State.evaluateIfDue_within : Within [.lsu, .ftm, .evu] s s.evaluateIfDue := by
  unfold State.evaluateIfDue
  split
  · exact s.evaluate_within
  · exact .refl

theorem State.audioAppend_within (b : Block) : Within [.auu, .evu] s (s.audioAppend b) := by
  unfold State.audioAppend
  split
  · exact (s.onAuu_within _).mono (by decide)
  · exact (((s.onAuu_within _).mono (by decide)).andThen (State.raise_within _ _ _) (by decide)).andThen
      (State.onAuu_within _ _) (by decide)

theorem State.audioSilence_within (n : Nat) : Within [.auu, .evu] s (State.audioSilence n s) := by
  induction n generalizing s with
  | zero => exact .refl
  | succ n ih => exact (s.audioAppend_within _).trans (ih _)

theorem State.audioOwned_within (b : Block) (gap : Option Nat) : Within [.auu, .evu] s (s.audioOwned b gap) := by
  unfold State.audioOwned
  split
  · exact (s.audioAppend_within _).andThen (State.onAuu_within _ _) (by decide)
  · split
    · exact (((s.audioSilence_within _).trans (State.audioAppend_within _ _)).andThen
        (State.onAuu_within _ _) (by decide)).andThen (State.raise_within _ _ _) (by decide)
    · split
      · exact (((s.onAuu_within _).mono (by decide)).trans (State.audioAppend_within _ _)).andThen
          (State.onAuu_within _ _) (by decide)
      · exact (s.onAuu_within _).mono (by decide)

theorem State.audioFirst_within (sn : Fin 32) (b : Block) : Within [.auu, .evu] s (s.audioFirst sn b) :=
  (((s.onAuu_within _).mono (by decide)).trans (State.audioAppend_within _ _)).andThen (State.onAuu_within _ _) (by decide)

theorem State.audioCell_within (sn : Fin 32) (len : Nat) (bytes : List Byte) (gap : Option Nat) :
    Within [.auu, .evu] s (s.audioCell sn len bytes gap) := by
  have h : Within [.auu, .evu] s
      (if len = 32 then s else s.onAuu fun a => { a with malformedBlocks := satInc a.malformedBlocks }) := by
    split
    · exact .refl
    · exact (s.onAuu_within _).mono (by decide)
  simp only [State.audioCell]
  generalize (if len = 32 then s else s.onAuu fun a => { a with malformedBlocks := satInc a.malformedBlocks }) = s1 at h ⊢
  split
  · exact h.trans (State.audioFirst_within _ _ _)
  · split
    · exact (h.andThen (State.onAuu_within _ _) (by decide)).trans (State.audioOwned_within _ _ _)
    · exact h.andThen (State.onAuu_within _ _) (by decide)

theorem State.period_within : Within [.auu, .evu] s s.period := by
  have h : Within [.auu, .evu] s (s.onAuu Auu.newPeriod) := (s.onAuu_within _).mono (by decide)
  simp only [State.period]
  split
  · split
    · exact h.andThen (State.onAuu_within _ _) (by decide)
    · exact (h.andThen (State.onAuu_within _ _) (by decide)).andThen (State.raise_within _ _ _) (by decide)
  · exact h.andThen (State.onAuu_within _ _) (by decide)

theorem State.micSample_within (x : Sample) : Within [.auu, .ltx] s (s.micSample x) := by
  simp only [State.micSample]
  split
  · exact (s.onAuu_within _).mono (by decide)
  · exact ((s.onAuu_within _).mono (by decide)).andThen (State.onLtx_within _ _) (by decide)

theorem State.endPattern_within (c : Channel) (r : EndReason) : Within [.pte, .evu] s (s.endPattern c r) := by
  unfold State.endPattern
  split
  · exact .refl
  · exact ((s.onPte_within _).mono (by decide)).andThen (State.raise_within _ _ _) (by decide)

theorem State.patternTrip_within : Within [.pte, .evu] s s.patternTrip :=
  ((s.endPattern_within _ _).trans (State.endPattern_within _ _ _)).andThen (State.onPte_within _ _) (by decide)

theorem State.patternStep_within (c : Channel) (p : Pattern) : Within [.pte, .evu] s (s.patternStep c p) := by
  unfold State.patternStep
  split
  · exact s.endPattern_within _ _
  · split
    · exact s.endPattern_within _ _
    · exact (s.onPte_within _).mono (by decide)

/-! ### Power manager -/

/-- The parts that an allocation can touch. -/
abbrev allocationParts : List Part := [.pmg, .evu, .auu, .pte, .mou, .pxp, .ftm]

theorem State.handPanel_within (p : Side) (old new : Nat) : Within [.pxp, .ftm, .evu] s (s.handPanel p old new) := by
  unfold State.handPanel
  split
  · exact s.panelOff_within p
  · split
    · exact (s.panelWake_within p).mono (by decide)
    · exact .refl

theorem State.handDerived_within : Within [.pmg, .auu, .pte] s s.handDerived := by
  simp only [State.handDerived]
  exact (((s.onPmg_within _).mono (by decide)).andThen (State.onAuu_within _ _) (by decide)).andThen
    (State.onPte_within _ _) (by decide)

theorem State.allocate_within : Within allocationParts s s.allocate := by
  have h : ∀ t : State, Within allocationParts s t → Within allocationParts s
      (((t.handDerived.handClass (classOf s.pmg.state (allocated s.requested s.pmg.state s.pmg.budget)[6])).handPanel .a
        s.pmg.loads[0].grant (allocated s.requested s.pmg.state s.pmg.budget)[0].grant).handPanel .b
          s.pmg.loads[1].grant (allocated s.requested s.pmg.state s.pmg.budget)[1].grant) := fun t ht =>
    (((ht.andThen t.handDerived_within (by decide)).andThen (State.handClass_within _ _) (by decide)).andThen
      (State.handPanel_within _ _ _ _) (by decide)).andThen (State.handPanel_within _ _ _ _) (by decide)
  simp only [State.allocate]
  split
  · exact h _ (((s.onPmg_within _).mono (by decide)).andThen (State.raise_within _ _ _) (by decide))
  · exact h _ ((s.onPmg_within _).mono (by decide))

theorem State.refreshLoads_within : Within allocationParts s s.refreshLoads := by
  unfold State.refreshLoads
  split
  · exact s.allocate_within
  · exact .refl

theorem State.budgetAndAllocate_within : Within allocationParts s s.budgetAndAllocate :=
  ((s.onPmg_within _).mono (by decide)).trans (State.allocate_within _)

theorem State.handTrip_within (old new : PowerState) : Within [.pxp, .ftm, .evu, .pte] s (s.handTrip old new) := by
  unfold State.handTrip
  split
  · exact (((s.holdStrobe_within _).mono (by decide)).andThen (State.holdStrobe_within _ _) (by decide)).andThen
      (State.patternTrip_within _) (by decide)
  · split
    · exact (((s.releaseStrobe_within _).mono (by decide)).andThen (State.releaseStrobe_within _ _) (by decide)).andThen
        (State.onPte_within _ _) (by decide)
    · exact .refl

theorem State.moveState_within (new : PowerState) (c : PowerCause) : Within allocationParts s (s.moveState new c) :=
  (((s.onPmg_within _).mono (by decide)).andThen (State.raise_within _ _ _) (by decide)).andThen
    (State.handTrip_within _ _ _) (by decide)

theorem State.powerTo_within (new : PowerState) (c : PowerCause) : Within allocationParts s (s.powerTo new c) := by
  unfold State.powerTo
  split
  · exact .refl
  · exact (s.moveState_within _ _).trans (State.budgetAndAllocate_within _)

theorem State.judgeTrip_within (st : PowerState) : Within allocationParts s (s.judgeTrip st) := by
  unfold State.judgeTrip
  split
  · exact .refl
  · split
    · split
      · exact ((s.onPmg_within _).mono (by decide)).trans (State.powerTo_within _ _ _)
      · exact (s.onPmg_within _).mono (by decide)
    · exact (s.onPmg_within _).mono (by decide)
  all_goals
    split
    · exact s.powerTo_within _ _
    · exact .refl

theorem State.judgeCurrent_within : Within allocationParts s s.judgeCurrent := by
  simp only [State.judgeCurrent]
  split
  · exact ((s.onPmg_within _).mono (by decide)).trans (State.powerTo_within _ _ _)
  · exact (s.onPmg_within _).mono (by decide)

theorem State.judgeLadder_within (st : PowerState) : Within allocationParts s (s.judgeLadder st) := by
  unfold State.judgeLadder
  split
  · exact .refl
  · exact s.powerTo_within _ _

theorem State.loadEndPower_within : Within allocationParts s s.loadEndPower := by
  unfold State.loadEndPower
  split
  · exact s.powerTo_within _ _
  · exact .refl

theorem State.measure_within (mv ma : Nat) : Within allocationParts s (s.measure mv ma) := by
  have h : Within allocationParts s
      (((s.onPmg fun p => p.sense mv ma).judgeTrip s.pmg.state).judgeCurrent.judgeLadder s.pmg.state) :=
    ((((s.onPmg_within _).mono (by decide)).trans (State.judgeTrip_within _ _)).trans
      (State.judgeCurrent_within _)).trans (State.judgeLadder_within _ _)
  simp only [State.measure]
  split
  · exact h
  · exact h.trans (State.loadEndPower_within _)

theorem State.storePower_within (c : PowerCfg) : Within allocationParts s (s.storePower c) := by
  have h : Within allocationParts s (s.onPmg fun p => { p with cfg := c }) := (s.onPmg_within _).mono (by decide)
  simp only [State.storePower]
  refine Within.trans ?_ (State.budgetAndAllocate_within _)
  split
  · exact h
  · exact h.trans (State.moveState_within _ _ _)

theorem State.startPlay_within (c : Channel) (n : Fin 48) (priority budget : Nat) :
    Within allocationParts s (s.startPlay c n priority budget) :=
  (((s.endPattern_within _ _).mono (by decide)).andThen (State.onPte_within _ _) (by decide)).trans
    (State.refreshLoads_within _)

/-! ### Frame timer -/

/-- The parts that a frame start can touch. -/
abbrev frameParts : List Part := .lsu :: .stu :: allocationParts

theorem State.displayLocks_within (e : Int) : Within [.ftm, .evu] s (s.displayLocks e) :=
  ((s.onFtm_within _).mono (by decide)).andThen (State.raise_within _ _ _) (by decide)

theorem State.judgeLock_within (e : Int) : Within [.ftm, .evu] s (s.judgeLock e) := by
  simp only [State.judgeLock]
  split
  · exact (s.onFtm_within _).mono (by decide)
  · exact (s.onFtm_within _).mono (by decide)
  · split
    · exact ((s.onFtm_within _).mono (by decide)).trans (State.displayLocks_within _ _)
    · exact (s.onFtm_within _).mono (by decide)
  · exact (s.onFtm_within _).mono (by decide)
  · exact (s.onFtm_within _).mono (by decide)
  · split
    · exact ((((s.onFtm_within _).mono (by decide)).andThen (State.onFtm_within _ _) (by decide))).andThen
        (State.raise_within _ _ _) (by decide)
    · exact (s.onFtm_within _).mono (by decide)
  · exact s.displayLocks_within _
  · exact (s.onFtm_within _).mono (by decide)

theorem State.target_within (n : FrameNo) (t : Time) : Within [.lsu, .ftm, .evu] s (s.target n t) := by
  unfold State.target
  split
  · exact .refl
  · exact ((s.onFtm_within _).mono (by decide)).trans (State.evaluateIfDue_within _)
  · split
    · exact (s.onFtm_within _).mono (by decide)
    · exact .refl
  · split
    · exact .refl
    · split
      · exact (s.onFtm_within _).mono (by decide)
      · exact (((s.onFtm_within _).mono (by decide)).andThen (State.judgeLock_within _ _) (by decide)).trans
          (State.evaluateIfDue_within _)

theorem State.rebase_within (d : Int) : Within [.ftm, .pxp, .mou] s (s.rebase d) :=
  (((s.onFtm_within _).mono (by decide)).andThen (State.onPxp_within _ _) (by decide)).andThen
    (State.onMou_within _ _) (by decide)

theorem State.startPulse_within (g : Side) : Within [.ftm] s (s.startPulse g) := s.onGen_within _ _

theorem State.endPulse_within (g : Side) : Within [.ftm] s (s.endPulse g) := by
  cases g
  · exact (s.onGen_within _ _).trans (State.onGen_within _ _ _)
  · exact s.onGen_within _ _

theorem State.reportRenumber_within : Within [.evu] s s.reportRenumber := by
  unfold State.reportRenumber
  split
  · split
    · exact .refl
    · exact s.raise_within _ _
  · exact .refl

theorem State.lockBookkeeping_within : Within [.ftm, .evu] s s.lockBookkeeping := by
  simp only [State.lockBookkeeping]
  split
  · split
    · exact ((s.onFtm_within _).mono (by decide)).andThen (State.raise_within _ _ _) (by decide)
    · exact (s.onFtm_within _).mono (by decide)
  · split
    · split
      · exact (((s.onFtm_within _).mono (by decide)).andThen (State.onFtm_within _ _) (by decide)).andThen
          (State.raise_within _ _ _) (by decide)
      · exact (s.onFtm_within _).mono (by decide)
    · exact .refl

theorem State.frameNumbers_within : Within [.ftm, .evu] s s.frameNumbers :=
  (((s.reportRenumber_within.mono (by decide)).andThen (State.onFtm_within _ _) (by decide)).trans
    (State.lockBookkeeping_within _)).andThen (State.onFtm_within _ _) (by decide)

theorem State.cutAtStart_within (p : Side) (F : Option FrameNo) : Within [.pxp, .ftm, .evu] s (s.cutAtStart p F) := by
  unfold State.cutAtStart
  split
  · exact s.cutScan_within _ _
  · exact .refl

theorem State.lateEvaluate_within : Within [.lsu, .ftm, .evu] s s.lateEvaluate := by
  unfold State.lateEvaluate
  split
  · split
    · exact s.evaluate_within.andThen (State.onUpcoming_within _ _) (by decide)
    · exact .refl
  · exact .refl

theorem State.frameRecords_within (old : Option FrameNo) : Within [.lsu, .pxp, .ftm, .evu] s (s.frameRecords old) :=
  (((((s.cutAtStart_within _ _).mono (by decide)).andThen (State.cutAtStart_within _ _ _) (by decide)).andThen
    (State.finishRecord_within _) (by decide)).andThen (State.lateEvaluate_within _) (by decide)).andThen
      (State.onFtm_within _ _) (by decide)

theorem State.panelInForce_within (p : Side) : Within [.pxp] s (s.panelInForce p) := by
  simp only [State.panelInForce]
  split
  · exact (s.onPanel_within _ _).trans (State.onPxp_within _ _)
  · exact s.onPanel_within _ _

theorem State.sweepContext_within (i : Fin 4) : Within [.pxp] s (s.sweepContext i) := by
  unfold State.sweepContext
  split
  · split
    · exact .refl
    · exact s.abortCtx_within _
  · exact .refl

theorem State.panelStart_within (p : Side) (old : Option FrameNo) : Within [.pxp] s (s.panelStart p old) :=
  s.onPanel_within _ _

theorem State.firstLine_within (p : Side) : Within [.pxp, .ftm] s (s.firstLine p) := by
  unfold State.firstLine
  split
  · exact s.outputLine_within _ _
  · exact .refl

theorem State.namePanels_within : Within [.ftm, .evu] s s.namePanels := by
  simp only [State.namePanels]
  split
  · exact (s.onFtm_within _).mono (by decide)
  · exact ((s.onFtm_within _).mono (by decide)).trans (State.finishRecord_within _)

theorem State.picturesStart_within (old : Option FrameNo) : Within [.pxp, .ftm, .evu] s (s.picturesStart old) := by
  have h : Within [.pxp, .ftm, .evu] s
      (([0, 1, 2, 3] : List (Fin 4)).foldl State.sweepContext ((s.panelInForce .a).panelInForce .b)) :=
    (((s.panelInForce_within _).trans (State.panelInForce_within _ _)).trans
      (Within.foldl (fun s i => s.sweepContext_within i) _ _)).mono (by decide)
  exact ((((h.andThen (State.panelStart_within _ _ _) (by decide)).andThen (State.panelStart_within _ _ _)
    (by decide)).andThen (State.namePanels_within _) (by decide)).andThen (State.firstLine_within _ _) (by decide)).andThen
      (State.firstLine_within _ _) (by decide)

theorem State.startPulses_within : Within [.stu, .ftm] s s.startPulses :=
  ((s.onStu_within _).mono (by decide)).andThen (State.onFtm_within _ _) (by decide)

theorem State.frameStart_within : Within frameParts s s.frameStart :=
  (((((s.frameNumbers_within.mono (by decide)).andThen (State.frameRecords_within _ _) (by decide)).andThen
    (State.picturesStart_within _ _) (by decide)).andThen (State.onFtm_within _ _) (by decide)).andThen
      (State.startPulses_within _) (by decide)).andThen (State.refreshLoads_within _) (by decide)

end Sys2Proof.Machine
end

