-- ==== Sys2Proof/Laws/Lines.lean ====
section
/-! SUPPORT. Levels of the side-band lines and the rising edges a command makes (2.4, 2.5, R38). -/

namespace Sys2Proof.Machine

open Sys2Proof

/-- A change within the motion unit is a new motion unit. -/
theorem Within.eq_mou {s t : State} (h : Within [.mou] s t) : t = { s with mou := t.mou } := by
  have := h.pending; have := h.hold
  have := h.clock; have := h.lrx; have := h.ltx; have := h.stu; have := h.mrs; have := h.cfl; have := h.ftm
  have := h.pxp; have := h.lsu; have := h.auu; have := h.pte; have := h.pmg; have := h.evu
  cases s; cases t; simp_all

/-- Handing the same levels twice hands no edge. -/
theorem State.handEdges_of_noRise (s : State) {old new : BitVec 6}
    (h : ∀ i : Fin 6, new.getLsbD i.val = true → old.getLsbD i.val = true) : s.handEdges old new = s := by
  have key : ∀ (xs : List (Fin 6)) (s : State),
      xs.foldl (fun s i => if !old.getLsbD i.val && new.getLsbD i.val then s.readyEdge i else s) s = s := by
    intro xs
    induction xs with
    | nil => intro s; rfl
    | cons x xs ih =>
      intro s
      have hx := h x
      simp only [List.foldl_cons]
      cases hn : new.getLsbD x.val <;> cases ho : old.getLsbD x.val <;> simp_all
  exact key _ s

/-- The level of a line as the word of levels shows it. -/
@[simp] theorem State.levels_get (s : State) (i : Fin 6) : s.levels.getLsbD i.val = s.lineLevel i := by
  rw [State.levels, BitVec.getLsbD_ofFnLE]
  simp

/-- A command that raises no line hands no edge. -/
theorem State.edged_of_noRise {s : State} {f : State → State}
    (h : ∀ i : Fin 6, (f s).lineLevel i = true → s.lineLevel i = true) : s.edged f = f s :=
  State.handEdges_of_noRise _ fun i => by rw [State.levels_get, State.levels_get]; exact h i

/-- A line's level depends only on the steering unit, the lock, PASS, the display state, the generators, strobe A and the
power state (R34 to R36). -/
theorem State.lineLevel_congr {s t : State} (i : Fin 6) (hu : t.stu = s.stu) (hl : t.lrx.lock = s.lrx.lock)
    (hp : t.lrx.pass = s.lrx.pass) (hd : t.ftm.display = s.ftm.display) (hg : t.ftm.gens = s.ftm.gens)
    (ha : t.pxp.panels.a.strobe = s.pxp.panels.a.strobe) (hs : t.pmg.state = s.pmg.state) :
    t.lineLevel i = s.lineLevel i := by
  unfold State.lineLevel State.claimed State.sourceLevel
  rw [hu, hl, hp, hd, hg, ha, hs]

/-- A line does not rise while the steering unit, the display state and the generators stay, and none of LOCKED, PASS, strobe
A on and NORMAL begins. -/
theorem State.lineLevel_noRise {s t : State} (i : Fin 6) (hu : t.stu = s.stu)
    (hl : t.lrx.lock = .locked → s.lrx.lock = .locked) (hp : t.lrx.pass = true → s.lrx.pass = true)
    (hd : t.ftm.display = s.ftm.display) (hg : t.ftm.gens = s.ftm.gens)
    (ha : t.pxp.panels.a.strobe = .on → s.pxp.panels.a.strobe = .on) (hs : t.pmg.state = .normal → s.pmg.state = .normal)
    (h : t.lineLevel i = true) : s.lineLevel i = true := by
  revert h
  unfold State.lineLevel State.claimed State.sourceLevel
  rw [hu, hd, hg]
  split
  · exact id
  · dsimp only
    split <;> simp_all

/-- A change of the link receiver that begins neither LOCKED nor PASS raises no line. -/
theorem State.onLrx_noRise {s : State} {f : Lrx → Lrx} (hl : (f s.lrx).lock = .locked → s.lrx.lock = .locked)
    (hp : (f s.lrx).pass = true → s.lrx.pass = true) (i : Fin 6) (h : (s.onLrx f).lineLevel i = true) :
    s.lineLevel i = true :=
  State.lineLevel_noRise (s := s) (t := s.onLrx f) i rfl hl hp rfl rfl id id h

/-- A command with its rising edges is the command with some motion unit in the end (R38). -/
theorem State.edged_eq_mou (s : State) (f : State → State) : ∃ m, s.edged f = { f s with mou := m } :=
  ⟨_, ((f s).handEdges_within _ _).eq_mou⟩

end Sys2Proof.Machine
end

