-- ==== Sys2Proof/Laws/Arrival.lean ====
section
/-! SUPPORT. What an arrival of a cell judged in LOCKED does before its delivery, said once (R2, R3, R7, R8, R25). -/

namespace Sys2Proof.Machine

open Sys2Proof

/-- The pass machine at an arrival, with the cell taken out and the windows in force, is `State.arrived`. -/
theorem State.passWindow_arrived (s : State) (good : Bool) :
    ((s.onLrx fun l => { l with cell := none }).onStu fun u => { u with inForce := u.written }).passWindow good
      = s.arrived good := by
  unfold State.passWindow State.windowEnd State.errorCheck State.judgeWindow State.losePass State.arrived Lrx.countCell
  simp only [State.onLrx, State.onStu, State.raise, State.onEvu, State.now, State.timeUnset]
  by_cases hp : s.lrx.pass = true <;> by_cases h2 : s.lrx.winCells + 1 = 4096 <;> cases good <;>
    by_cases h1 : s.lrx.passThreshold ≤ s.lrx.winErrors + 1 <;>
    by_cases h3 : s.lrx.passThreshold ≤ s.lrx.winErrors <;>
    (try simp only [Bool.not_eq_true] at hp) <;>
    simp [bit, hp, h1, h2, h3, Nat.not_lt.mpr, Nat.lt_of_not_le] <;> first | omega | rfl

/-- A cell judged in LOCKED arrives: the pass machine with the polls its edges trigger, then the delivery of a good cell or the
marks of a bad one. -/
theorem exec_cellArrival (s : State) (c : RxCell) (payload : List Byte) (p0 p1 : Byte) (hh : s.held = false)
    (hc : s.lrx.cell = some c) (hl : c.locked = true) (hn : payload.length = 128) :
    ∃ m, exec (.cellArrival payload p0 p1) s = .next
      (let a : State := { s.arrived (payloadGood (payload.take (4 * c.len)) p0 p1) with mou := m }
       if payloadGood (payload.take (4 * c.len)) p0 p1 = true then a.deliver c (payload.take (4 * c.len))
       else a.badPayload c (payload.take (4 * c.len))) := by
  obtain ⟨m, hm⟩ := State.edged_eq_mou ((s.onLrx fun l => { l with cell := none }).onStu fun u => { u with inForce := u.written })
    (fun s => s.passWindow (payloadGood (payload.take (4 * c.len)) p0 p1))
  rw [State.passWindow_arrived] at hm
  refine ⟨m, ?_⟩
  simp [exec, execCellArrival, State.live, hh, hc, hn, State.arrive, hl, State.lockedArrival, hm]

end Sys2Proof.Machine
end

