-- ==== Sys2Proof/Laws/Link.lean ====
section
/-! SUPPORT. What stores, requests, the loader, the link receiver and the link transmitter can touch. -/

namespace Sys2Proof.Machine

open Sys2Proof

variable (s : State)

/-! ### Stores (R46) -/

theorem State.moveQueued_within (e : Fin 8) (b : Bus) : Within [.mou] s (s.moveQueued e b) := by
  unfold State.moveQueued
  split
  · exact .refl
  · dsimp only
    split
    · exact s.unqueue_within e
    · exact ((s.unqueue_within e).trans (State.onBus_within _ _ _)).trans (State.startNext_within _ _)

theorem State.storePoll_within (i : Fin 8) (c : PollCfg) : Within [.mou] s (s.storePoll i c) := by
  simp only [State.storePoll]
  split
  · exact (s.onPoll_within _ _).trans (State.unqueue_within _ _)
  · split
    · exact (s.onPoll_within _ _).trans (State.moveQueued_within _ _ _)
    · exact s.onPoll_within _ _

/-- The parts that a stored write can touch, table by table. -/
def Table.parts : Table → List Part
  | .identity => []
  | .link => [.lrx]
  | .steering => [.stu]
  | .streamStatus => []
  | .sideband => [.stu]
  | .frameTimer => [.ftm]
  | .exposure => [.ftm]
  | .panel => allocationParts
  | .shift => [.lsu]
  | .frameLog => []
  | .poll => allocationParts
  | .mount => [.mou]
  | .motion => .ltx :: allocationParts
  | .audio => allocationParts
  | .pattern => allocationParts
  | .loads => allocationParts
  | .power => allocationParts
  | .events => [.evu]

theorem State.storeEntry_within (t : Table) (e : EntryValues) : Within t.parts s (s.storeEntry t e) := by
  cases t <;> simp only [State.storeEntry, Table.parts]
  · exact .refl
  · exact s.onLrx_within _
  · exact s.onStu_within _
  · exact .refl
  · exact s.onStu_within _
  · exact s.onFtm_within _
  · exact s.onGen_within _ _
  · exact (s.onPanel_within _ _).mono (by decide)
  · exact s.onLsu_within _
  · exact .refl
  · exact (s.storePoll_within _ _).mono (by decide)
  · exact s.onMou_within _
  · exact (s.onMou_within _).mono (by decide)
  · exact (s.onAuu_within _).mono (by decide)
  · exact (s.onPte_within _).mono (by decide)
  · exact (s.onPmg_within _).mono (by decide)
  · exact s.storePower_within _
  · exact s.onEvu_within _

theorem State.reallocate_within (old : List Nat) : Within allocationParts s (s.reallocate old) := by
  unfold State.reallocate
  split
  · exact s.refreshLoads_within
  · exact s.allocate_within

theorem State.afterStore_within (t : Table) (old : List Nat) : Within t.parts s (s.afterStore t old) := by
  cases t <;> simp only [State.afterStore, Table.parts] <;> first
    | exact .refl
    | exact s.reallocate_within old
    | exact s.refreshLoads_within
    | exact s.allocate_within
    | exact (s.refreshLoads_within.mono (by decide)).andThen (State.judgeBatch_within _) (by decide)

theorem State.store_within (t : Table) (es : List EntryValues) : Within t.parts s (s.store t es) :=
  (Within.foldl (fun s e => s.storeEntry_within t e) es s).trans (State.afterStore_within _ t _)

/-! ### Requests (R41 to R54) -/

/-- The parts that a request can touch: all but the clock and the loader. -/
abbrev requestParts : List Part := [.lrx, .ltx, .stu, .mrs, .ftm, .pxp, .mou, .lsu, .auu, .pte, .pmg, .evu]

theorem Table.parts_request (t : Table) : ∀ b ∈ t.parts, b ∈ requestParts := by cases t <;> decide

theorem State.answerWith_within (table : Byte) (r : Request) (st : Status) : Within [.ltx] s (s.answerWith table r st) :=
  s.placeReply_within _

theorem State.doRead_within (table : Byte) (t : Table) (r : Request) : Within [.ltx] s (s.doRead table t r) := by
  unfold State.doRead
  split
  · exact s.answerWith_within _ _ _
  · exact s.placeReply_within _

theorem State.doWrite_within (table : Byte) (t : Table) (r : Request) : Within requestParts s (s.doWrite table t r) := by
  unfold State.doWrite
  split
  · exact (s.answerWith_within _ _ _).mono (by decide)
  · exact ((s.store_within t _).mono t.parts_request).andThen (State.answerWith_within _ _ _ _) (by decide)

theorem State.clearEntry_within (t : Table) (i : Nat) : Within requestParts s (s.clearEntry t i) := by
  cases t <;> simp only [State.clearEntry]
  · exact (s.onMrs_within _).mono (by decide)
  · exact ((s.onLrx_within _).mono (by decide)).andThen (State.onLtx_within _ _) (by decide)
  · exact .refl
  · exact (s.onStream_within _ _).mono (by decide)
  · exact .refl
  · exact (s.onFtm_within _).mono (by decide)
  · exact (s.onGen_within _ _).mono (by decide)
  · exact (s.onPanel_within _ _).mono (by decide)
  · exact (s.onLsu_within _).mono (by decide)
  · exact .refl
  · exact (s.onPoll_within _ _).mono (by decide)
  · exact (s.onMou_within _).mono (by decide)
  · exact (s.onMou_within _).mono (by decide)
  · exact (s.onAuu_within _).mono (by decide)
  · exact .refl
  · exact (s.onPmg_within _).mono (by decide)
  · exact (s.onPmg_within _).mono (by decide)
  · exact (s.onEvu_within _).mono (by decide)

theorem State.clearEntries_within (t : Table) (n i : Nat) : Within requestParts s (s.clearEntries t n i) := by
  induction n generalizing s i with
  | zero => exact .refl
  | succ n ih => exact (s.clearEntry_within t i).trans (ih _ _)

theorem State.doClear_within (table : Byte) (t : Table) (r : Request) : Within requestParts s (s.doClear table t r) :=
  (s.clearEntries_within _ _ _).andThen (State.answerWith_within _ _ _ _) (by decide)

theorem State.doRelay_within (table : Byte) (r : Request) : Within requestParts s (s.doRelay table r) := by
  unfold State.doRelay
  repeat' split
  all_goals first
    | exact (s.answerWith_within _ _ _).mono (by decide)
    | exact ((s.onMrs_within _).mono (by decide)).andThen (State.relayHandOver_within _ _) (by decide)

theorem State.doCommand_within (code : Byte) (r : Request) : Within requestParts s (s.doCommand code r) := by
  have ans : ∀ st, Within requestParts s (s.answerWith code r st) := fun st =>
    (s.answerWith_within _ _ _).mono (by decide)
  unfold State.doCommand
  split
  · split
    · exact ans _
    · exact ((s.placeReply_within _).mono (by decide)).andThen (State.onMrs_within _ _) (by decide)
  · exact s.doRelay_within _ _
  · unfold State.doBusRecover
    repeat' split
    all_goals first
      | exact ans _
      | exact ((s.busRecover_within _).mono (by decide)).andThen (State.answerWith_within _ _ _ _) (by decide)
  · unfold State.doFifoFlush
    split
    · exact ans _
    · exact ((s.onMou_within _).mono (by decide)).andThen (State.answerWith_within _ _ _ _) (by decide)
  · unfold State.doAudioRestart
    split
    · exact ans _
    · exact (((s.onAuu_within _).mono (by decide)).andThen (State.refreshLoads_within _) (by decide)).andThen
        (State.answerWith_within _ _ _ _) (by decide)
  · unfold State.doPlay
    repeat' split
    all_goals first
      | exact ans _
      | exact ((s.startPlay_within _ _ _ _).mono (by decide)).andThen (State.answerWith_within _ _ _ _) (by decide)
  · unfold State.doStop
    repeat' split
    all_goals first
      | exact ans _
      | exact (((s.endPattern_within _ _).mono (by decide)).andThen (State.refreshLoads_within _) (by decide)).andThen
          (State.answerWith_within _ _ _ _) (by decide)
  · unfold State.doTestStart
    split
    · exact ans _
    · exact ((s.onLrx_within _).mono (by decide)).andThen (State.answerWith_within _ _ _ _) (by decide)
  · unfold State.doTestStop
    split
    · exact ans _
    · exact ((s.onLrx_within _).mono (by decide)).andThen (State.answerWith_within _ _ _ _) (by decide)
  · exact ans _

theorem State.answer_within (op : Nat) (table : Byte) (r : Request) : Within requestParts s (s.answer op table r) := by
  have ans : ∀ st, Within requestParts s (s.answerWith table r st) := fun st =>
    (s.answerWith_within _ _ _).mono (by decide)
  unfold State.answer State.doTable
  repeat' split
  all_goals first
    | exact ans _
    | exact s.doCommand_within _ _
    | exact (s.doRead_within _ _ _).mono (by decide)
    | exact s.doWrite_within _ _ _
    | exact s.doClear_within _ _ _

theorem State.request_within (op : Nat) (table : Byte) (r : Request) : Within requestParts s (s.request op table r) := by
  unfold State.request
  split
  · exact (s.onMrs_within _).mono (by decide)
  · split
    · exact ((s.onMrs_within _).mono (by decide)).andThen (State.raise_within _ _ _) (by decide)
    · exact ((s.onMrs_within _).mono (by decide)).trans (State.answer_within _ _ _ _)

/-! ### Loader (R56 to R58) -/

/-- The parts that the loader can touch. -/
abbrev loaderParts : List Part := .cfl :: requestParts

theorem State.endLoading_within (st : ImageState) : Within loaderParts s (s.endLoading st) := by
  simp only [State.endLoading]
  exact ((((s.onCfl_within _).mono (by decide)).andThen (State.raise_within _ _ _) (by decide)).andThen
    (State.loadEndPower_within _) (by decide)).andThen (State.onFtm_within _ _) (by decide)

theorem State.imageHeader_within (w0 w1 : Word) : Within loaderParts s (s.imageHeader w0 w1) := by
  have h : Within loaderParts s (s.onCfl fun c => c.takeHeader w0 w1) := (s.onCfl_within _).mono (by decide)
  simp only [State.imageHeader]
  split
  · exact h.trans (State.endLoading_within _ _)
  · split
    · exact h.trans (State.endLoading_within _ _)
    · exact h

theorem State.imageBody_within (body : List Word) : Within loaderParts s (s.imageBody body) := by
  unfold State.imageBody
  split
  · exact (s.onCfl_within _).mono (by decide)
  · exact ((s.onCfl_within _).mono (by decide)).trans (State.endLoading_within _ _)

theorem State.takeRecord_within (t : Table) (h : RecordHeader) (pos : Nat) (data : List Word) :
    Within loaderParts s (s.takeRecord t h pos data) := by
  unfold State.takeRecord
  split
  · exact (s.onCfl_within _).mono (by decide)
  · split
    · exact (s.onCfl_within _).mono (by decide)
    · exact ((s.store_within t _).mono fun b hb => List.mem_cons_of_mem _ (t.parts_request b hb)).andThen
        (State.onCfl_within _ _) (by decide)

theorem State.afterRecord_within : Within loaderParts s s.afterRecord := by
  unfold State.afterRecord
  split
  · exact s.endLoading_within _
  · exact .refl

theorem State.imageRecord_within (w : Word) (data : List Word) : Within loaderParts s (s.imageRecord w data) := by
  have brk : ∀ pos, Within loaderParts s (s.breakRecord pos) := fun pos =>
    ((s.onCfl_within _).mono (by decide)).trans (State.endLoading_within _ _)
  simp only [State.imageRecord]
  split
  · exact brk _
  · split
    · exact brk _
    · split
      · exact (((s.onCfl_within _).mono (by decide)).trans (State.takeRecord_within _ _ _ _ _)).trans
          (State.afterRecord_within _)
      · exact .refl

/-! ### Link receiver (chapters 1 and 2) -/

theorem State.lockLost_within : Within [.lrx, .stu, .pxp, .evu] s s.lockLost :=
  ((((s.onLrx_within _).mono (by decide)).andThen (State.onStu_within _ _) (by decide)).andThen
    (State.onPxp_within _ _) (by decide)).andThen (State.raise_within _ _ _) (by decide)

theorem State.judgeHeader_within (b0 b1 b2 b3 : Byte) :
    Within [.lrx, .stu, .pxp, .evu] s (s.judgeHeader b0 b1 b2 b3) := by
  unfold State.judgeHeader State.goodHeader State.badHeader
  repeat' split
  all_goals first
    | exact (s.onLrx_within _).mono (by decide)
    | exact ((s.onLrx_within _).mono (by decide)).andThen (State.raise_within _ _ _) (by decide)
    | exact ((s.onLrx_within _).mono (by decide)).trans (State.lockLost_within _)

theorem State.losePass_within : Within [.lrx, .evu] s s.losePass :=
  ((s.onLrx_within _).mono (by decide)).andThen (State.raise_within _ _ _) (by decide)

theorem State.judgeWindow_within : Within [.lrx, .evu] s s.judgeWindow := by
  unfold State.judgeWindow
  repeat' split
  all_goals first
    | exact .refl
    | exact s.losePass_within
    | exact ((s.onLrx_within _).mono (by decide)).andThen (State.raise_within _ _ _) (by decide)

theorem State.passWindow_within (good : Bool) : Within [.lrx, .evu] s (s.passWindow good) := by
  have h : Within [.lrx, .evu] s ((s.onLrx fun l => l.countCell good).errorCheck good) := by
    unfold State.errorCheck
    split
    · exact ((s.onLrx_within _).mono (by decide)).trans (State.losePass_within _)
    · exact (s.onLrx_within _).mono (by decide)
  unfold State.passWindow State.windowEnd
  split
  · exact (h.trans (State.judgeWindow_within _)).andThen (State.onLrx_within _ _) (by decide)
  · exact h

theorem State.badPayload_within (c : RxCell) (bs : List Byte) : Within [.lrx, .stu] s (s.badPayload c bs) := by
  have h : Within [.lrx, .stu] s ((s.onLrx fun l => { l with badPayloads := satInc l.badPayloads }).onStream c.sn fun e =>
      { e with badPcrc := satInc e.badPcrc, gapPending := true }) :=
    ((s.onLrx_within _).mono (by decide)).andThen (State.onStream_within _ _ _) (by decide)
  simp only [State.badPayload]
  split
  · exact h.andThen (State.onLrx_within _ _) (by decide)
  · exact h

theorem State.trackCell_within (c : RxCell) : Within [.stu] s (s.trackCell c) := s.onStream_within _ _

/-- The parts that the delivery of a DATA cell can touch. -/
abbrev steerParts : List Part := .stu :: allocationParts

theorem State.steer_within (c : RxCell) (bs : List Byte) (g : Option Nat) (d : Destination) :
    Within steerParts s (s.steer c bs g d) := by
  cases d <;> simp only [State.steer]
  · exact .refl
  · exact (s.pictureCell_within _).mono (by decide)
  · exact (s.pictureCell_within _).mono (by decide)
  · exact (s.pictureCell_within _).mono (by decide)
  · exact ((s.audioCell_within _ _ _ _).mono (by decide)).andThen (State.refreshLoads_within _) (by decide)
  · exact (s.onStu_within _).mono (by decide)

theorem State.steering_within (c : RxCell) (bs : List Byte) : Within steerParts s (s.steering c bs) := by
  have h : Within steerParts s (s.trackCell c) := (s.trackCell_within c).mono (by decide)
  simp only [State.steering]
  split
  · exact h.andThen (State.onStream_within _ _ _) (by decide)
  · split
    · exact h.andThen (State.onStream_within _ _ _) (by decide)
    · exact h.trans (State.steer_within _ _ _ _ _)

theorem State.timeFault_within (d : Int) : Within [.lrx, .evu] s (s.timeFault d) := by
  have h : Within [.lrx, .evu] s ((s.onLrx fun l => { l with faults := l.faults + 1 }).raise .timeFault
      (leBytesInt 4 d)) := ((s.onLrx_within _).mono (by decide)).andThen (State.raise_within _ _ _) (by decide)
  simp only [State.timeFault]
  split
  · exact (h.andThen (State.onLrx_within _ _) (by decide)).andThen (State.raise_within _ _ _) (by decide)
  · exact h

theorem State.timeUpdate_within (ref : Time) : Within [.lrx, .evu, .ftm, .pxp, .mou] s (s.timeUpdate ref) := by
  unfold State.timeUpdate
  split
  · exact (((s.onLrx_within _).mono (by decide)).andThen (State.raise_within _ _ _) (by decide)).andThen
      (State.rebase_within _ _) (by decide)
  · exact (((s.onLrx_within _).mono (by decide)).andThen (State.raise_within _ _ _) (by decide)).andThen
      (State.rebase_within _ _) (by decide)
  · exact (s.onLrx_within _).mono (by decide)
  · exact (s.onLrx_within _).mono (by decide)
  · exact (s.timeFault_within _).mono (by decide)

theorem State.takeIf_within {bs : List Part} {due : State → Bool} {f : State → State} (h : Within bs s (f s))
    (m : Part.mou ∈ bs) : Within bs s (s.takeIf due f) := by
  unfold State.takeIf
  split
  · exact s.edged_within h m
  · exact .refl

theorem State.takeDue_within : Within frameParts s s.takeDue := by
  have pul : ∀ (t : State) (g : Side) (d : State → Bool), Within frameParts t (t.takeIf d fun s => s.startPulse g) :=
    fun t g d => t.takeIf_within ((t.startPulse_within g).mono (by decide)) (by decide)
  have pen : ∀ (t : State) (g : Side) (d : State → Bool), Within frameParts t (t.takeIf d fun s => s.endPulse g) :=
    fun t g d => t.takeIf_within ((t.endPulse_within g).mono (by decide)) (by decide)
  have sts : ∀ (t : State) (g : Side) (d : State → Bool), Within frameParts t (t.takeIf d fun s => s.beginStrobe g) :=
    fun t g d => t.takeIf_within ((t.beginStrobe_within g).mono (by decide)) (by decide)
  have ste : ∀ (t : State) (g : Side) (d : State → Bool), Within frameParts t (t.takeIf d fun s => s.endStrobe g) :=
    fun t g d => t.takeIf_within ((t.endStrobe_within g).mono (by decide)) (by decide)
  exact (((((((((pul s .a _).trans (pen _ .a _)).trans (pul _ .b _)).trans (pen _ .b _)).trans (sts _ .a _)).trans
    (ste _ .a _)).trans (sts _ .b _)).trans (ste _ .b _)).trans
      (State.takeIf_within _ (State.frameStart_within _) (by decide))).andThen (State.evaluateIfDue_within _) (by decide)

theorem State.syncTarget_within (x : Sync) (f : Bool) : Within [.lrx, .lsu, .ftm, .evu, .mou] s (s.syncTarget x f) := by
  unfold State.syncTarget
  split
  · exact .refl
  · split
    · exact (s.onLrx_within _).mono (by decide)
    · exact s.edged_within ((s.target_within _ _).mono (by decide)) (by decide)

theorem State.sync_within (x : Sync) : Within (.lrx :: frameParts) s (s.sync x) := by
  have h : ∀ r, Within (.lrx :: frameParts) s (s.edged fun s => s.timeUpdate r) := fun r =>
    s.edged_within ((s.timeUpdate_within _).mono (by decide)) (by decide)
  simp only [State.sync]
  split
  · exact (h _).andThen (State.syncTarget_within _ _ _) (by decide)
  · exact ((h _).andThen (State.takeDue_within _) (by decide)).andThen (State.syncTarget_within _ _ _) (by decide)

theorem State.syncCell_within (c : RxCell) (bs : List Byte) : Within (.lrx :: frameParts) s (s.syncCell c bs) := by
  unfold State.syncCell
  split
  · exact s.sync_within _
  · exact (s.onLrx_within _).mono (by decide)

theorem State.streamZero_within (c : RxCell) (bs : List Byte) : Within requestParts s (s.streamZero c bs) := by
  unfold State.streamZero
  split
  · exact .refl
  · exact ((s.onStream_within _ _).mono (by decide)).andThen (State.trackCell_within _ _) (by decide)
  · exact (s.edged_within (s.request_within _ _ _) (by decide)).andThen (State.trackCell_within _ _) (by decide)
  · exact ((s.syncCell_within _ _).mono (by decide)).andThen (State.trackCell_within _ _) (by decide)
  · exact ((s.onLrx_within _).mono (by decide)).andThen (State.trackCell_within _ _) (by decide)

theorem State.deliver_within (c : RxCell) (bs : List Byte) : Within requestParts s (s.deliver c bs) := by
  unfold State.deliver
  split
  · exact s.streamZero_within _ _
  · exact s.edged_within ((s.steering_within _ _).mono (by decide)) (by decide)

theorem State.lockedArrival_within (c : RxCell) (bs : List Byte) (good : Bool) :
    Within requestParts s (s.lockedArrival c bs good) := by
  have h : Within requestParts s (s.edged fun s => s.passWindow good) :=
    s.edged_within ((s.passWindow_within _).mono (by decide)) (by decide)
  simp only [State.lockedArrival]
  split
  · exact h.trans (State.deliver_within _ _ _)
  · exact h.andThen (State.badPayload_within _ _ _) (by decide)

theorem State.arrive_within (c : RxCell) (pl : List Byte) (p0 p1 : Byte) :
    Within requestParts s (s.arrive c pl p0 p1) := by
  have h : Within requestParts s
      ((s.onLrx fun l => { l with cell := none }).onStu fun u => { u with inForce := u.written }) :=
    ((s.onLrx_within _).mono (by decide)).andThen (State.onStu_within _ _) (by decide)
  simp only [State.arrive]
  split
  · exact h.trans (State.lockedArrival_within _ _ _ _)
  · exact h.andThen (State.onLrx_within _ _) (by decide)

/-! ### Lines and link transmitter -/

theorem State.pinChange_within (i : Fin 6) (l : Bool) : Within [.stu, .evu] s (s.pinChange i l) := by
  unfold State.pinChange
  split
  · exact .refl
  · dsimp only
    split
    · exact ((s.onStu_within _).mono (by decide)).andThen (State.raise_within _ _ _) (by decide)
    · exact (s.onStu_within _).mono (by decide)

theorem State.pulseEnds_within : Within [.stu, .ftm] s s.pulseEnds :=
  ((s.onStu_within _).mono (by decide)).andThen (State.onFtm_within _ _) (by decide)

theorem State.pickQueued_within : Within [.ltx, .evu, .mou] s s.pickQueued := by
  have h : Within [.ltx, .evu, .mou] s (s.onLtx fun t => { t with fairness := s.fairnessAfter }) :=
    (s.onLtx_within _).mono (by decide)
  unfold State.pickQueued
  dsimp only
  split
  · exact h.andThen (State.onLtx_within _ _) (by decide)
  · unfold State.sendNotice
    split
    · exact h
    · exact (h.andThen (State.onEvu_within _ _) (by decide)).andThen (State.onLtx_within _ _) (by decide)
  · exact (h.andThen (State.onLtx_within _ _) (by decide)).andThen (State.judgeBatch_within _) (by decide)
  · exact h.andThen (State.onLtx_within _ _) (by decide)
  · exact h.andThen (State.onLtx_within _ _) (by decide)

theorem State.pick_within : Within [.ltx, .evu, .mou] s s.pick := by
  unfold State.pick
  split
  · exact (s.onLtx_within _).mono (by decide)
  · exact s.pickQueued_within

end Sys2Proof.Machine
end

