-- ==== Sys2Proof/Laws/Motion.lean ====
section
/-! SUPPORT. What the buses' own work can do in the motion unit (R102 to R108, R116 to R119), and what building batches does
(R114). -/

namespace Sys2Proof.Machine

open Sys2Proof

/-- The motion unit after work on its buses: the buses, the relay, the samplings of the data line and four counts of the poll
entries may differ; tables, schedules, history, FIFO and the unit's counters stay. -/
structure Mou.Works (m n : Mou) : Prop where
  entries : ∀ e : Fin 8, n.poll[e] = { m.poll[e] with
    edgeCount := n.poll[e].edgeCount, overruns := n.poll[e].overruns, errors := n.poll[e].errors, late := n.poll[e].late }
  rest : n = { m with
    poll := n.poll, serial4 := n.serial4, twoWire := n.twoWire, relay := n.relay, lineSamples := n.lineSamples }

namespace Mou.Works

variable {m n o : Mou}

theorem refl : Mou.Works m m := ⟨fun _ => rfl, rfl⟩

theorem trans (h : Mou.Works m n) (k : Mou.Works n o) : Mou.Works m o :=
  ⟨fun e => by rw [k.entries e, h.entries e], by rw [k.rest, h.rest]⟩

theorem cfg (h : Mou.Works m n) (e : Fin 8) : n.poll[e].cfg = m.poll[e].cfg := by rw [h.entries e]

theorem fifo (h : Mou.Works m n) : n.fifo = m.fifo := by rw [h.rest]
theorem history (h : Mou.Works m n) : n.history = m.history := by rw [h.rest]
theorem sensorPower (h : Mou.Works m n) : n.sensorPower = m.sensorPower := by rw [h.rest]
theorem sensorClass (h : Mou.Works m n) : n.sensorClass = m.sensorClass := by rw [h.rest]

theorem anyEnabled (h : Mou.Works m n) : n.anyEnabled = m.anyEnabled := by
  unfold Mou.anyEnabled
  congr 1
  funext e
  rw [h.cfg]

end Mou.Works

variable (s : State)

theorem State.onBus_works (b : Bus) (f : BusCtl → BusCtl) : Mou.Works s.mou (s.onBus b f).mou := by
  cases b <;> exact ⟨fun _ => rfl, rfl⟩

/-- A change of one poll entry's counts. -/
theorem State.onPoll_works (e : Fin 8) (f : PollEntry → PollEntry) (h : ∀ p, f p = { p with
    edgeCount := (f p).edgeCount, overruns := (f p).overruns, errors := (f p).errors, late := (f p).late }) :
    Mou.Works s.mou (s.onPoll e f).mou := by
  refine ⟨fun i => ?_, rfl⟩
  by_cases hi : e = i
  · subst hi
    have : (s.onPoll e f).mou.poll[e] = f s.mou.poll[e] := tabMod_same _ _ _
    rw [this]
    exact h _
  · have : (s.onPoll e f).mou.poll[i] = s.mou.poll[i] := tabMod_other _ _ hi
    rw [this]

theorem State.startRecovery_works (c : Cause) (r : Bool) : Mou.Works s.mou (s.startRecovery c r).mou := s.onBus_works _ _

theorem State.sampled_works : Mou.Works s.mou s.sampled.mou := ⟨fun _ => rfl, rfl⟩

theorem State.relayPhase_works (ph : RelayPhase) : Mou.Works s.mou (s.relayPhase ph).mou := ⟨fun _ => rfl, rfl⟩

theorem State.beginTransfer_works (b : Bus) (ph : RelayPhase) : Mou.Works s.mou (s.beginTransfer b ph).mou := by
  unfold State.beginTransfer
  split
  · exact s.relayPhase_works _
  · split
    · exact ((s.relayPhase_works _).trans (State.sampled_works _)).trans (State.startRecovery_works _ _ _)
    · exact (s.relayPhase_works _).trans (State.sampled_works _)

theorem State.startRelay_works (r : Relay) : Mou.Works s.mou (s.startRelay r).mou :=
  (s.onBus_works _ _).trans (State.beginTransfer_works _ _ _)

theorem State.startPoll_works (b : Bus) (q : Queued) (rest : List Queued) : Mou.Works s.mou (s.startPoll b q rest).mou := by
  have h1 := (s.onBus_works b fun c => { c with queue := rest }).trans (State.onPoll_works _ q.entry
    (fun p => { p with late := satAdd p.late (bit q.late) }) fun _ => rfl)
  simp only [State.startPoll]
  split
  · exact h1.trans (State.onBus_works _ _ _)
  · split
    · exact ((h1.trans (State.sampled_works _)).trans (State.onPoll_works _ _ _ fun _ => rfl)).trans
        (State.startRecovery_works _ _ _)
    · exact (h1.trans (State.sampled_works _)).trans (State.onBus_works _ _ _)

theorem State.startHead_works (b : Bus) : Mou.Works s.mou (s.startHead b).mou := by
  unfold State.startHead
  split
  · exact .refl
  · exact s.startPoll_works _ _ _

/-- The start rule starts work and does nothing else (R108). -/
theorem State.startNext_works (b : Bus) : Mou.Works s.mou (s.startNext b).mou := by
  unfold State.startNext
  split
  · split
    · exact s.startRecovery_works _ _
    · split
      · exact s.startRelay_works _
      · exact s.startHead_works _
  · exact .refl

theorem State.busFree_works (b : Bus) : Mou.Works s.mou (s.busFree b).mou :=
  (s.onBus_works _ _).trans (State.startNext_works _ _)

theorem State.trigger_works (e : Fin 8) (t : Time) : Mou.Works s.mou (s.trigger e t).mou := by
  simp only [State.trigger]
  split
  · exact .refl
  · split
    · exact s.onPoll_works _ _ fun _ => rfl
    · exact (s.onBus_works _ _).trans (State.startNext_works _ _)

theorem State.readyEntry_works (i : Fin 6) (e : Fin 8) : Mou.Works s.mou (s.readyEntry i e).mou := by
  simp only [State.readyEntry]
  split
  · split
    · exact (s.onPoll_works e (fun p => { p with edgeCount := 0 }) fun _ => rfl).trans (State.trigger_works _ _ _)
    · exact s.onPoll_works _ _ fun _ => rfl
  · exact .refl

theorem works_foldl {α : Type} {f : State → α → State} (h : ∀ s a, Mou.Works s.mou (f s a).mou) (xs : List α) (s : State) :
    Mou.Works s.mou (xs.foldl f s).mou := by
  induction xs generalizing s with
  | nil => exact .refl
  | cons x xs ih => exact (h s x).trans (ih _)

theorem State.readyEdge_works (i : Fin 6) : Mou.Works s.mou (s.readyEdge i).mou :=
  works_foldl (fun s e => s.readyEntry_works i e) _ s

/-- Rising edges do bus work and nothing else (R38, R106). -/
theorem State.handEdges_works (old new : BitVec 6) : Mou.Works s.mou (s.handEdges old new).mou := by
  refine works_foldl (fun s i => ?_) _ s
  split
  · exact s.readyEdge_works i
  · exact .refl

theorem State.edged_works (f : State → State) : Mou.Works (f s).mou (s.edged f).mou := (f s).handEdges_works _ _

theorem State.unqueue_works (e : Fin 8) : Mou.Works s.mou (s.unqueue e).mou := ⟨fun _ => rfl, rfl⟩

theorem State.moveQueued_works (e : Fin 8) (b : Bus) : Mou.Works s.mou (s.moveQueued e b).mou := by
  simp only [State.moveQueued]
  split
  · exact .refl
  · split
    · exact s.unqueue_works e
    · exact ((s.unqueue_works e).trans (State.onBus_works _ _ _)).trans (State.startNext_works _ _)

/-- Building batches takes records from the FIFO's old end into new cells of the MOTION queue (R114). -/
theorem buildBatches_spec (n : Nat) (s : State) : ∃ k cells,
    (buildBatches n s).mou = { s.mou with fifo := s.mou.fifo.drop k, batches := (buildBatches n s).mou.batches }
      ∧ (buildBatches n s).ltx = { s.ltx with motion := s.ltx.motion ++ cells }
      ∧ cells.flatten = (s.mou.fifo.take k).flatMap SensorRec.bytes ∧ cells.length ≤ n
      ∧ (s.ltx.motion.length ≤ motionCapacity → (s.ltx.motion ++ cells).length ≤ motionCapacity) := by
  induction n generalizing s with
  | zero => exact ⟨0, [], by simp [buildBatches], by simp [buildBatches], by simp, by simp, by simp⟩
  | succ n ih =>
    unfold buildBatches
    split
    · rename_i h
      obtain ⟨k, cells, h1, h2, h3, h4, h5⟩ := ih s.buildBatch
      refine ⟨fitCount batchBytes s.mou.fifo + k, (s.mou.fifo.take (fitCount batchBytes s.mou.fifo)).flatMap SensorRec.bytes ::
        cells, ?_, ?_, ?_, by simpa using h4, ?_⟩
      · rw [h1]; simp [State.buildBatch]
      · rw [h2]; simp [State.buildBatch]
      · have : s.buildBatch.mou.fifo = s.mou.fifo.drop (fitCount batchBytes s.mou.fifo) := rfl
        rw [List.flatten_cons, h3, this, ← List.flatMap_append, ← List.take_add]
      · intro _
        have : (s.buildBatch.ltx.motion).length ≤ motionCapacity := by
          have := h.2.1
          simp [State.buildBatch]; omega
        simpa [State.buildBatch] using h5 this
    · exact ⟨0, [], by simp, by simp, by simp, by simp, by simp⟩

end Sys2Proof.Machine
end

