-- ==== Sys2Proof/WellFormed.lean ====
section
/-! DEFINITION. Which commands can come from outside: the limits the spec puts on the operands of each row. A command that is
not well formed is no event of the part; most such commands change nothing. -/

namespace Sys2Proof

/-- A request's cell has at most 30 data words, and a cell of LEN 1 has none and no INDEX (R39). -/
def Request.wf (r : Request) : Bool :=
  decide (r.data.length ≤ 30) && (!r.short || (r.data.isEmpty && decide (r.index = 0)))

/-- A supply voltage that brings power-on reset is below the brownout level (R169). -/
def ResetCause.brings : ResetCause → Bool
  | .supply mv => decide (mv < 3800)
  | .rstn => true

/-- A supply voltage that ends power-on reset is at the brownout level or above (R169). -/
def ResetCause.ends : ResetCause → Bool
  | .supply mv => decide (3800 ≤ mv)
  | .rstn => true

/-- A transaction reads 1 to 16 bytes, and only the two-wire bus refuses (R103, R104). -/
def PollOutcome.wf (o : PollOutcome) (b : Bus) : Bool :=
  match o with
  | .good bytes => decide (1 ≤ bytes.length) && decide (bytes.length ≤ 16)
  | .refusedAddress => decide (b = .twoWire)
  | .refusedData => decide (b = .twoWire)

/-- A relay reads at most 16 bytes (R50). -/
def RelayOutcome.wf : RelayOutcome → Bool
  | .ok bytes => decide (bytes.length ≤ 16)
  | .refused => true

/-- A command the outside world can send. -/
def Instr.wf : Instr → Bool
  | .powerOnReset c => c.brings
  | .headerJudgement _ _ _ _ => true
  | .cellArrival payload _ _ => decide (payload.length = 128)
  | .slewEnd => true
  | .cellBoundary => true
  | .read _ r => r.wf
  | .write _ r => r.wf
  | .writePower r => r.wf
  | .writeLoads r => r.wf
  | .writeSideband r => r.wf
  | .writeFrameTimer r => r.wf
  | .writePanel r => r.wf
  | .writePoll r => r.wf
  | .writeMotion r => r.wf
  | .writeAudio r => r.wf
  | .writePattern r => r.wf
  | .clear _ r => r.wf
  | .restart r => r.wf
  | .relay r => r.wf
  | .busRecover r => r.wf
  | .fifoFlush r => r.wf
  | .audioRestart r => r.wf
  | .play r => r.wf
  | .stop r => r.wf
  | .testStart r => r.wf
  | .testStop r => r.wf
  | .restartTakesEffect => true
  | .imageHeaderRead _ _ => true
  | .imageBodyRead body => decide (1 ≤ body.length) && decide (body.length ≤ 4096)
  | .imageRecord _ data => decide (data.length ≤ 4095)
  | .frameStart => true
  | .evaluation => true
  | .exposurePulseStart _ => true
  | .exposurePulseEnd _ => true
  | .frameStartPulseEnd => true
  | .lineOut _ => true
  | .strobeStart _ => true
  | .strobeEnd _ => true
  | .sidebandChange _ _ => true
  | .dueMoment _ => true
  | .transactionCompletes b o => o.wf b
  | .clockHoldFailure => true
  | .recoveryCompletes _ => true
  | .retryExpiry => true
  | .relayCompletes o => o.wf
  | .relayWaitEnd => true
  | .relayTimeout => true
  | .flushTimeout => true
  | .periodStart => true
  | .idleTimerExpiry => true
  | .micBlockComplete _ => true
  | .stepEnd _ => true
  | .elapsedRise _ => true
  | .polarityReversal _ => true
  | .carrierPeriodStart => true
  | .deadTimeEnd => true
  | .onTimeEnd => true
  | .measurement mv ma => decide (mv ≤ 8000) && decide (ma ≤ 4000)
  | .powerOnResetEnds c => c.ends
  | .outputFrame => true
  | .microphoneSample _ => true
  | .relayWritePhaseEnd => true

end Sys2Proof
end

