-- ==== Sys2Proof/Laws/PerInstr.lean ====
section
/-! SUPPORT. A law about every command as syntax, made per constructor: the bytes a well-formed command brings from outside are
bounded, and a request row carries a well-formed request with an operation of 0 to 3 (R39, R42). -/

namespace Sys2Proof

open Sys2Proof.Machine

/-- Bytes read in a poll transaction. -/
def PollOutcome.size : PollOutcome → Nat
  | .good bytes => bytes.length
  | .refusedAddress => 0
  | .refusedData => 0

/-- Bytes read in a relay. -/
def RelayOutcome.size : RelayOutcome → Nat
  | .ok bytes => bytes.length
  | .refused => 0

/-- Bytes of a request's first word, index and data words (R39). -/
def Request.size (r : Request) : Nat := 8 + 4 * r.data.length

/-- Bytes and words a command brings from outside, in bytes. -/
def Instr.size : Instr → Nat
  | .powerOnReset _ => 0
  | .headerJudgement _ _ _ _ => 4
  | .cellArrival payload _ _ => payload.length + 2
  | .slewEnd => 0
  | .cellBoundary => 0
  | .read _ r => r.size
  | .write _ r => r.size
  | .writePower r => r.size
  | .writeLoads r => r.size
  | .writeSideband r => r.size
  | .writeFrameTimer r => r.size
  | .writePanel r => r.size
  | .writePoll r => r.size
  | .writeMotion r => r.size
  | .writeAudio r => r.size
  | .writePattern r => r.size
  | .clear _ r => r.size
  | .restart r => r.size
  | .relay r => r.size
  | .busRecover r => r.size
  | .fifoFlush r => r.size
  | .audioRestart r => r.size
  | .play r => r.size
  | .stop r => r.size
  | .testStart r => r.size
  | .testStop r => r.size
  | .restartTakesEffect => 0
  | .imageHeaderRead _ _ => 8
  | .imageBodyRead body => 4 * body.length
  | .imageRecord _ data => 4 * (1 + data.length)
  | .frameStart => 0
  | .evaluation => 0
  | .exposurePulseStart _ => 0
  | .exposurePulseEnd _ => 0
  | .frameStartPulseEnd => 0
  | .lineOut _ => 0
  | .strobeStart _ => 0
  | .strobeEnd _ => 0
  | .sidebandChange _ _ => 0
  | .dueMoment _ => 0
  | .transactionCompletes _ o => o.size
  | .clockHoldFailure => 0
  | .recoveryCompletes _ => 0
  | .retryExpiry => 0
  | .relayCompletes o => o.size
  | .relayWaitEnd => 0
  | .relayTimeout => 0
  | .flushTimeout => 0
  | .periodStart => 0
  | .idleTimerExpiry => 0
  | .micBlockComplete _ => 2
  | .stepEnd _ => 0
  | .elapsedRise _ => 0
  | .polarityReversal _ => 0
  | .carrierPeriodStart => 0
  | .deadTimeEnd => 0
  | .onTimeEnd => 0
  | .measurement _ _ => 0
  | .powerOnResetEnds _ => 0
  | .outputFrame => 0
  | .microphoneSample _ => 2
  | .relayWritePhaseEnd => 0

theorem Request.size_le {r : Request} (h : r.wf = true) : r.size ≤ 128 := by
  simp only [Request.wf, Bool.and_eq_true, decide_eq_true_eq] at h
  simp only [Request.size]
  omega

/-- A well-formed command brings at most 16,384 bytes; the request of a request row is well formed, and its operation one of the
spec's. -/
def Laws.Bounded.Statement (i : Instr) : Prop :=
  i.wf = true → i.size ≤ 16384 ∧ ∀ op code r, Instr.asRequest i = some (op, code, r) → op ≤ 3 ∧ r.wf = true

/-- The law for a request row. -/
theorem Laws.Bounded.of_request {i : Instr} {op : Nat} {code : Byte} {r : Request} (ha : Instr.asRequest i = some (op, code, r))
    (hop : op ≤ 3) (hs : i.size = r.size) (hw : i.wf = r.wf) : Laws.Bounded.Statement i := by
  intro h
  rw [hw] at h
  refine ⟨by rw [hs]; exact Nat.le_trans (Request.size_le h) (by decide), fun op' code' r' h' => ?_⟩
  rw [ha] at h'
  cases h'
  exact ⟨hop, h⟩

/-- The law for a row that is no request. -/
theorem Laws.Bounded.of_other {i : Instr} (ha : Instr.asRequest i = none) (hs : i.wf = true → i.size ≤ 16384) :
    Laws.Bounded.Statement i :=
  fun h => ⟨hs h, fun op code r h' => by rw [ha] at h'; cases h'⟩

end Sys2Proof

namespace Sys2Proof.Laws.Bounded

-- One lemma after another: each waits for the kernel, and many waiting at once hold a thread each.
set_option Elab.async false

theorem powerOnReset (cause : ResetCause) : Statement (.powerOnReset cause) := of_other rfl fun _ => by simp [Instr.size]
theorem headerJudgement (b0 b1 b2 b3 : Byte) : Statement (.headerJudgement b0 b1 b2 b3) :=
  of_other rfl fun _ => by simp [Instr.size]
theorem cellArrival (payload : List Byte) (p0 p1 : Byte) : Statement (.cellArrival payload p0 p1) := 
  of_other rfl fun h => by
    simp only [Instr.wf, decide_eq_true_eq] at h
    simp only [Instr.size]
    omega
theorem slewEnd : Statement .slewEnd := of_other rfl fun _ => by simp [Instr.size]
theorem cellBoundary : Statement .cellBoundary := of_other rfl fun _ => by simp [Instr.size]
theorem read (table : Byte) (r : Request) : Statement (.read table r) := of_request rfl (by decide) rfl rfl
theorem write (table : Byte) (r : Request) : Statement (.write table r) := of_request rfl (by decide) rfl rfl
theorem writePower (r : Request) : Statement (.writePower r) := of_request rfl (by decide) rfl rfl
theorem writeLoads (r : Request) : Statement (.writeLoads r) := of_request rfl (by decide) rfl rfl
theorem writeSideband (r : Request) : Statement (.writeSideband r) := of_request rfl (by decide) rfl rfl
theorem writeFrameTimer (r : Request) : Statement (.writeFrameTimer r) := of_request rfl (by decide) rfl rfl
theorem writePanel (r : Request) : Statement (.writePanel r) := of_request rfl (by decide) rfl rfl
theorem writePoll (r : Request) : Statement (.writePoll r) := of_request rfl (by decide) rfl rfl
theorem writeMotion (r : Request) : Statement (.writeMotion r) := of_request rfl (by decide) rfl rfl
theorem writeAudio (r : Request) : Statement (.writeAudio r) := of_request rfl (by decide) rfl rfl
theorem writePattern (r : Request) : Statement (.writePattern r) := of_request rfl (by decide) rfl rfl
theorem clear (table : Byte) (r : Request) : Statement (.clear table r) := of_request rfl (by decide) rfl rfl
theorem restart (r : Request) : Statement (.restart r) := of_request rfl (by decide) rfl rfl
theorem relay (r : Request) : Statement (.relay r) := of_request rfl (by decide) rfl rfl
theorem busRecover (r : Request) : Statement (.busRecover r) := of_request rfl (by decide) rfl rfl
theorem fifoFlush (r : Request) : Statement (.fifoFlush r) := of_request rfl (by decide) rfl rfl
theorem audioRestart (r : Request) : Statement (.audioRestart r) := of_request rfl (by decide) rfl rfl
theorem play (r : Request) : Statement (.play r) := of_request rfl (by decide) rfl rfl
theorem stop (r : Request) : Statement (.stop r) := of_request rfl (by decide) rfl rfl
theorem testStart (r : Request) : Statement (.testStart r) := of_request rfl (by decide) rfl rfl
theorem testStop (r : Request) : Statement (.testStop r) := of_request rfl (by decide) rfl rfl
theorem restartTakesEffect : Statement .restartTakesEffect := of_other rfl fun _ => by simp [Instr.size]
theorem imageHeaderRead (w0 w1 : Word) : Statement (.imageHeaderRead w0 w1) := of_other rfl fun _ => by simp [Instr.size]
theorem imageBodyRead (body : List Word) : Statement (.imageBodyRead body) := 
  of_other rfl fun h => by
    simp only [Instr.wf, Bool.and_eq_true, decide_eq_true_eq] at h
    simp only [Instr.size]
    omega
theorem imageRecord (header : Word) (data : List Word) : Statement (.imageRecord header data) := 
  of_other rfl fun h => by
    simp only [Instr.wf, decide_eq_true_eq] at h
    simp only [Instr.size]
    omega
theorem frameStart : Statement .frameStart := of_other rfl fun _ => by simp [Instr.size]
theorem evaluation : Statement .evaluation := of_other rfl fun _ => by simp [Instr.size]
theorem exposurePulseStart (g : Side) : Statement (.exposurePulseStart g) := of_other rfl fun _ => by simp [Instr.size]
theorem exposurePulseEnd (g : Side) : Statement (.exposurePulseEnd g) := of_other rfl fun _ => by simp [Instr.size]
theorem frameStartPulseEnd : Statement .frameStartPulseEnd := of_other rfl fun _ => by simp [Instr.size]
theorem lineOut (p : Side) : Statement (.lineOut p) := of_other rfl fun _ => by simp [Instr.size]
theorem strobeStart (p : Side) : Statement (.strobeStart p) := of_other rfl fun _ => by simp [Instr.size]
theorem strobeEnd (p : Side) : Statement (.strobeEnd p) := of_other rfl fun _ => by simp [Instr.size]
theorem sidebandChange (line : Fin 6) (level : Bool) : Statement (.sidebandChange line level) :=
  of_other rfl fun _ => by simp [Instr.size]
theorem dueMoment (e : Fin 8) : Statement (.dueMoment e) := of_other rfl fun _ => by simp [Instr.size]
theorem transactionCompletes (bus : Bus) (o : PollOutcome) : Statement (.transactionCompletes bus o) := 
  of_other rfl fun h => by
    cases o <;> simp_all [Instr.wf, PollOutcome.wf, Instr.size, PollOutcome.size]
    omega
theorem clockHoldFailure : Statement .clockHoldFailure := of_other rfl fun _ => by simp [Instr.size]
theorem recoveryCompletes (o : RecoveryOutcome) : Statement (.recoveryCompletes o) := of_other rfl fun _ => by simp [Instr.size]
theorem retryExpiry : Statement .retryExpiry := of_other rfl fun _ => by simp [Instr.size]
theorem relayCompletes (o : RelayOutcome) : Statement (.relayCompletes o) := 
  of_other rfl fun h => by
    cases o <;> simp_all [Instr.wf, RelayOutcome.wf, Instr.size, RelayOutcome.size]
    omega
theorem relayWaitEnd : Statement .relayWaitEnd := of_other rfl fun _ => by simp [Instr.size]
theorem relayTimeout : Statement .relayTimeout := of_other rfl fun _ => by simp [Instr.size]
theorem flushTimeout : Statement .flushTimeout := of_other rfl fun _ => by simp [Instr.size]
theorem periodStart : Statement .periodStart := of_other rfl fun _ => by simp [Instr.size]
theorem idleTimerExpiry : Statement .idleTimerExpiry := of_other rfl fun _ => by simp [Instr.size]
theorem micBlockComplete (sample : Sample) : Statement (.micBlockComplete sample) := of_other rfl fun _ => by simp [Instr.size]
theorem stepEnd (c : Channel) : Statement (.stepEnd c) := of_other rfl fun _ => by simp [Instr.size]
theorem elapsedRise (c : Channel) : Statement (.elapsedRise c) := of_other rfl fun _ => by simp [Instr.size]
theorem polarityReversal (c : Channel) : Statement (.polarityReversal c) := of_other rfl fun _ => by simp [Instr.size]
theorem carrierPeriodStart : Statement .carrierPeriodStart := of_other rfl fun _ => by simp [Instr.size]
theorem deadTimeEnd : Statement .deadTimeEnd := of_other rfl fun _ => by simp [Instr.size]
theorem onTimeEnd : Statement .onTimeEnd := of_other rfl fun _ => by simp [Instr.size]
theorem measurement (mv ma : Nat) : Statement (.measurement mv ma) := of_other rfl fun _ => by simp [Instr.size]
theorem powerOnResetEnds (cause : ResetCause) : Statement (.powerOnResetEnds cause) :=
  of_other rfl fun _ => by simp [Instr.size]
theorem outputFrame : Statement .outputFrame := of_other rfl fun _ => by simp [Instr.size]
theorem microphoneSample (sample : Sample) : Statement (.microphoneSample sample) := of_other rfl fun _ => by simp [Instr.size]
theorem relayWritePhaseEnd : Statement .relayWritePhaseEnd := of_other rfl fun _ => by simp [Instr.size]

end Sys2Proof.Laws.Bounded
end

