-- ==== Sys2Proof/Laws/Power.lean ====
section
/-! SUPPORT. What an allocation can do (R179 to R183): the loads table it leaves, and that it raises no line, keeps every request
up to date and leaves the schedule of frames alone. -/

namespace Sys2Proof.Machine

open Sys2Proof

/-- `t` differs from `s` in the frame timer at most in how far the SCANNING record has come, and in the panels at most in what
a change of their power brings: the tables stay, no strobe begins, a strobe stays HELD or not, and slices go on. -/
structure Calm (s t : State) : Prop where
  ftm : t.ftm = { s.ftm with scanning := t.ftm.scanning, done := t.ftm.done, pendingPanels := t.ftm.pendingPanels }
  written : ∀ p, (t.panel p).written = (s.panel p).written
  inForce : ∀ p, (t.panel p).inForce = (s.panel p).inForce
  on : ∀ p, (t.panel p).strobe = .on → (s.panel p).strobe = .on
  strobeHeld : ∀ p, (t.panel p).strobe = .held ↔ (s.panel p).strobe = .held
  contexts : t.pxp.contexts = s.pxp.contexts

namespace Calm

variable {s t u : State}

theorem refl : Calm s s := ⟨rfl, fun _ => rfl, fun _ => rfl, fun _ => id, fun _ => .rfl, rfl⟩

theorem trans (h : Calm s t) (k : Calm t u) : Calm s u where
  ftm := by rw [k.ftm, h.ftm]
  written p := (k.written p).trans (h.written p)
  inForce p := (k.inForce p).trans (h.inForce p)
  on p := h.on p ∘ k.on p
  strobeHeld p := (k.strobeHeld p).trans (h.strobeHeld p)
  contexts := k.contexts.trans h.contexts

/-- A change outside the frame timer and the picture path. -/
theorem of_eq (hf : t.ftm = s.ftm) (hp : t.pxp = s.pxp) : Calm s t := by
  constructor <;> simp [hf, hp, State.panel]

theorem of_within {bs : List Part} (h : Within bs s t) (h1 : Part.ftm ∉ bs) (h2 : Part.pxp ∉ bs) : Calm s t :=
  of_eq (h.ftm.resolve_left h1) (h.pxp.resolve_left h2)

/-- A change of the records alone. -/
theorem of_records
    (hf : t.ftm = { s.ftm with scanning := t.ftm.scanning, done := t.ftm.done, pendingPanels := t.ftm.pendingPanels })
    (hp : t.pxp = s.pxp) : Calm s t := by
  constructor <;> first | exact hf | simp [hp, State.panel]

/-- A change of one panel. -/
theorem onPanel (s : State) (p : Side) (f : PanelState → PanelState) (hw : (f (s.panel p)).written = (s.panel p).written)
    (hi : (f (s.panel p)).inForce = (s.panel p).inForce) (ho : (f (s.panel p)).strobe = .on → (s.panel p).strobe = .on)
    (hh : (f (s.panel p)).strobe = .held ↔ (s.panel p).strobe = .held) : Calm s (s.onPanel p f) := by
  refine ⟨rfl, fun q => ?_, fun q => ?_, fun q => ?_, fun q => ?_, rfl⟩ <;> by_cases h : q = p <;>
    first
      | subst h; simpa using by assumption
      | simp [State.panel_onPanel_other _ _ h]

end Calm

variable (s : State)

theorem State.finishRecord_calm : Calm s s.finishRecord := by
  unfold State.finishRecord
  split
  · exact .refl
  · exact .of_records rfl rfl

theorem State.completion_calm (p : Side) : Calm s (s.completion p) := by
  have h : Calm s (s.onFtm fun t => { t with pendingPanels := s.ftm.pendingPanels.set p false }) := .of_records rfl rfl
  simp only [State.completion]
  split
  · split
    · exact h
    · exact h.trans (State.finishRecord_calm _)
  · exact .refl

theorem State.endScan_calm (p : Side) : Calm s (s.endScan p) := by
  unfold State.endScan
  split
  · exact .refl
  · split
    · exact .of_records rfl rfl
    · exact .refl

theorem State.tryComplete_calm (p : Side) : Calm s (s.tryComplete p) := by
  unfold State.tryComplete
  split
  · exact s.completion_calm p
  · exact .refl

theorem State.closeScan_calm (p : Side) (F : Option FrameNo) : Calm s (s.closeScan p F) :=
  (Calm.onPanel s p (fun x => x.moveTo F x.inForce.height) rfl rfl id .rfl).trans (State.endScan_calm _ _)

theorem State.cutScan_calm (p : Side) (F : Option FrameNo) : Calm s (s.cutScan p F) :=
  ((Calm.onPanel s p (fun x => { x with cutLines := satAdd x.cutLines (x.inForce.height - 1 - x.pos) }) rfl rfl id .rfl).trans
    (.of_records (t := State.onScanning _ fun r => r.cut p) rfl rfl)).trans (State.closeScan_calm _ _ _)

theorem State.onScanning_calm (f : FrameRec → FrameRec) : Calm s (s.onScanning f) := .of_records rfl rfl

theorem State.panelOff_calm (p : Side) : Calm s (s.panelOff p) := by
  have key : ∀ t : State, Calm t ((t.onPanel p fun x =>
      { x with scan := .off, ring := [], lastLine := none, strobe := x.strobe.cleared }).tryComplete p) := fun t =>
    (Calm.onPanel t p _ rfl rfl (by dsimp only; cases (t.panel p).strobe <;> simp [StrobeState.cleared])
      (by dsimp only; cases (t.panel p).strobe <;> simp [StrobeState.cleared])).trans (State.tryComplete_calm _ _)
  simp only [State.panelOff]
  split
  · exact (s.cutScan_calm _ _).trans (key _)
  · exact key s

theorem State.panelWake_calm (p : Side) : Calm s (s.panelWake p) :=
  Calm.onPanel s p (fun x => if x.scan = .off ∧ x.inForce.enable then { x with scan := .waiting, pos := x.inForce.height }
    else x) (by split <;> rfl) (by split <;> rfl) (by split <;> exact id) (by split <;> rfl)

theorem State.handPanel_calm (p : Side) (old new : Nat) : Calm s (s.handPanel p old new) := by
  unfold State.handPanel
  split
  · exact s.panelOff_calm p
  · split
    · exact s.panelWake_calm p
    · exact .refl

/-- The power manager after the derived values are handed: ceilings and AUX follow the grants, the rest stays (R182, R183). -/
theorem State.handDerived_pmg : s.handDerived.pmg = { s.pmg with
    ceilings := ⟨derived s.pmg.state s.pmg.loads[2].grant (s.panel .a).written.fullPower 1023,
      derived s.pmg.state s.pmg.loads[3].grant (s.panel .b).written.fullPower 1023⟩
    auxOn := decide (0 < s.pmg.loads[7].grant) } := rfl

theorem State.handDerived_auu : s.handDerived.auu = { s.auu with
    cap := derived s.pmg.state s.pmg.loads[4].grant s.auu.ampPower 32768 } := rfl

theorem State.handDerived_pte : s.handDerived.pte = { s.pte with
    capHanded := derived s.pmg.state s.pmg.loads[5].grant s.pte.hapticPower 255 } := rfl

/-- The motion unit after its class is handed (R120). -/
theorem State.handClass_mou (c : SensorClass) : (s.handClass c).mou = { s.mou with
    sensorClass := c
    serial4 := if c = .suspended then { s.mou.serial4 with queue := [] } else s.mou.serial4
    twoWire := if c = .suspended then { s.mou.twoWire with queue := [] } else s.mou.twoWire } := by
  simp only [State.handClass]
  split <;> rfl

/-- Everything an allocation does but for the panels, the records and the events (R179 to R183). -/
theorem State.allocate_spec :
    let v := allocated s.requested s.pmg.state s.pmg.budget
    let st := s.pmg.state
    Calm s s.allocate
      ∧ s.allocate.pmg = { s.pmg with
          loads := v
          ceilings := ⟨derived st v[2].grant (s.panel .a).written.fullPower 1023,
            derived st v[3].grant (s.panel .b).written.fullPower 1023⟩
          auxOn := decide (0 < v[7].grant) }
      ∧ s.allocate.auu = { s.auu with cap := derived st v[4].grant s.auu.ampPower 32768 }
      ∧ s.allocate.pte = { s.pte with capHanded := derived st v[5].grant s.pte.hapticPower 255 }
      ∧ s.allocate.mou = { s.mou with
          sensorClass := classOf st v[6]
          serial4 := if classOf st v[6] = .suspended then { s.mou.serial4 with queue := [] } else s.mou.serial4
          twoWire := if classOf st v[6] = .suspended then { s.mou.twoWire with queue := [] } else s.mou.twoWire } := by
  intro v st
  have key : ∀ t : State, t.ftm = s.ftm → t.pxp = s.pxp → t.auu = s.auu → t.pte = s.pte → t.mou = s.mou →
      t.pmg = { s.pmg with loads := v } → ∀ u,
      u = ((t.handDerived.handClass (classOf st v[6])).handPanel .a s.pmg.loads[0].grant v[0].grant).handPanel .b
        s.pmg.loads[1].grant v[1].grant →
      Calm s u
      ∧ u.pmg = { s.pmg with
          loads := v
          ceilings := ⟨derived st v[2].grant (s.panel .a).written.fullPower 1023,
            derived st v[3].grant (s.panel .b).written.fullPower 1023⟩
          auxOn := decide (0 < v[7].grant) }
      ∧ u.auu = { s.auu with cap := derived st v[4].grant s.auu.ampPower 32768 }
      ∧ u.pte = { s.pte with capHanded := derived st v[5].grant s.pte.hapticPower 255 }
      ∧ u.mou = { s.mou with
          sensorClass := classOf st v[6]
          serial4 := if classOf st v[6] = .suspended then { s.mou.serial4 with queue := [] } else s.mou.serial4
          twoWire := if classOf st v[6] = .suspended then { s.mou.twoWire with queue := [] } else s.mou.twoWire } := by
    intro t hf hp ha hq hm hg u hu
    subst hu
    have w := ((t.handDerived.handClass (classOf st v[6])).handPanel_within .a s.pmg.loads[0].grant v[0].grant).trans
      (State.handPanel_within _ .b s.pmg.loads[1].grant v[1].grant)
    have c : Calm s (t.handDerived.handClass (classOf st v[6])) :=
      ((Calm.of_eq hf hp).trans (.of_within t.handDerived_within (by decide) (by decide))).trans
        (.of_within (State.handClass_within _ _) (by decide) (by decide))
    refine ⟨(c.trans (State.handPanel_calm _ _ _ _)).trans (State.handPanel_calm _ _ _ _), ?_, ?_, ?_, ?_⟩
    · rw [w.pmg.resolve_left (by decide), ((t.handDerived).handClass_within _).pmg.resolve_left (by decide),
        State.handDerived_pmg, hg]
      simp [State.panel, hp, st]
    · rw [w.auu.resolve_left (by decide), ((t.handDerived).handClass_within _).auu.resolve_left (by decide),
        State.handDerived_auu, hg, ha]
    · rw [w.pte.resolve_left (by decide), ((t.handDerived).handClass_within _).pte.resolve_left (by decide),
        State.handDerived_pte, hg, hq]
    · rw [w.mou.resolve_left (by decide), State.handClass_mou, (t.handDerived_within).mou.resolve_left (by decide), hm]
  by_cases h : (allLoads.any fun i => decide (s.pmg.loads[i].grant ≠ v[i].grant)) = true
  · exact key ((s.onPmg fun p => { p with loads := v }).raise .grantChange
      (s.onPmg fun p => { p with loads := v }).pmg.grantDetail) rfl rfl rfl rfl rfl rfl _ (by
        simp only [State.allocate]; rw [if_pos h])
  · exact key (s.onPmg fun p => { p with loads := v }) rfl rfl rfl rfl rfl rfl _ (by
        simp only [State.allocate]; rw [if_neg h])

theorem State.allocate_calm : Calm s s.allocate := s.allocate_spec.1

/-- A load's request by its owner depends on the panels' tables, the amp, channel H, the sensors and the loads' own floors
(R178). -/
theorem State.wanted_congr {s t : State} (i : Fin 8) (hw : ∀ p, (t.panel p).written = (s.panel p).written)
    (hi : ∀ p, (t.panel p).inForce = (s.panel p).inForce) (ha : t.auu.state = s.auu.state)
    (hp : t.auu.ampPower = s.auu.ampPower) (hh : t.pte.chanH.isSome = s.pte.chanH.isSome)
    (hq : t.pte.hapticPower = s.pte.hapticPower) (hm : t.mou.poll = s.mou.poll) (hs : t.mou.sensorPower = s.mou.sensorPower)
    (hf : ∀ j : Fin 8, t.pmg.loads[j].floor = s.pmg.loads[j].floor)
    (hx : t.pmg.loads[7].switch = s.pmg.loads[7].switch) : t.wanted i = s.wanted i := by
  have f0 := hf 0; have f1 := hf 1; have f7 := hf 7
  unfold State.wanted
  split <;> simp_all [panelRequest, backlightRequest, Mou.anyEnabled]

theorem allocated_get (v : Vector Load 8) (st : PowerState) (b : Nat) (i : Fin 8) :
    (allocated v st b)[i] = v[i].granted (if st.grantsNone then 0 else (grantsOf v b)[i]) := by
  simp only [allocated, Fin.getElem_fin, Vector.getElem_ofFn]
  split <;> simp

theorem State.requested_get (i : Fin 8) : s.requested[i] = { s.pmg.loads[i] with request := s.wanted i } := by
  simp [State.requested]

/-- An allocation changes no owner's request. -/
theorem State.allocate_wanted (i : Fin 8) : s.allocate.wanted i = s.wanted i := by
  obtain ⟨c, hp, ha, hq, hm⟩ := s.allocate_spec
  have hl : ∀ j : Fin 8, s.allocate.pmg.loads[j].floor = s.pmg.loads[j].floor
      ∧ s.allocate.pmg.loads[j].switch = s.pmg.loads[j].switch := by
    intro j
    rw [hp]
    dsimp only
    rw [allocated_get, State.requested_get]
    exact ⟨rfl, rfl⟩
  exact State.wanted_congr i c.written c.inForce (by rw [ha]) (by rw [ha]) (by rw [hq]) (by rw [hq]) (by rw [hm]) (by rw [hm])
    (fun j => (hl j).1) (hl 7).2

/-- After an allocation every load's request is its owner's (R178). -/
theorem State.allocate_request (i : Fin 8) : s.allocate.pmg.loads[i].request = s.allocate.wanted i := by
  rw [s.allocate_wanted, s.allocate_spec.2.1]
  dsimp only
  rw [allocated_get, State.requested_get]
  rfl

theorem State.requestChanged_iff : s.requestChanged = false ↔ ∀ i : Fin 8, s.pmg.loads[i].request = s.wanted i := by
  simp only [State.requestChanged, List.any_eq_false, decide_eq_true_eq, not_not]
  exact ⟨fun h i => h i (by fin_cases i <;> decide), fun h i _ => h i⟩

theorem State.allocate_requestChanged : s.allocate.requestChanged = false :=
  (State.requestChanged_iff _).mpr s.allocate_request

theorem State.refreshLoads_requestChanged : s.refreshLoads.requestChanged = false := by
  unfold State.refreshLoads
  split
  · exact s.allocate_requestChanged
  · rename_i h; simpa using h

/-- With no request changed nothing is allocated. -/
theorem State.refreshLoads_of_unchanged {s : State} (h : s.requestChanged = false) : s.refreshLoads = s := by
  simp [State.refreshLoads, h]

theorem State.refreshLoads_calm : Calm s s.refreshLoads := by
  unfold State.refreshLoads
  split
  · exact s.allocate_calm
  · exact .refl

/-- Everything a refresh of the loads does to the power manager, the audio unit, the pattern engine and the motion unit. -/
theorem State.refreshLoads_spec :
    (∃ v c x, s.refreshLoads.pmg = { s.pmg with loads := v, ceilings := c, auxOn := x })
      ∧ (∃ c, s.refreshLoads.auu = { s.auu with cap := c })
      ∧ (∃ c, s.refreshLoads.pte = { s.pte with capHanded := c })
      ∧ ∃ c q r, s.refreshLoads.mou = { s.mou with
          sensorClass := c, serial4 := { s.mou.serial4 with queue := q }, twoWire := { s.mou.twoWire with queue := r } } := by
  unfold State.refreshLoads
  split
  · obtain ⟨-, hp, ha, hq, hm⟩ := s.allocate_spec
    refine ⟨⟨_, _, _, hp⟩, ⟨_, ha⟩, ⟨_, hq⟩, ⟨s.allocate.mou.sensorClass, s.allocate.mou.serial4.queue,
      s.allocate.mou.twoWire.queue, ?_⟩⟩
    rw [hm]
    dsimp only
    split <;> rfl
  · exact ⟨⟨_, _, _, rfl⟩, ⟨_, rfl⟩, ⟨_, rfl⟩, ⟨_, _, _, rfl⟩⟩

/-- An allocation raises no side-band line: it begins no strobe and no state that a line shows (R34). -/
theorem Calm.noRise {s t : State} (c : Calm s t) (hu : t.stu = s.stu) (hl : t.lrx = s.lrx)
    (hs : t.pmg.state = .normal → s.pmg.state = .normal) (i : Fin 6) (h : t.lineLevel i = true) : s.lineLevel i = true :=
  State.lineLevel_noRise i hu (by rw [hl]; exact id) (by rw [hl]; exact id) (by rw [c.ftm]) (by rw [c.ftm]) (c.on .a) hs h

end Sys2Proof.Machine
end

