-- ==== Sys2Proof/Laws/Requests.lean ====
section
/-! SUPPORT. The rows that are management requests: what every one of them is, and a served request's way to its own meaning
(R39 to R42, R50). -/

namespace Sys2Proof.Machine

open Sys2Proof

/-- A request row answers the request's effect, with the rising edges it makes or without. -/
theorem exec_request {c : Instr} {op : Nat} {code : Byte} {r : Request} {s : State}
    (h : Instr.asRequest c = some (op, code, r)) (hs : s.held = false) :
    exec c s = .next (s.request op code r) ∨ exec c s = .next (s.edged fun s => s.request op code r) := by
  cases c <;> simp only [Instr.asRequest, Option.some.injEq, Prod.mk.injEq, reduceCtorEq] at h <;>
    obtain ⟨rfl, rfl, rfl⟩ := h <;> first
      | exact .inl (congrArg _ (State.live_of_free _ hs))
      | exact .inr (congrArg _ (State.live_of_free _ hs))

/-- A request that raises no line has its plain effect. -/
theorem exec_request_quiet {c : Instr} {op : Nat} {code : Byte} {r : Request} {s : State}
    (h : Instr.asRequest c = some (op, code, r)) (hs : s.held = false)
    (q : ∀ i : Fin 6, (s.request op code r).lineLevel i = true → s.lineLevel i = true) :
    exec c s = .next (s.request op code r) := by
  rcases exec_request h hs with h | h
  · exact h
  · rw [h, State.edged_of_noRise q]

/-- Blocks that no line shows. -/
abbrev lineless : List Part := [.clock, .ltx, .mrs, .cfl, .mou, .lsu, .auu, .pte, .evu]

theorem Within.lineLevel {s t : State} (w : Within lineless s t) (i : Fin 6) : t.lineLevel i = s.lineLevel i := by
  have h1 := w.stu.resolve_left (by decide)
  have h2 := w.lrx.resolve_left (by decide)
  have h3 := w.ftm.resolve_left (by decide)
  have h4 := w.pxp.resolve_left (by decide)
  have h5 := w.pmg.resolve_left (by decide)
  exact State.lineLevel_congr i h1 (by rw [h2]) (by rw [h2]) (by rw [h3]) (by rw [h3]) (by rw [h4]) (by rw [h5])

/-- `t` follows `s` without a new cause for a line to be at 1 (R34 to R36). -/
structure Quiet (s t : State) : Prop where
  stu : t.stu = s.stu
  lrx : t.lrx = s.lrx
  display : t.ftm.display = s.ftm.display
  gens : t.ftm.gens = s.ftm.gens
  strobe : t.pxp.panels.a.strobe = .on → s.pxp.panels.a.strobe = .on
  power : t.pmg.state = .normal → s.pmg.state = .normal

namespace Quiet

variable {s t u : State}

theorem refl : Quiet s s := ⟨rfl, rfl, rfl, rfl, id, id⟩

theorem trans (h : Quiet s t) (k : Quiet t u) : Quiet s u :=
  ⟨k.stu.trans h.stu, k.lrx.trans h.lrx, k.display.trans h.display, k.gens.trans h.gens, h.strobe ∘ k.strobe, h.power ∘ k.power⟩

theorem noRise (h : Quiet s t) (i : Fin 6) : t.lineLevel i = true → s.lineLevel i = true :=
  State.lineLevel_noRise i h.stu (by rw [h.lrx]; exact id) (by rw [h.lrx]; exact id) h.display h.gens h.strobe h.power

theorem of_within (w : Within lineless s t) : Quiet s t := by
  have h1 := w.stu.resolve_left (by decide)
  have h2 := w.lrx.resolve_left (by decide)
  have h3 := w.ftm.resolve_left (by decide)
  have h4 := w.pxp.resolve_left (by decide)
  have h5 := w.pmg.resolve_left (by decide)
  exact ⟨h1, h2, by rw [h3], by rw [h3], by rw [h4]; exact id, by rw [h5]; exact id⟩

theorem of_calm (c : Calm s t) (h1 : t.stu = s.stu) (h2 : t.lrx = s.lrx) (h3 : t.pmg.state = s.pmg.state) : Quiet s t :=
  ⟨h1, h2, by rw [c.ftm], by rw [c.ftm], c.on .a, by rw [h3]; exact id⟩

theorem foldl {α : Type} {f : State → α → State} (h : ∀ s a, Quiet s (f s a)) (xs : List α) (s : State) :
    Quiet s (xs.foldl f s) := by
  induction xs generalizing s with
  | nil => exact .refl
  | cons x xs ih => exact (h s x).trans (ih _)

end Quiet

theorem State.allocate_quiet (s : State) : Quiet s s.allocate :=
  .of_calm s.allocate_calm (s.allocate_within.stu.resolve_left (by decide)) (s.allocate_within.lrx.resolve_left (by decide))
    (by rw [s.allocate_spec.2.1])

theorem State.refreshLoads_quiet (s : State) : Quiet s s.refreshLoads := by
  unfold State.refreshLoads
  split
  · exact s.allocate_quiet
  · exact .refl

/-- The tables whose store can raise no line: every one but SIDEBAND and POWER. -/
def Table.quiet : Table → Bool
  | .sideband => false
  | .power => false
  | .link => false
  | .steering => false
  | .exposure => false
  | _ => true

theorem State.storeEntry_quiet (s : State) {t : Table} (e : EntryValues) (h : t.quiet = true) : Quiet s (s.storeEntry t e) := by
  cases t <;> simp only [Table.quiet, Bool.false_eq_true] at h
  case frameTimer =>
    refine ⟨rfl, rfl, ?_, ?_, id, id⟩ <;> simp only [State.storeEntry, State.onFtm_ftm, Ftm.store] <;> split <;> rfl
  case panel =>
    refine ⟨rfl, rfl, rfl, rfl, ?_, id⟩
    simp only [State.storeEntry, State.onPanel_pxp]
    split <;> exact id
  case loads =>
    refine ⟨rfl, rfl, rfl, rfl, id, ?_⟩
    simp only [State.storeEntry, State.onPmg_pmg, Pmg.storeLoad]
    split
    · exact id
    · split <;> exact id
  case poll => exact .of_within ((s.storePoll_within _ _).mono (by decide))
  all_goals first
    | exact .refl
    | exact .of_within ((s.storeEntry_within _ e).mono (by decide))
    | exact ⟨rfl, rfl, rfl, rfl, id, id⟩

theorem State.reallocate_quiet (s : State) (old : List Nat) : Quiet s (s.reallocate old) := by
  unfold State.reallocate
  split
  · exact s.refreshLoads_quiet
  · exact s.allocate_quiet

theorem State.store_quiet (s : State) {t : Table} (es : List EntryValues) (h : t.quiet = true) : Quiet s (s.store t es) := by
  have h1 : Quiet s (es.foldl (fun s e => s.storeEntry t e) s) := .foldl (fun s e => s.storeEntry_quiet e h) es s
  refine h1.trans ?_
  show Quiet _ (State.afterStore _ t _)
  unfold State.afterStore
  split
  · exact State.allocate_quiet _
  · exact State.reallocate_quiet _ _
  · exact State.refreshLoads_quiet _
  · exact State.reallocate_quiet _ _
  · exact State.reallocate_quiet _ _
  · exact (State.refreshLoads_quiet _).trans (.of_within ((State.judgeBatch_within _).mono (by decide)))
  · exact .refl

/-- The state once a request has been taken (R41). -/
def State.countTaken (s : State) : State := s.onMrs fun m => { m with requestsTaken := satInc m.requestsTaken }

theorem State.countTaken_within (s : State) : Within [.mrs] s s.countTaken := s.onMrs_within _

/-- A WRITE of such a table raises no line. -/
theorem State.request_write_quiet (s : State) (table : Byte) (r : Request)
    (h : ∀ t, Table.ofCode table.toNat = some t → t.quiet = true) : Quiet s (s.request 1 table r) := by
  have ha : ∀ (u : State) (st : Status), Quiet u (u.answerWith table r st) := fun u st =>
    .of_within ((u.answerWith_within table r st).mono (by decide))
  unfold State.request
  split
  · exact .of_within ((s.onMrs_within _).mono (by decide))
  · split
    · exact .of_within (((s.onMrs_within _).mono (by decide)).andThen (State.raise_within _ _ _) (by decide))
    · refine Quiet.trans (.of_within (s.countTaken_within.mono (by decide))) ?_
      show Quiet s.countTaken (s.countTaken.answer 1 table r)
      unfold State.answer
      split; · exact ha _ _
      split; · exact ha _ _
      split; · exact ha _ _
      split; · exact ha _ _
      rw [if_neg (by decide)]
      unfold State.doTable
      split
      · exact ha _ _
      · rename_i t ht
        split; · exact ha _ _
        rw [if_neg (by decide), if_pos rfl]
        unfold State.doWrite
        split
        · exact ha _ _
        · exact (State.store_quiet _ _ (h t ht)).trans (ha _ _)

@[simp] theorem State.countTaken_answerWith (s : State) (code : Byte) (r : Request) (st : Status) :
    s.countTaken.answerWith code r st = s.answered code r st [] := rfl

theorem reqIndex_of_long {r : Request} (h : r.short = false) : reqIndex r = r.index := by simp [reqIndex, h]

/-- A served READ, WRITE or CLEAR of entries its table has comes to the operation itself (R41, R42). -/
theorem State.request_table {s : State} {op : Nat} {table : Byte} {t : Table} {r : Request} (h : s.serves r)
    (ht : Table.ofCode table.toNat = some t) (h3 : op < 3) (hc : r.count ≠ 0)
    (hi : r.index.toNat + r.count.toNat ≤ t.entries) :
    s.request op table r =
      if op = 0 then s.countTaken.doRead table t r
      else if op = 1 then s.countTaken.doWrite table t r else s.countTaken.doClear table t r := by
  obtain ⟨-, hp, hsh, hr, hl, hrp⟩ := h
  have hcc : ¬ (r.count.toNat = 0 ∨ t.entries < r.index.toNat + r.count.toNat) := by
    have : r.count.toNat ≠ 0 := by intro h; apply hc; bv_omega
    omega
  have h1 : ¬ 3 < op := by omega
  have h2 : ¬ op = 3 := by omega
  have e1 : ¬ (s.countTaken.cfl.state = .loading ∧ op ≠ 0) := fun h => hl h.1
  have e2 : ¬ (s.countTaken.mrs.restartPending = true ∧ op ≠ 0) := fun h => by
    have : s.mrs.restartPending = true := h.1
    simp [hrp] at this
  unfold State.request
  rw [if_neg (by simp [hp]), if_neg (Nat.pos_iff_ne_zero.mp hr)]
  show s.countTaken.answer op table r = _
  unfold State.answer
  rw [if_neg (by simp [hsh]), if_neg h1, if_neg e1, if_neg e2, if_neg h2]
  simp only [State.doTable, ht, reqIndex_of_long hsh]
  rw [if_neg hcc]

/-- A served command request comes to its command (R41, R42, R50). -/
theorem State.request_command {s : State} {code : Byte} {r : Request} (h : s.serves r) :
    s.request 3 code r = s.countTaken.doCommand code r := by
  obtain ⟨-, hp, hsh, hr, hl, hrp⟩ := h
  have e1 : ¬ (s.countTaken.cfl.state = .loading ∧ 3 ≠ 0) := fun h => hl h.1
  have e2 : ¬ (s.countTaken.mrs.restartPending = true ∧ 3 ≠ 0) := fun h => by
    have : s.mrs.restartPending = true := h.1
    simp [hrp] at this
  unfold State.request
  rw [if_neg (by simp [hp]), if_neg (Nat.pos_iff_ne_zero.mp hr)]
  show s.countTaken.answer 3 code r = _
  unfold State.answer
  rw [if_neg (by simp [hsh]), if_neg (by decide), if_neg e1, if_neg e2, if_pos rfl]

end Sys2Proof.Machine
end

