-- ==== Sys2Proof/Tests/Slice0.lean ====
section
/-! SUPPORT. Tests: ill-formed commands that the well-formedness check refuses, single steps from the spec's worked examples, and
for every statement with hypotheses a named witness whose hypotheses hold together. -/

namespace Sys2Proof.Tests

-- One theorem after another: each waits for the kernel, and many waiting at once hold a thread each.
set_option Elab.async false

open Sys2Proof Sys2Proof.Machine

/-! ### States and commands -/

/-- The state a command leaves. -/
def run (c : Instr) (s : State) : State :=
  match exec c s with
  | .next t => t
  | .fault _ => s
  | .refused _ => s

/-- A part whose loading has ended without an image. -/
def live : State := { State.reset with cfl := { Cfl.reset with state := .absent, pass := 0 } }

/-- The transmitter with an IDLE cell in transmission and its queues empty. -/
def uLane : Ltx :=
  { Ltx.reset with tx := some { source := .idle, wire := cellWire 0 .idle 0 [0, 0, 0, 0], restart := false } }

/-- A part held by RSTN. -/
def heldPart : State := { live with hold := ⟨false, true⟩ }

/-- A request with data words, for one entry. -/
def rq (data : List Word) (index : Byte := 0) : Request :=
  { pos := .only, tag := 9, count := 1, index := index, short := false, data := data }

/-- A cell judged in LOCKED that is being taken in. -/
def cellOf (sn : Fin 32) (kind : CellKind) (seq : Byte) (len : Nat) : RxCell :=
  { sn := sn, kind := kind, seq := seq, len := len, pos := .only, locked := true }

/-- A LOCKED link with a cell being taken in. -/
def taking (c : RxCell) : State := { live with lrx := { Lrx.reset with lock := .locked, cell := some c } }

/-- 128 payload bytes that begin with some words. -/
def payloadOf (ws : List Word) : List Byte := bytesOf ws ++ List.replicate (128 - 4 * ws.length) 0

/-- The arrival of a cell whose payload begins with some words, with a PCRC that matches LEN words. -/
def arrival (len : Nat) (ws : List Word) : Instr :=
  let bs := (payloadOf ws).take (4 * len)
  .cellArrival (payloadOf ws) (BitVec.ofNat 8 (pcrc bs).toNat) (BitVec.ofNat 8 ((pcrc bs).toNat / 256))

/-- The part with a change of one block. -/
def withLrx (f : Lrx → Lrx) : State := live.onLrx f

/-- A validated write of one entry. -/
def isStore : WriteOutcome → Bool
  | .store [_] _ => true
  | .store _ _ => false
  | .refused _ => false

/-- The entries of a validated write. -/
def entriesOf : WriteOutcome → List Nat
  | .store es _ => es.map EntryValues.entry
  | .refused _ => []

/-! ### Well-formedness: each check refuses an ill-formed command -/

theorem test_wf_request_words : (Instr.write 2 (rq (List.replicate 31 0))).wf = false := by decide
theorem test_wf_request_short : (Instr.read 0 { rq [] with short := true, index := 1 }).wf = false := by decide
theorem test_wf_reset_supply : (Instr.powerOnReset (.supply 3800)).wf = false := by decide
theorem test_wf_reset_end_supply : (Instr.powerOnResetEnds (.supply 3799)).wf = false := by decide
theorem test_wf_payload : (Instr.cellArrival (List.replicate 127 0) 0 0).wf = false := by decide +kernel
theorem test_wf_image_body : (Instr.imageBodyRead []).wf = false := by decide
theorem test_wf_image_record : (Instr.imageRecord 0 (List.replicate 4096 0)).wf = false := by decide +kernel
theorem test_wf_poll_bytes : (Instr.transactionCompletes .serial4 (.good (List.replicate 17 0))).wf = false := by decide
theorem test_wf_poll_refused : (Instr.transactionCompletes .serial4 .refusedAddress).wf = false := by decide
theorem test_wf_poll_refused_data : (Instr.transactionCompletes .serial4 .refusedData).wf = false := by decide
theorem test_wf_relay_bytes : (Instr.relayCompletes (.ok (List.replicate 17 0))).wf = false := by decide
theorem test_wf_measurement : (Instr.measurement 8001 0).wf = false := by decide
theorem test_wf_accepts : (Instr.read 0 (rq [])).wf = true := by decide

/-- No row of the table gives bits, so no word spells a command. -/
theorem test_no_word_spells : decodeTableWord 16 0x1234 = none ∧ decodeTableWord 0 0 = none := by decide

/-! ### Steps of the spec's worked examples -/

/-- R17: for SEQ 0 the first two payload bytes are 0xB4 and 0x20. -/
theorem test_pattern_seq0 : testPattern 2 0 = [0xB4, 0x20] := by decide

/-- Chapter 1, SYNC A: TT 5,000 unset, CT 1,000,000 and link delay 200 load 1,000,200. -/
theorem test_sync_sets_time :
    let s := { taking (cellOf 0 .sync 0 4) with
      lrx := { (taking (cellOf 0 .sync 0 4)).lrx with tt := 5000, linkDelay := 200 } }
    let t := run (arrival 4 [1000000]) s
    t.lrx.tt = 1000200 ∧ t.lrx.timeState = .running := by decide +kernel

/-- Chapter 1, SYNC B: d = −60 starts a slew with deficit 60. -/
theorem test_sync_slews :
    let s := { taking (cellOf 0 .sync 0 4) with
      lrx := { (taking (cellOf 0 .sync 0 4)).lrx with tt := 1100260, linkDelay := 200, timeState := .running } }
    let t := run (arrival 4 [1100000]) s
    t.lrx.tt = 1100260 ∧ t.lrx.timeState = .slewing ∧ t.lrx.deficit = 60 := by decide +kernel

/-- Chapter 1, arbitration, boundary 4: with fairness count 3 the REPLY goes before MOTION. -/
theorem test_fairness_turn :
    let q : Reply := { tag := 1, status := .ok, table := 0, count := 0, index := 0, data := [], restart := false }
    let s := { live with ltx := { uLane with motion := [[0, 0, 0, 0]], reply := [q], fairness := 3 } }
    let t := run .cellBoundary s
    t.ltx.reply = [] ∧ t.ltx.motion.length = 1 ∧ t.ltx.fairness = 0 := by decide +kernel

/-- Chapter 1, arbitration, boundary 3: with fairness count 2 MOTION still goes first. -/
theorem test_strict_turn :
    let q : Reply := { tag := 1, status := .ok, table := 0, count := 0, index := 0, data := [], restart := false }
    let s := { live with ltx := { uLane with motion := [[0, 0, 0, 0]], reply := [q], fairness := 2 } }
    let t := run .cellBoundary s
    t.ltx.reply = [q] ∧ t.ltx.motion = [] ∧ t.ltx.fairness = 3 := by decide +kernel

/-- Chapter 2, tracking: the repeated SEQ 48 has distance 255 and counts a gap. -/
theorem test_repeat_counts_gap :
    let s := (taking (cellOf 5 .data 48 1)).onStream 5 fun e => { e with tracking := true, lastSeq := 48, gaps := 2 }
    let t := run (arrival 1 []) s
    t.stu.streams[5].gaps = 3 ∧ t.stu.streams[5].lastSeq = 48 := by decide +kernel

/-- Chapter 3, image load, record A: STEERING window 0 stored, position 7. -/
theorem test_image_record_a :
    let s := { State.reset with cfl := { Cfl.reset with pass := 2, length := 28 } }
    let t := run (.imageRecord 0x00000102 [1, 5, 31, 4]) s
    t.cfl.position = 7 ∧ t.cfl.applied = 1 ∧ t.stu.written[0] = ⟨true, 5, 31, .audio⟩ := by decide +kernel

/-- Chapter 3, image load, record B: destination 7 is skipped, first skipped 7. -/
theorem test_image_record_b :
    let s := { State.reset with cfl := { Cfl.reset with pass := 2, length := 28, position := 7, applied := 1 } }
    let t := run (.imageRecord 0x00010102 [1, 6, 31, 7]) s
    t.cfl.position = 12 ∧ t.cfl.skipped = 1 ∧ t.cfl.firstSkipped = 7 ∧ t.stu.written[1] = Window.reset := by decide +kernel

/-- Chapter 3, 3.5: the first window's clamped mask is not stored when the second window's destination fails. -/
theorem test_write_all_or_nothing :
    let t := run (.write 2 { rq [1, 5, 40, 4, 1, 6, 31, 7] with count := 2 }) live
    t.stu.written[0] = Window.reset ∧ (t.ltx.reply.map Reply.status) = [.badValue] := by decide +kernel

/-- Chapter 4, target correction: e = +30 with phase step 20 moves s_next from 1,011,111 to 1,011,131. -/
theorem test_target_corrected :
    ({ Ftm.reset with sNext := 1011111 } : Ftm).corrected 30 1003000 = 1011131 := by decide

/-- Chapter 4, chained exposure: A's pulse of frame 102 ends at 14,111 and B is scheduled at 14,611. -/
theorem test_exposure_chain :
    let b : ExpCfg := { enable := true, aEnd := true, offset := 500, width := 1000, divider := 2, line := 6 }
    let s := { live with
      lrx := { Lrx.reset with tt := 14111 }
      ftm := { Ftm.reset with
        sNext := 22222
        gens := ⟨{ Generator.reset with state := .on, endAt := 14111, frame := 102 }, { Generator.reset with inForce := b }⟩ } }
    let t := run (.exposurePulseEnd .a) s
    t.ftm.gens.b.state = .pending ∧ t.ftm.gens.b.startAt = 14611 := by decide +kernel

/-- Chapter 5, strobe: brightness 800 under ceiling 1023 and a max width of 2000 give 1564, under ceiling 355 they give 694. -/
theorem test_strobe_widths :
    let x := { PanelState.reset with inForce := { PanelCfg.reset with brightness := 800 }, ceiling := 1023 }
    x.levelWidth = 1564 ∧ ({ x with ceiling := 355 } : PanelState).levelWidth = 694 := by decide

/-- Chapter 5, strobe of frame 22: 694 is clamped to 311 at s_next. -/
theorem test_strobe_clamped :
    let x := { PanelState.reset with strobe := .pending, strobeAt := 33022, strobeWidth := 694 }
    let s := { live with
      lrx := { Lrx.reset with tt := 33022 }
      ftm := { Ftm.reset with sNext := 33333 }
      pxp := { Pxp.reset with panels := ⟨x, PanelState.reset⟩ } }
    ((run (.strobeStart .a) s).panel .a).strobeEnd = 33333 := by decide +kernel

/-- Chapter 6, conversion: 939 with gain 17454 is 1000 mrad/s, and saturates at 32767. -/
theorem test_gyro_conversion :
    headRate 939 17454 false = 1000 ∧ headRate (-939) 17454 true = 1000 ∧ headRate 32767 65535 false = 32767 := by decide

/-- The gyro history of chapter 7's first example: a yaw of 800 at 999,500, then 1000 from 1,000,500 to 1,011,500. -/
def gyroHistory (yaw : Int) : List GyroEntry :=
  { time := 999500, yaw := 800, pitch := 0, roll := 0 } ::
    (List.range 12).map fun k => { time := BitVec.ofNat 32 (1000500 + 1000 * k), yaw := yaw, pitch := -250, roll := 0 }

/-- The shift table of chapter 7's examples. -/
def shiftTable : ShiftCfg :=
  let x : ShiftSide := { kx := 4922, ky := 4922, limX := 64, limY := 16, minusX := false, minusY := true }
  { enable := true, sides := ⟨x, x⟩ }

/-- A part whose evaluation of chapter 7's first example is due. -/
def evaluating (yaw : Int) : State :=
  { live with
    lrx := { Lrx.reset with tt := 1012000 }
    ftm := { Ftm.reset with
      schedule := .running, scanFrame := some 9, sNext := 1012500
      upcoming := some { FrameRec.fresh 10 1012500 with pose := some 1000000 } }
    mou := { Mou.reset with history := gyroHistory yaw }
    lsu := { Lsu.reset with written := shiftTable } }

/-- Chapter 7: A_yaw = 12,000,000 and A_pitch = −3,000,000 give dx 14 and dy 3. -/
theorem test_evaluation :
    let r := ((run .evaluation (evaluating 1000)).ftm.upcoming).getD (FrameRec.fresh 0 0)
    r.angles = some ⟨12000000, -3000000⟩ ∧ r.shifts = some ⟨⟨14, 3⟩, ⟨14, 3⟩⟩ ∧ r.flags = RecFlags.none := by
  decide +kernel

/-- Chapter 7: with a yaw of 6000, 83 is clamped to 64. -/
theorem test_evaluation_clamps :
    let r := ((run .evaluation (evaluating 6000)).ftm.upcoming).getD (FrameRec.fresh 0 0)
    r.shifts = some ⟨⟨64, 3⟩, ⟨64, 3⟩⟩ ∧ r.flags.clamped = true := by
  decide +kernel

/-- R146: a sample of 30,000 and a tone of 6400 at gain 16384 give 16,384. -/
theorem test_mix : mix 30000 6400 16384 = 16384 := by decide

/-- R148's example: the gain falls from 20,000 by 512, and takes the target within 512 of it. -/
theorem test_gain_step : gainStep 20000 2730 = 19488 ∧ gainStep 3104 2730 = 2730 := by decide

/-- Chapter 8, gap and servo: an error of +2 takes F to −1, an error of −1 leaves it. -/
theorem test_servo : servoStep 0 8 6 = -1 ∧ servoStep 0 5 6 = 0 := by decide

/-- Chapter 9's step 10: level 200 rising over 4 ms. -/
theorem test_envelope :
    let c : Step := { halfPeriod := 24, level := 200, envelope := .rise, duration := 4, next := some 11 }
    (envelopeLevel c 0, envelopeLevel c 1, envelopeLevel c 2, envelopeLevel c 3) = (0, 50, 100, 150) := by decide

/-- Chapter 9's step 12: level 120 falling over 5 ms. -/
theorem test_envelope_falls :
    let c : Step := { halfPeriod := 48, level := 120, envelope := .fall, duration := 5, next := some 11 }
    [0, 1, 2, 3, 4].map (envelopeLevel c) = [120, 96, 72, 48, 24] := by decide

/-- R176's table. -/
theorem test_budgets :
    let c (limit reserve : Nat) : PowerCfg := { PowerCfg.reset with limit := limit, reserve := reserve }
    [budgetOf (c 7500 500) .normal, budgetOf (c 7500 500) .constrained, budgetOf (c 7500 500) .shed] = [7000, 5125, 3250]
      ∧ [budgetOf (c 1000 600) .normal, budgetOf (c 1000 600) .constrained, budgetOf (c 1000 600) .shed] = [400, 150, 0] := by
  decide

/-- The loads of chapter 10's allocation example. -/
def exampleLoads : Vector Load 8 :=
  let l (priority floor request : Nat) : Load := { Load.reset priority floor with request := request }
  #v[l 7 900 900, l 7 900 900, l 5 200 1408, l 5 200 1408, l 4 50 600, l 2 0 800, l 6 70 150, l 1 300 0]

/-- Chapter 10's allocation example in NORMAL, CONSTRAINED and SHED. -/
theorem test_allocation :
    (grantsOf exampleLoads 7000).toList = [900, 900, 1408, 1408, 600, 800, 150, 0]
      ∧ (grantsOf exampleLoads 5125).toList = [900, 900, 1408, 1408, 359, 0, 150, 0]
      ∧ (grantsOf exampleLoads 3250).toList = [900, 900, 625, 625, 50, 0, 150, 0] := by decide +kernel

/-- R180's two examples of the backlight pair. -/
theorem test_pair : pairTake 901 900 900 = (451, 450) ∧ pairTake 1000 300 900 = (300, 700) := by decide

/-- Chapter 10's derived values. -/
theorem test_derived :
    derived .normal 1408 1800 1023 = 800 ∧ derived .shed 625 1800 1023 = 355 ∧ derived .constrained 359 600 32768 = 19606
      ∧ derived .shed 50 600 32768 = 2730 := by decide

/-- A part with eight measurements of a voltage behind it in a power state, the next one due. -/
def measuring (st : PowerState) (mv : Nat) (rec : Nat) : State :=
  { live with
    clock := { osc := 24576, usAcc := 0, measAt := 24576 }
    pmg := { Pmg.reset with
      state := st, budget := budgetOf PowerCfg.reset st, window := List.replicate 8 ⟨mv, 100⟩, latest := ⟨mv, 100⟩
      filtered := ⟨mv, 100⟩, recoverCount := rec } }

/-- Chapter 10's sag, measurement 1: 4050 mV takes CONSTRAINED to TRIP with a filtered 4443. -/
theorem test_sag_trips :
    let t := run (.measurement 4050 100) (measuring .constrained 4500 0)
    t.pmg.state = .trip ∧ t.pmg.filtered.mv = 4443 ∧ t.pmg.budget = 0 := by decide +kernel

/-- Chapter 10's sag, measurement 13: the recovery count reaches 8 and the state is SHED. -/
theorem test_sag_recovers :
    let t := run (.measurement 4600 100) { measuring .trip 4600 7 with
      pxp := { Pxp.reset with
        panels := ⟨{ PanelState.reset with strobe := .held }, { PanelState.reset with strobe := .held }⟩ } }
    t.pmg.state = .shed ∧ t.pmg.recoverCount = 0 ∧ (t.panel .a).strobe = .idle := by decide +kernel

/-- A queue of chapter 11's displacement example, with each notice's count 1. -/
def fullQueue : Evu :=
  let n (k : EventKind) (p : Nat) : Notice :=
    { kind := k, priority := p, count := 1, timeUnset := false, time := 0, detail := [] }
  { Evu.reset with
    table := tabMod Evu.reset.table 11 fun x => { x with enable := true }
    queue := [n .imageStatus 3, n .powerState 3, n .linkLock 2, n .timeSet 2, n .passLost 2, n .grantChange 2]
      ++ List.replicate 10 (n .frameReport 0) }

/-- Chapter 11: a FRAME_REPORT at the full queue is counted lost; a POLL_ERROR displaces one, and a second one folds into it. -/
theorem test_displacement :
    let a := fullQueue.take .frameReport [] 0 false
    let b := a.take .pollError [] 0 false
    let c := b.take .pollError [] 0 false
    (a.table[11].lost, b.table[11].lost, c.table[11].lost) = (1, 2, 2) ∧ b.queue.length = 16
      ∧ (b.queue[6]?.map Notice.kind) = some .pollError ∧ (c.queue[6]?.map Notice.count) = some 2 := by decide +kernel

/-- R23 and R193: the first cell after a reset is an IDLE cell, and a notice that waits stays in its queue. -/
theorem test_first_cell_idle :
    let n : Notice := { kind := .linkLock, priority := 2, count := 1, timeUnset := true, time := 0, detail := [] }
    let t := run .cellBoundary { live with evu := { Evu.reset with queue := [n] } }
    t.ltx.tx.map TxCell.source = some .idle ∧ t.evu.queue = [n] := by decide +kernel

/-- R32 and R193: a pin that changes during power-on reset shows its new level when the reset ends. -/
theorem test_pin_in_reset :
    (run (.powerOnResetEnds .rstn) (run (.sidebandChange 5 true) heldPart)).lineLevel 5 = true
      ∧ (run (.sidebandChange 5 true) heldPart).outputs.lines[5] = none := by decide +kernel

/-- R90: two lines whose positions differ by 96 stand in one slot, and the later one replaces the other. -/
theorem test_ring_slot :
    let l (n : Nat) : RingLine := { frame := 20, line := n, pixels := [] }
    placeLine 20 1600 (l 100) [l 4, l 5] = [l 5, l 100] := by decide

/-- R103: on TWO_WIRE the start register is sent, then a repeated start and the read. -/
theorem test_poll_symbols :
    let q : Queued := { entry := 7, trigger := 0, stamp := 0, timeUnset := true, decimated := false, late := false }
    let c : PollCfg := { PollCfg.reset with bus := .twoWire, device := 0x1E, startRegister := 3, length := 6 }
    (live.onBus .twoWire fun k => { k with state := .busy, poll := some ⟨q, c⟩ }).busSymbols .twoWire =
      [.start, .address 0x1E false, .byte 3, .start, .address 0x1E true, .read 6, .stop] := by decide

/-! ### Witnesses: for each statement with hypotheses, states and operands that meet them, clause by clause -/

theorem witness_StepRunsFrontCommand : ({ live with pending := [.slewEnd, .cellBoundary] } : State).pending =
    .slewEnd :: [.cellBoundary] := rfl

theorem witness_IdleStepIsOneTick : State.reset.pending = [] ∧ State.reset.held = false
    ∧ Instr.ticks .periodStart = true ∧ State.reset.advance.due .periodStart = true
    ∧ Instr.ticks .carrierPeriodStart = true ∧ State.reset.advance.due .carrierPeriodStart = true := by decide

theorem witness_TetherTimeKeepsMicroseconds :
    State.reset.clock.usAcc < 3072 ∧ State.reset.lrx.timeState ≠ .slewing
      ∧ ({ live with clock := { osc := 9, usAcc := 3071, measAt := 24576 } } : State).clock.usAcc < 3072 := by decide

/-- A link that slews with a deficit. -/
def slewing (deficit : Nat) : State := withLrx fun l => { l with timeState := .slewing, deficit := deficit }

theorem witness_SlewRunsAtHalfRateAndEnds :
    (slewing 4096).lrx.timeState = .slewing ∧ (slewing 4096).lrx.slewHalf = false ∧ 4096 ≤ (slewing 4096).lrx.deficit
      ∧ (slewing 0).held = false ∧ (slewing 0).lrx.timeState = .slewing ∧ (slewing 0).lrx.deficit = 0 := by decide

theorem witness_HeldPartIgnoresCommands : heldPart.held = true ∧ (∀ x, Instr.slewEnd ≠ .powerOnReset x)
    ∧ (∀ x, Instr.slewEnd ≠ .powerOnResetEnds x) ∧ ∀ i l, Instr.slewEnd ≠ .sidebandChange i l :=
  ⟨rfl, fun _ h => (nomatch h), fun _ h => (nomatch h), fun _ _ h => nomatch h⟩

theorem witness_RowNotDueChangesNothing : live.held = false ∧ live.due .frameStart = false
  ∧ live.due (.measurement 5000 9) = false := by
  decide

theorem witness_PowerOnResetBeginsAndEnds : (3799 : Nat) < 3800 ∧ 3800 ≤ 3800 ∧ live.held = false
  ∧ heldPart.held = true := by decide

/-- A cell in transmission that carries the reply to a RESTART. -/
def restartSent : State := live.onLtx fun t => { t with tx := some { source := .reply, wire := [], restart := true } }

theorem witness_RestartTakesEffectKeepsLock : restartSent.held = false ∧ restartSent.restartSent = true := by decide

theorem witness_GoodHeaderMovesLockMachine :
    let s (k : LockState) (n : Nat) := withLrx fun l => { l with lock := k, goodCount := n }
    (s .search 0).held = false ∧ (s .search 0).lrx.cell = none ∧ (s .search 0).lrx.lock = .search
      ∧ (s .verify 2).lrx.lock = .verify ∧ (s .verify 2).lrx.goodCount + 1 ≠ 4 ∧ (s .verify 3).lrx.goodCount + 1 = 4
      ∧ (s .locked 4).lrx.lock = .locked ∧ (s .locked 4).lrx.cell = none := by decide

theorem witness_BadHeaderMovesLockMachine :
    let s (k : LockState) (n : Nat) := withLrx fun l => { l with lock := k, badCount := n }
    (s .search 0).held = false ∧ (s .search 0).lrx.cell = none ∧ hchk [0, 0, 0] ≠ 0
      ∧ (s .verify 0).lrx.lock = .verify ∧ (s .locked 1).lrx.badCount + 1 ≠ 3 ∧ (s .locked 2).lrx.badCount + 1 = 3 := by
  decide +kernel

theorem witness_UnlockedCellIsDiscarded :
    let c := { cellOf 3 .data 0 1 with locked := false }
    (taking c).held = false ∧ (taking c).lrx.cell = some c ∧ c.locked = false
      ∧ (payloadOf [7]).length = 128 := by decide +kernel

/-- A LOCKED link with PASS that takes in a cell, at counts of the pass window. -/
def counting (c : RxCell) (pass : Bool) (cells errors : Nat) : State :=
  (taking c).onLrx fun l => { l with pass := pass, winCells := cells, winErrors := errors }

theorem witness_BadPcrcMarksStreamGap :
    let c := cellOf 3 .data 0 1
    (counting c true 20 15).held = false ∧ (counting c true 20 15).lrx.cell = some c ∧ c.locked = true
      ∧ (payloadOf [7]).length = 128 ∧ payloadGood ((payloadOf [7]).take (4 * c.len)) 0 0 = false
      ∧ (counting c true 20 15).lrx.winErrors + 1 = (counting c true 20 15).lrx.passThreshold
      ∧ (counting c false 4095 14).lrx.winCells + 1 = 4096 ∧ (counting c false 4095 14).held = false
      ∧ (counting c false 4095 14).lrx.winErrors + 1 < (counting c false 4095 14).lrx.passThreshold := by decide +kernel

/-- A link at a tether time, with time faults behind it, and a LOCKED link's cell. -/
def timed (st : TimeState) (tt : Time) (faults : Nat) : State :=
  (taking (cellOf 0 .sync 0 4)).onLrx fun l => { l with tt := tt, timeState := st, faults := faults }

/-- A schedule LINKED in force, in a display state, with its next start at 11,111. -/
def linked (st : Schedule) (taken : Bool) (display : DisplayState) (inCount outCount : Nat) : State :=
  { live with
    lrx := { Lrx.reset with tt := 3000 }
    ftm := { Ftm.reset with
      inForce := { FtCfg.reset with linked := true }, schedule := st, targetTaken := taken, display := display
      inCount := inCount, outCount := outCount, sNext := 11111, scanFrame := some 100
      upcoming := some (FrameRec.fresh 101 11111) } }

/-- Phase error of a target for frame 101 (R65). -/
def phaseError (v : Time) : Int := (v - (11111 + BitVec.ofNat 32 (((101 : FrameNo) - (100 + 1)).toNat * 11111))).toInt

theorem witness_SyncUpdatesTetherTime :
    let c := cellOf 0 .sync 0 4
    let bs := (payloadOf [1000000, 1]).take 16
    let lead (tt : Time) : Int := ((5000 : Time) - (timed .running tt 0).lrx.tt).toInt
    ((taking c).held = false ∧ (taking c).lrx.cell = some c ∧ c.locked = true ∧ c.sn = 0 ∧ c.kind = .sync ∧ c.pos = .only
        ∧ c.len = 4 ∧ (payloadOf [1000000, 1]).length = 128
        ∧ payloadGood bs (BitVec.ofNat 8 (pcrc bs).toNat) (BitVec.ofNat 8 ((pcrc bs).toNat / 256)) = true
        ∧ ((payloadOf [1000000, 1]).getD 4 0).getLsbD 0 = true ∧ (timed .running 1004097 0).lrx.timeState ≠ .unset
        ∧ ((1000000 : Time) - (timed .running 1004097 0).lrx.tt).toInt < -4096)
      ∧ (lead 903 = 4097 ∧ lead 904 = 4096 ∧ lead 5000 = 0 ∧ lead 5001 = -1 ∧ lead 9096 = -4096 ∧ lead 9097 = -4097
        ∧ (timed .unset 0 0).lrx.timeState = .unset ∧ (timed .running 9097 2).lrx.faults + 1 < 4
        ∧ 4 ≤ (timed .running 9097 3).lrx.faults + 1)
      ∧ (live.ftm.schedule = .idle ∧ (linked .starting false .pulling 1 0).ftm.schedule = .starting
        ∧ (linked .running true .pulling 1 0).ftm.targetTaken = true
        ∧ 100 ≤ ((2000 : Time) - 3000).toInt + (1 : Nat) * 11111 ∧ ((2000 : Time) - 3000).toInt + (0 : Nat) * 11111 < 100)
      ∧ (phaseError 11161).natAbs = FtCfg.reset.lockWindow ∧ (phaseError 11060).natAbs = FtCfg.reset.lockWindow + 1
      ∧ (linked .running false .free 0 0).ftm.display = .free ∧ (linked .running false .pulling 2 0).ftm.inCount + 1 < 4
      ∧ 4 ≤ (linked .running false .pulling 3 0).ftm.inCount + 1 ∧ (linked .running false .locked 4 0).ftm.outCount + 1 < 2
      ∧ 2 ≤ (linked .running false .locked 4 1).ftm.outCount + 1
      ∧ (linked .running false .holdover 4 0).ftm.display = .holdover
      ∧ ((linked .running false .holdover 4 0).ftm.schedule = .running
        ∧ (linked .running false .holdover 4 0).ftm.inForce.linked = true
        ∧ (linked .running false .holdover 4 0).ftm.targetTaken = false) := by decide +kernel

/-- A LOCKED link that takes in a cell of stream 5, with one window. -/
def steered (d : Option Destination) (len : Nat) : State :=
  let s := taking (cellOf 5 .data 40 len)
  match d with
  | none => s
  | some x => s.onStu fun u => { u with written := u.written.set 2 ⟨true, 5, 31, x⟩ }

/-- The hypotheses on an arrival of stream 5; check bytes that match exist by `check_matches`. -/
abbrev arrives (s : State) (len : Nat) : Prop :=
  let c := cellOf 5 .data 40 len
  let bs := (payloadOf [7]).take (4 * len)
  s.held = false ∧ s.lrx.cell = some c ∧ c.locked = true ∧ c.sn ≠ 0 ∧ c.kind = .data ∧ (payloadOf [7]).length = 128
    ∧ bs.length = 4 * len

/-- Every payload has check bytes that match it. -/
theorem check_matches (bs : List Byte) :
    payloadGood bs (BitVec.ofNat 8 (pcrc bs).toNat) (BitVec.ofNat 8 ((pcrc bs).toNat / 256)) = true := by
  have := (pcrc bs).isLt
  simp only [payloadGood, BitVec.toNat_ofNat, decide_eq_true_eq]
  omega

/-- The picture path with a slice of stream 5 in reassembly in context 0: one line of 64 pixels of frame 20. -/
def slicing : State :=
  let k : SliceCtx :=
    { sn := 5, target := .one .a, frame := 20, first := 0, count := 1, width := 64, nextLine := 0, current := [], received := 0 }
  live.onPxp fun x => { x with contexts := x.contexts.set 0 (some k) }

/-- A picture cell of stream 5 with a slice header of line 0 of frame 20. -/
def picCell (pos : Pos) (gap : Option Nat) (bytes : Nat) : PicCell :=
  { sn := 5, pos := pos, bytes := [20, 0, 0, 0, 0, 0, 0, 0].take bytes, gap := gap, target := .one .a }

theorem witness_UnsteeredCellIsTracked :
    let destination (d : Option Destination) : Option Destination :=
      ((steered d 1).stu.written.toList.find? fun w => w.hits 5).map Window.destination
    let zero (k : CellKind) := taking (cellOf 0 k 0 1)
    let full := live.onPxp fun x => { x with contexts := Vector.replicate 4 (slicing.pxp.contexts[0]) }
    let lines (f : FrameNo) (line pos : Nat) : Nat :=
      (f - 20).toNat * ({ PanelState.reset with pos := pos } : PanelState).inForce.height + line
    (arrives (steered none 1) 1 ∧ destination none = none ∧ destination (some .discard) = some .discard
        ∧ destination (some .panelA) = some .panelA ∧ destination (some .panelB) = some .panelB
        ∧ destination (some .panelBoth) = some .panelBoth ∧ (cellOf 5 .mgmt 0 1).kind ≠ .data
        ∧ (zero .idle).lrx.cell = some (cellOf 0 .idle 0 1) ∧ (zero .sync).held = false ∧ (cellOf 0 .sync 0 1).len ≠ 4
        ∧ (withLrx fun l => { l with testMode := true }).lrx.testMode = true)
      ∧ (live.pxp.ctxOf 5 = none ∧ slicing.pxp.ctxOf 5 = some 0 ∧ slicing.pxp.contexts[0].isSome = true
        ∧ (picCell .mid none 8).gap = none ∧ (picCell .last (some 1) 8).gap ≠ none
        ∧ (slicing.abortCtx 0).pxp.ctxOf 5 = none
        ∧ 8 ≤ (picCell .only none 8).bytes.length ∧ ¬ 8 ≤ (picCell .only none 7).bytes.length
        ∧ ofLe (((picCell .only none 8).bytes.drop 2).take 2) = 0 ∧ 0 + (0 + 1) ≤ (live.panel .a).inForce.height
        ∧ full.pxp.ctxOf 6 = none ∧ (∀ i : Fin 4, full.pxp.contexts[i] ≠ none) ∧ live.pxp.contexts[0] = none
        ∧ 0 < (live.panel .a).inForce.width)
      ∧ lines 20 0 17 + 16 < 17 ∧ 16 ≤ lines 20 0 16 + 16 ∧ lines 20 79 0 ≤ 0 + 79 ∧ 0 + 79 < lines 20 80 0
      ∧ ((21 : FrameNo) - 20).toNat ≤ 1 ∧ 2 ≤ ((22 : FrameNo) - 20).toNat ∧ ((32787 : FrameNo) - 20).toNat ≤ 32767
      ∧ 32768 ≤ ((32788 : FrameNo) - 20).toNat 
      ∧ ((live.onPanel .a fun x => { x with scan := .waiting }).panel .a).scan ≠ .off := by decide +kernel

theorem witness_SidebandCellSetsWord : arrives (steered (some .sideband) 1) 1
    ∧ (((steered (some .sideband) 1).stu.written.toList.find? fun w => w.hits 5).map Window.destination) = some .sideband := by
  decide +kernel

/-- A reply and a notice for the queues. -/
def someReply : Reply := { tag := 1, status := .ok, table := 0, count := 0, index := 0, data := [], restart := false }
def someNotice : Notice :=
  { kind := .linkLock, priority := 2, count := 1, timeUnset := true, time := 0, detail := [] }

/-- Queues of the transmitter. -/
def queued (motion voice : Nat) (reply notice : Bool) (fairness : Nat) : State :=
  { live with
    ltx := { uLane with
      motion := List.replicate motion [0, 0, 0, 0], voice := List.replicate voice [0, 0, 0, 0]
      reply := if reply then [someReply] else [], fairness := fairness }
    evu := { Evu.reset with queue := if notice then [someNotice] else [] } }

theorem witness_BoundaryGrantsMotionThenVoice :
    let a := queued 2 1 true true 2
    let b := queued 0 1 false false 3
    a.held = false ∧ a.restartSent = false ∧ a.ltx.tx ≠ none ∧ a.ltx.fairness < 3 ∧ a.ltx.motion = [0, 0, 0, 0] :: [[0, 0, 0, 0]]
      ∧ (queued 1 0 false false 0).batchDue = false ∧ a.batchDue = false
      ∧ b.held = false ∧ b.restartSent = false ∧ b.ltx.tx ≠ none ∧ b.ltx.reply = [] ∧ b.evu.queue = [] ∧ b.ltx.motion = []
      ∧ b.ltx.voice = [0, 0, 0, 0] :: [] := by decide

theorem witness_BoundaryGrantsReplyNoticeIdle :
    let a := queued 1 1 true true 3
    let b := queued 0 0 false true 1
    let c := queued 0 0 false false 0
    let d : State := c.onLrx fun l => { l with testMode := true }
    live.held = false ∧ live.restartSent = false ∧ live.ltx.tx = none ∧ a.ltx.tx ≠ none ∧
    a.held = false ∧ a.restartSent = false ∧ a.ltx.fairness = 3 ∧ a.ltx.reply = someReply :: []
      ∧ b.held = false ∧ b.restartSent = false ∧ b.ltx.motion = [] ∧ b.ltx.voice = [] ∧ b.ltx.reply = []
      ∧ b.evu.queue = someNotice :: [] ∧ c.held = false ∧ c.restartSent = false ∧ c.ltx.motion = [] ∧ c.ltx.voice = []
      ∧ c.ltx.reply = [] ∧ c.evu.queue = [] ∧ c.lrx.testMode = false
      ∧ d.held = false ∧ d.restartSent = false ∧ d.evu.queue = [] ∧ d.lrx.testMode = true := by decide

theorem witness_RequestGateComesFirst :
    let full := live.onLtx fun t => { t with reply := List.replicate 4 someReply }
    Instr.asRequest (.stop (rq [0])) = some (3, 6, rq [0]) ∧ live.held = false
      ∧ ({ rq [0] with pos := .first } : Request).pos ≠ .only
      ∧ (rq [0]).pos = .only ∧ full.held = false ∧ full.room = 0 ∧ 0 < live.room
      ∧ ({ rq [] with short := true } : Request).short = true ∧ (rq [0]).short = false ∧ (3 : Nat) ≠ 0
      ∧ State.reset.cfl.state = .loading ∧ 0 < State.reset.room ∧ State.reset.held = false := by decide

/-- A MGMT cell that carries CLEAR of table 3, one entry, INDEX 7. -/
theorem witness_RequestGateComesFirst_cell :
    let c := cellOf 0 .mgmt 4 2
    let payload := payloadOf [0x01030209, 0x00000007]
    let bytes := payload.take (4 * c.len)
    (taking c).held = false ∧ (taking c).lrx.cell = some c ∧ c.locked = true ∧ c.sn = 0 ∧ c.kind = .mgmt ∧ payload.length = 128
      ∧ payloadGood bytes (BitVec.ofNat 8 (pcrc bytes).toNat) (BitVec.ofNat 8 ((pcrc bytes).toNat / 256)) = true
      ∧ Instr.asRequest (.clear 3 (rq [] 7)) = some (2, 3, {
        pos := c.pos, tag := bytes.getD 0 0, count := bytes.getD 3 0, index := bytes.getD 4 0, short := decide (c.len = 1)
        data := wordsOf (c.len - 2) (bytes.drop 8) })
      ∧ (bytes.getD 1 0).toNat = 2 ∧ bytes.getD 2 0 = 3 := by decide +kernel

theorem witness_ReadAnswersFieldWords :
    live.held = false ∧ (rq [] 7).pos = .only ∧ (rq [] 7).short = false ∧ 0 < live.room ∧ 17 < (18 : Byte).toNat
      ∧ Table.ofCode (2 : Byte).toNat = some .steering ∧ Table.entries .steering < (rq [] 8).index.toNat + 1
      ∧ (rq [] 7).count ≠ 0 ∧ (rq [] 7).index.toNat + (rq [] 7).count.toNat ≤ Table.entries .steering
      ∧ 22 < 6 * Table.fields .steering ∧ 5 * Table.fields .steering ≤ 22 := by decide

theorem serves_live (data : List Word) (index : Byte) : live.serves (rq data index) := ⟨rfl, rfl, rfl, by decide, by decide,
  rfl⟩

theorem witness_RefusedWriteStoresNothing :
    let protectedPart := live.onPmg fun p => { p with cfg := { p.cfg with protect := true } }
    live.serves (rq []) ∧ Table.ofCode (3 : Byte).toNat = some .streamStatus ∧ Table.readOnly .streamStatus = true
      ∧ Table.ofCode (2 : Byte).toNat = some .steering ∧ Table.readOnly .steering = false
      ∧ (rq [1]).data.length ≠ 1 * Table.fields .steering
      ∧ protectedPart.serves (rq (List.replicate 18 0)) ∧ Table.readOnly .power = false
      ∧ (rq (List.replicate 18 0)).data.length = 1 * Table.fields .power ∧ protectedPart.pmg.cfg.protect = true
      ∧ live.pmg.cfg.protect = false ∧ validate .power 0 1 (List.replicate 18 0) = none
      ∧ validate .steering 7 1 [1, 6, 31, 7] = none
      ∧ protectedPart.serves (rq (List.replicate 8 0) 7) ∧ (validate .loads 7 1 (List.replicate 8 0)).any (fun es =>
          es.any fun e => decide (e.num 1 ≠ (protectedPart.pmg.loads[Fin.ofNat 8 e.entry]).floor)) = true := by decide +kernel

/-- Words of one entry, read-only fields 0. -/
def entryWords (ws : List Word) (n : Nat) : List Word := ws ++ List.replicate (n - ws.length) 0

theorem witness_WritesOfStreamAndTimerTables :
    let awaiting := live.onFtm fun t => { t with schedule := .awaiting }
    let free := entryWords [0, 11111, 20, 50, 500] 13
    live.serves (rq [1, 5, 31, 4] 7) ∧ isStore (live.judgeWrite .steering 7 1 [1, 5, 31, 4]) = true
      ∧ isStore (live.judgeWrite .sideband 5 1 (entryWords [3, 20, 1, 0] 8)) = true
      ∧ isStore (live.judgeWrite .frameTimer 0 1 free) = true ∧ live.ftm.schedule ≠ .awaiting
      ∧ awaiting.serves (rq free) ∧ awaiting.ftm.schedule = .awaiting
      ∧ (∃ e, awaiting.judgeWrite .frameTimer 0 1 free = .store [e] false ∧ e.flag 0 = false) := by
  refine ⟨serves_live _ _, by decide +kernel, by decide +kernel, by decide +kernel, by decide, by decide, rfl, ?_⟩
  exact ⟨{ entry := 0, values := [0, 11111, 20, 50, 500, 0, 0, 0, 0, 0, 0, 0, 0], clamped := false }, by decide +kernel,
    by decide⟩

/-- The other tables of the statement, and a write of two windows. -/
theorem witness_WritesOfStreamAndTimerTables_more :
    isStore (live.judgeWrite .link 0 1 (entryWords [16, 200] (Table.fields .link))) = true
      ∧ isStore (live.judgeWrite .exposure 1 1 (entryWords [1, 1, 500, 1000, 2, 5] (Table.fields .exposure))) = true
      ∧ isStore (live.judgeWrite .shift 0 1 (entryWords [1, 4922, 4922, 64, 16, 0, 1] (Table.fields .shift))) = true
      ∧ isStore (live.judgeWrite .mount 0 1 (entryWords [17454, 2, 0, 0, 0, 1, 0] (Table.fields .mount))) = true
      ∧ isStore (live.judgeWrite .events 27 1 (entryWords [1, 3, 1] (Table.fields .events))) = true
      ∧ live.serves { rq [1, 5, 31, 4, 1, 6, 31, 0] 6 with count := 2 }
      ∧ entriesOf (live.judgeWrite .steering 6 2 [1, 5, 31, 4, 1, 6, 31, 0]) = [6, 7] := by decide +kernel

theorem witness_WritesOfUnitTables :
    live.serves (rq (entryWords [1, 64, 64, 100] 21))
      ∧ isStore (live.judgeWrite .panel 1 1 (entryWords [1, 64, 64, 100] 21)) = true
      ∧ isStore (live.judgeWrite .poll 7 1 (entryWords [1, 1, 127, 0, 16, 0, 0, 1, 1, 0, 0, 1] 17)) = true
      ∧ isStore (live.judgeWrite .motion 0 1 (entryWords [8, 2000, 150] 16)) = true
      ∧ isStore (live.judgeWrite .audio 0 1 (entryWords [6, 32768, 0, 500, 1] 22)) = true
      ∧ isStore (live.judgeWrite .pattern 47 1 (entryWords [24, 200, 1, 4, 63] 10)) = true
      ∧ isStore (live.judgeWrite .pattern 0 1 (entryWords [24, 200, 1, 4, 47, 800, 2] 10)) = true :=
  ⟨serves_live _ _, by decide +kernel, by decide +kernel, by decide +kernel, by decide +kernel, by decide +kernel,
    by decide +kernel⟩

theorem witness_WritesOfPowerTables :
    let power := entryWords [2500, 500, 4600, 4400, 4100, 100, 1600, 1] 18
    live.serves (rq power) ∧ isStore (live.judgeWrite .power 0 1 power) = true
      ∧ isStore (live.judgeWrite .loads 2 1 (entryWords [5, 200] 8)) = true
      ∧ isStore (live.judgeWrite .loads 7 1 (entryWords [1, 300, 1] 8)) = true :=
  ⟨serves_live _ _, by decide +kernel, by decide +kernel, by decide +kernel⟩

theorem witness_ClearZeroesCounters : live.serves (rq [] 31) ∧ (rq [] 31).count = 1 ∧ (rq [] 0).index = 0
    ∧ (rq [] 31).index.toNat = (31 : Fin 32).val ∧ (rq [] 1).index = (if Side.b = .a then 0 else 1)
    ∧ (rq [] 7).index.toNat = (7 : Fin 8).val ∧ (rq [] 27).index.toNat = (27 : Fin 28).val ∧ (rq [] 47).index.toNat < 48 :=
  ⟨serves_live _ _, by decide, by decide, by decide, by decide, by decide, by decide, by decide⟩

theorem witness_RestartIsAnsweredAndPending : live.serves (rq []) ∧ (rq []).data = [] ∧ live.serves (rq [1])
  ∧ (rq [1]).data ≠ [] :=
  ⟨serves_live _ _, rfl, serves_live _ _, by decide⟩

/-- A relay's words: bus, device, write length, read length, wait-after, timeout, and the bytes to write. -/
def relayWords (bus : Word) : List Word := [bus, 1, 1, 16, 0, 255, 0x75]

theorem witness_RelayTakesSlot :
    let slot : Slot := { tag := 1, count := 1, index := 0, readLen := 0, deadline := 9 }
    let taken := live.onMrs fun m => { m with slot := some slot }
    let wired (st : BusState) := live.onBus .twoWire fun c => { c with state := st }
    let serial := live.onBus .serial4 fun c => { c with state := .busy }
    let meets (b : Word) : Prop :=
      live.serves (rq (relayWords b)) ∧ 3 ≤ (rq (relayWords b)).data.length ∧ reqArg (rq (relayWords b)) 2 ≤ 16
        ∧ (rq (relayWords b)).data.length = 6 + (reqArg (rq (relayWords b)) 2 + 3) / 4 ∧ relayArgs (rq (relayWords b)) = true
    meets 0 ∧ meets 1
      ∧ taken.serves (rq (relayWords 0)) ∧ taken.mrs.slot.isSome = true
      ∧ (wired .fault).serves (rq (relayWords 1)) ∧ (wired .fault).mrs.slot = none
      ∧ ((wired .fault).bus .twoWire).state = .fault
      ∧ live.mou.serial4.state = .idle ∧ serial.mou.serial4.state = .busy ∧ (wired .busy).mou.twoWire.state = .busy
      ∧ live.mou.twoWire.state = .idle ∧ live.mou.twoWire.recPending = none := by decide +kernel

theorem witness_BusRecoverAndFifoFlush :
    let wired (st : BusState) := live.onBus .twoWire fun c => { c with state := st }
    live.serves (rq [0]) ∧ (rq [0]).data = [0] ∧ (rq [1]).data = [1] ∧ live.mou.twoWire.state = .idle
      ∧ (wired .busy).serves (rq [1]) ∧ (wired .busy).mou.twoWire.state = .busy ∧ (wired .recovering).serves (rq [1])
      ∧ (wired .recovering).mou.twoWire.state = .recovering ∧ (rq []).data = [] := by decide

theorem witness_TestModeFollowsCommands : live.serves (rq []) ∧ (rq []).data = [] ∧ heldPart.held = true
    ∧ restartSent.held = false ∧ restartSent.restartSent = true
    ∧ (withLrx fun l => { l with lock := .locked, testMode := true }).lrx.lock = .locked := by decide

theorem witness_AudioStops :
    let timed : State := live.onAuu fun a => { a with state := .playing, idleAt := some 0 }
    live.serves (rq []) ∧ (rq []).data = [] ∧ live.auu.state = .stopped ∧ live.auu.buffer = [] ∧ live.auu.playout = none
      ∧ live.auu.owner = 0 ∧ live.auu.idleAt = none ∧ live.requestChanged = false ∧ timed.held = false
      ∧ timed.idleExpired = true := by decide +kernel

/-- A pattern that plays step 10 of chapter 9's example at an elapsed time. -/
def playing (c : Channel) (elapsed osc : Nat) (budget : Nat) (negative : Bool) : State :=
  let x : Step := { halfPeriod := 24, level := 200, envelope := .rise, duration := 4, next := some 11 }
  let p : Pattern :=
    { priority := 1, budgetLeft := budget, stepsBegun := 1, step := 10, copy := x, elapsed := elapsed, level := 0
      negative := negative, began := 0, reversed := 0 }
  { live with
    clock := { osc := osc, usAcc := 0, measAt := 24576 }
    pte := { Pte.reset.setChan c (some p) with bridge := if c = .h then .driving else .idle }
    pmg := if c = .h then { Pmg.reset with loads := tabMod Pmg.reset.loads 5 fun l => { l with request := 800 } } else Pmg.reset }

theorem witness_PlayStartsPattern :
    let low := rq [1, 47, 0, 4095]
    let same := rq [0, 47, 1, 1]
    (playing .h 0 0 4 false).serves low ∧ low.data.length = 4 ∧ playArgs low = true ∧ reqArg low 0 = 1
      ∧ reqArg low 1 = (47 : Fin 48).val
      ∧ ((playing .h 0 0 4 false).pte.chan .h).any (fun p => decide (reqArg low 2 < p.priority)) = true
      ∧ (playing .t 0 0 4 false).serves same ∧ playArgs same = true ∧ reqArg same 0 = 0
      ∧ ((playing .t 0 0 4 false).pte.chan .t).all (fun p => decide (p.priority ≤ reqArg same 2)) = true
      ∧ (playing .t 0 0 4 false).requestChanged = false ∧ live.pte.chan .h = none
      ∧ (playing .h 0 0 4 true).serves (rq [1, 47, 1, 1]) ∧ playArgs (rq [1, 47, 1, 1]) = true
      ∧ ((playing .h 0 0 4 true).pte.chan .h).all (fun p => decide (p.priority ≤ reqArg (rq [1, 47, 1, 1]) 2)) = true
      ∧ ((playing .h 0 0 4 true).pte.chan .h).any Pattern.negative = true := by decide +kernel

theorem witness_StopEndsPattern : live.serves (rq [0]) ∧ (rq [0]).data = [0] ∧ live.pte.chan .t = none
  ∧ live.requestChanged = false
    ∧ (playing .t 0 0 4 false).serves (rq [0]) ∧ ((playing .t 0 0 4 false).pte.chan .t).isSome = true
    ∧ (playing .t 0 0 4 false).requestChanged = false ∧ (playing .h 0 0 4 false).serves (rq [1])
    ∧ ((playing .h 0 0 4 false).pte.chan .h).isSome = true := by decide +kernel

/-- A loader in pass 2 at a position of a body of 28 words. -/
def loadingAt (position : Nat) : State :=
  { State.reset with cfl := { Cfl.reset with pass := 2, length := 28, position := position } }

theorem witness_ImageHeaderAndBodyAreJudged :
    let body : List Word := [1, 2]
    let read (check : BitVec 16) : State :=
      { State.reset with cfl := { Cfl.reset with position := 2, length := 2, check := check } }
    State.reset.held = false ∧ State.reset.cfl.state = .loading ∧ State.reset.cfl.pass = 1 ∧ State.reset.cfl.position = 0
      ∧ (0x00034A53 : Word).toNat % 65536 = 0x4A53 ∧ 1 ≤ (4096 : Word).toNat % 65536 ∧ (4096 : Word).toNat % 65536 ≤ 4096
      ∧ 4096 < (4097 : Word).toNat % 65536 ∧ (0 : Word).toNat % 65536 ≠ 0x4A53
      ∧ (read (pcrc (bytesOf body))).cfl.position = 2 ∧ body.length = (read 0).cfl.length
      ∧ pcrc (bytesOf body) = (read (pcrc (bytesOf body))).cfl.check ∧ pcrc (bytesOf body) ≠ (read 0).cfl.check := by
  decide +kernel

theorem witness_ImageRecordIsJudged :
    (loadingAt 0).held = false ∧ (loadingAt 0).cfl.state = .loading ∧ (loadingAt 0).cfl.pass = 2
      ∧ 17 < (18 : Word).toNat % 256 ∧ Table.ofCode ((0x00000102 : Word).toNat % 256) = some .steering
      ∧ 2 + (loadingAt 26).cfl.length < 26 + 1 + 1 * Table.fields .steering
      ∧ 25 + 1 + 1 * Table.fields .steering ≤ 2 + (loadingAt 25).cfl.length
      ∧ ([1, 5, 31, 4] : List Word).length = 1 * Table.fields .steering
      ∧ isStore ((loadingAt 0).judgeWrite .steering 0 1 [1, 5, 31, 4]) = true ∧ 0 + 1 ≤ Table.entries .steering
      ∧ 2 + 1 + 1 * Table.fields .steering ≠ 2 + (loadingAt 0).cfl.length := by decide +kernel

/-- A running schedule with its next start at a tether time. -/
def scheduled (tt : Time) (st : Schedule) : State :=
  { live with
    lrx := { Lrx.reset with tt := tt }
    ftm := { Ftm.reset with
      schedule := st, scanFrame := if st = .running then some 100 else none, sNext := 11111
      upcoming := some (FrameRec.fresh (if st = .running then 101 else 0) 11111) } }

theorem witness_FrameStartNumbersAndPlacesFrames :
    (scheduled 11111 .starting).held = false ∧ (scheduled 11111 .starting).frameStartDue = true
      ∧ (scheduled 11111 .running).frameStartDue = true
      ∧ ((scheduled 11111 .running).onFtm fun t => { t with scanning := t.upcoming }).ftm.scanning.isSome = true := by
  decide +kernel

theorem witness_EvaluationSetsAnglesAndShifts :
    (evaluating 1000).held = false ∧ (evaluating 1000).evaluationDue = true ∧ (evaluating 1000).ftm.upcoming.isSome = true
      ∧ (evaluating 1000).lsu.written.enable = true ∧ 0 < ((evaluating 1000).lrx.tt - 1000000).toInt ∧ (scheduled 10611 .running).evaluationDue = true
      ∧ (scheduled 10611 .running).lsu.written.enable = false := by decide +kernel

/-- Generators at a tether time: A and B in states, B following A. -/
def exposing (tt : Time) (a b : ExpState) (frame : FrameNo) : State :=
  let f : ExpCfg := { enable := true, aEnd := true, offset := 500, width := 1000, divider := 2, line := 6 }
  { live with
    lrx := { Lrx.reset with tt := tt }
    ftm := { Ftm.reset with
      sNext := 22222
      gens := ⟨{ Generator.reset with state := a, startAt := 12111, endAt := 14111, frame := frame },
        { Generator.reset with inForce := f, state := b, startAt := 14611, endAt := 15611 }⟩ } }

theorem witness_ExposurePulsesStartAndEnd :
    (exposing 12111 .pending .idle 102).held = false ∧ (exposing 12111 .pending .idle 102).expStartDue .a = true
      ∧ (exposing 14611 .idle .pending 102).expStartDue .b = true ∧ (exposing 15611 .idle .on 102).expEndDue .b = true
      ∧ (exposing 14111 .on .idle 101).expEndDue .a = true ∧ (101 : FrameNo).toNat % 2 ≠ 0
      ∧ (exposing 14111 .on .idle 102).expEndDue .a = true ∧ (102 : FrameNo).toNat % 2 = 0
      ∧ ((exposing 14111 .on .idle 102).ftm.sNext - 14611).toInt > 0
      ∧ (exposing 14111 .on .pending 102).ftm.gens.b.state ≠ .idle ∧ (exposing 14111 .on .pending 102).expEndDue .a = true := by
  decide +kernel

theorem witness_LinesFollowPinsAndPulses :
    let pulsing : State := live.onFtm fun t => { t with pulseEnd := some 0 }
    let level0 : State := live.onStu fun u => { u with lines := tabMod u.lines 5 fun l => { l with source := .level0 } }
    pulsing.held = false ∧ pulsing.pulseEndDue = true ∧ live.stu.pins[0] = false ∧ live.stu.pins[5] ≠ true
      ∧ level0.stu.lines[5].source ≠ .input ∧ live.stu.lines[5].source = .input ∧ live.claimed 5 = false := by decide

/-- Panel A scanning frame 20 with a line of the picture in its ring, about to send line 1 of a height. -/
def scanningPanel (height : Nat) (dy : Int) : State :=
  let l : RingLine := { frame := 20, line := 1, pixels := List.replicate 64 (.rgb 1 2 3) }
  let x : PanelState :=
    { PanelState.reset with
      inForce := { PanelCfg.reset with width := 64, height := height, enable := true }
      scan := .active, ring := [l], shift := ⟨3, dy⟩ }
  { live with
    clock := { osc := 100000, usAcc := 0, measAt := 0 }
    ftm := { Ftm.reset with schedule := .running, scanFrame := some 20 }
    pxp := { Pxp.reset with panels := ⟨x, PanelState.reset⟩ } }

theorem witness_LineOutSendsLine :
    (scanningPanel 64 0).held = false ∧ (scanningPanel 64 0).lineDue .a = true ∧ (scanningPanel 64 0).ftm.scanFrame = some 20
      ∧ ((scanningPanel 64 0).panel .a).ring.find? (fun r => decide (some r.frame = some 20 ∧ (r.line : Int) = 1)) ≠ none
      ∧ (scanningPanel 64 1).lineDue .a = true ∧ (scanningPanel 64 (-2)).lineDue .a = true
      ∧ (scanningPanel 2 0).lineDue .a = true ∧ ((scanningPanel 2 0).panel .a).pos + 1 + 1 = 2 := by decide +kernel

/-- Panel A with a strobe. -/
def strobing (st : StrobeState) (scan : ScanState) (sNext : Time) : State :=
  let x := { PanelState.reset with scan := scan, strobe := st, strobeAt := 3000, strobeEnd := 4564, strobeWidth := 1564 }
  { live with
    lrx := { Lrx.reset with tt := 4564 }
    ftm := { Ftm.reset with
      schedule := .running, scanFrame := some 20, sNext := sNext, pendingPanels := ⟨true, false⟩
      scanning := some { FrameRec.fresh 20 0 with state := .scanning } }
    pxp := { Pxp.reset with panels := ⟨x, PanelState.reset⟩ } }

theorem witness_StrobeStartsAndEnds :
    (strobing .pending .active 11111).held = false ∧ (strobing .pending .active 11111).strobeStartDue .a = true
      ∧ 0 < min 1564 ((11111 : Time) - 3000).toInt.toNat
      ∧ (strobing .pending .active 2000).strobeStartDue .a = true ∧ min 1564 ((2000 : Time) - 3000).toInt.toNat = 0
      ∧ (strobing .on .active 11111).strobeEndDue .a = true ∧ ((strobing .on .active 11111).panel .a).scan = .active
      ∧ (strobing .on .blank 11111).strobeEndDue .a = true ∧ ((strobing .on .blank 11111).panel .a).scan ≠ .active
      ∧ (strobing .on .blank 11111).ftm.scanning.isSome = true
      ∧ (strobing .on .blank 11111).ftm.pendingPanels = ⟨true, false⟩ := by decide +kernel

/-- R66: the second target out of the window takes LOCKED to PULLING with an out-of-window count of 2. -/
theorem test_second_target_out :
    let t := ((linked .running false .locked 4 1).judgeLock 51).ftm
    t.display = .pulling ∧ t.outCount = 2 ∧ t.inCount = 0 := by decide +kernel

/-- A part with poll entry 7 on a bus, its due moment come. -/
def polling (b : Bus) (st : BusState) (cls : SensorClass) (waits : Bool) : State :=
  let c : PollCfg := { PollCfg.reset with enable := true, bus := b }
  let q : Queued := { entry := 7, trigger := 0, stamp := 0, timeUnset := true, decimated := false, late := false }
  let s : State := { live with mou := { Mou.reset with
    poll := tabMod Mou.reset.poll 7 fun p => { p with cfg := c, dueAt := some 0 }
    sensorClass := cls } }
  s.onBus b fun k => { k with state := st, queue := if waits then [q] else [] }

theorem witness_DueMomentTriggersPoll :
    let free (b : Bus) (st : BusState) (waits : Bool) : Prop :=
      (polling b st .full waits).held = false ∧ (polling b st .full waits).momentDue 7 = true
        ∧ (polling b st .full waits).mou.sensorClass ≠ .suspended ∧ ((polling b st .full waits).bus b).state ≠ .fault
    (polling .twoWire .fault .full false).momentDue 7 = true
      ∧ ((polling .twoWire .fault .full false).bus .twoWire).state = .fault
      ∧ free .serial4 .busy true ∧ (polling .serial4 .busy .full true).isQueued 7 = true
      ∧ free .serial4 .busy false ∧ (polling .serial4 .busy .full false).isQueued 7 = false
      ∧ free .serial4 .idle false ∧ (polling .serial4 .idle .full false).isQueued 7 = false
      ∧ (polling .serial4 .idle .full false).mou.relay = none
      ∧ free .twoWire .idle false ∧ (polling .twoWire .idle .full false).mou.twoWire.recPending = none
      ∧ (polling .twoWire .idle .full false).mou.twoWire.queue = [] := by decide +kernel

/-- A bus BUSY with a transaction of entry 7. -/
def transacting (b : Bus) (kind : PollKind) (fifo : Bool) (history : List GyroEntry) : State :=
  let c : PollCfg := { PollCfg.reset with bus := b, length := 12, kind := kind, toFifo := fifo }
  let q : Queued := { entry := 7, trigger := 100, stamp := 0, timeUnset := true, decimated := false, late := false }
  (live.onMou fun m => { m with history := history }).onBus b fun k => { k with state := .busy, poll := some ⟨q, c⟩ }

theorem witness_TransactionCompletes :
    let bytes : List Byte := List.replicate 12 0
    let newer : List GyroEntry := [{ time := 100, yaw := 0, pitch := 0, roll := 0 }]
    let ready (s : State) (b : Bus) : Prop :=
      s.held = false ∧ (s.bus b).poll.isSome = true ∧ (s.bus b).queue = [] ∧ s.mou.relay = none
        ∧ s.mou.twoWire.recPending = none
        ∧ ((s.bus b).poll.map fun w => w.cfg.length) = some bytes.length
    ready (transacting .serial4 .raw false []) .serial4 ∧ ready (transacting .serial4 .raw true []) .serial4
      ∧ (transacting .serial4 .raw true []).mou.fifo.length + 1 < (transacting .serial4 .raw true []).mou.watermark
      ∧ (transacting .serial4 .raw true []).flushDue = false ∧ 0 < (transacting .serial4 .raw true []).mou.flushTimeout
      ∧ ready (transacting .twoWire .imu6 false []) .twoWire ∧ afterNewest [] 100 = true
      ∧ ready (transacting .twoWire .imu6 false newer) .twoWire ∧ afterNewest newer 100 = false := by decide +kernel

/-- TWO_WIRE in recovery. -/
def recovering (forRelay : Bool) : State :=
  live.onBus .twoWire fun c => { c with state := .recovering, recovery := some ⟨.lineLow, forRelay⟩ }

/-- A relay in a phase on a bus, with its slot. -/
def relaying (b : Bus) (ph : RelayPhase) (readLen waitAfter : Nat) : State :=
  let r : Relay :=
    { bus := b, device := 1, writeBytes := [7], readLen := readLen, waitAfter := waitAfter, phase := ph, waitEnd := 0 }
  let k : Slot := { tag := 1, count := 1, index := 0, readLen := readLen, deadline := 0 }
  ((live.onMou fun m => { m with relay := some r }).onMrs fun m => { m with slot := some k }).onBus b fun c =>
    { c with state := .busy }

theorem witness_RecoveryRunsOnTwoWire :
    let fault : State := live.onBus .twoWire fun c => { c with state := .fault, retryAt := some 0 }
    let s := relaying .twoWire .read 16 0
    (transacting .twoWire .raw true []).held = false ∧ (transacting .twoWire .raw true []).mou.twoWire.poll.isSome = true
      ∧ s.held = false ∧ s.mou.twoWire.poll = none ∧ (s.mou.relay.map Relay.bus) = some .twoWire
      ∧ (s.mou.relay.map fun r => r.phase.transfers) = some true ∧ s.mou.twoWire.state = .busy ∧ s.mrs.slot.isSome = true
      ∧ (recovering false).held = false ∧ (recovering false).mou.twoWire.recovery = some ⟨.lineLow, false⟩
      ∧ (recovering false).mou.twoWire.recPending = none ∧ (recovering false).mou.twoWire.queue = []
      ∧ (recovering false).mou.relay = none ∧ (recovering true).mou.twoWire.recovery = some ⟨.lineLow, true⟩
      ∧ fault.held = false ∧ fault.retryDue = true := by decide +kernel

theorem witness_RelayRunsToItsReply :
    let meets (s : State) (b : Bus) : Prop :=
      s.held = false ∧ s.mou.relay.isSome = true ∧ s.mrs.slot.isSome = true ∧ (s.bus b).queue = []
        ∧ s.mou.twoWire.recPending = none ∧ (s.mou.relay.map fun r => decide (r.phase ≠ .waiting)) = some true
        ∧ (s.bus b).state = .busy
    meets (relaying .serial4 .read 16 0) .serial4 ∧ meets (relaying .twoWire .probe 0 0) .twoWire
      ∧ ((relaying .serial4 .read 16 0).mou.relay.map Relay.lastPhase) = some true
      ∧ ((relaying .serial4 .read 16 0).mou.relay.map Relay.readLen) = some (List.replicate 16 (0 : Byte)).length
      ∧ meets (relaying .twoWire .wait 16 65535) .twoWire ∧ (relaying .twoWire .wait 16 65535).waitOver.isSome = true
      ∧ meets (relaying .serial4 .write 16 65535) .serial4 ∧ meets (relaying .serial4 .wait 16 65535) .serial4
      ∧ ((relaying .serial4 .wait 16 65535).mou.relay.map fun r => decide (r.waitEnd ≤ (relaying .serial4 .wait 16 65535).osc))
        = some true
      ∧ ((relaying .twoWire .read 16 0).mrs.slot.map fun k => decide (k.deadline ≤ (relaying .twoWire .read 16 0).osc))
        = some true := by decide +kernel

/-- A sensor FIFO whose oldest record's flush timeout has run. -/
def flushing (motion : Nat) : State :=
  let r : SensorRec :=
    { kind := .raw, entry := 0, timeUnset := false, gap := false, decimated := false, late := false, time := 0
      payload := List.replicate 16 0, joined := 0 }
  { live with
    clock := { osc := 10000000, usAcc := 0, measAt := 0 }
    ltx := { Ltx.reset with motion := List.replicate motion [0, 0, 0, 0] }
    mou := { Mou.reset with fifo := List.replicate 5 r } }

theorem witness_FlushTimeoutBuildsBatches :
    (flushing 7).held = false ∧ (flushing 7).flushDue = true ∧ (∀ r ∈ (flushing 7).mou.fifo, r.payload.length ≤ 16)
      ∧ (flushing 7).ltx.motion.length < 8 ∧ (flushing 8).flushDue = true ∧ (flushing 8).ltx.motion.length ≤ 8 := by
  decide +kernel

/-- A cell of stream 5 steered to the audio unit, whose last cell was of a sequence number. -/
def hearing (st : AudioState) (owner : Nat) (last : Byte) : State :=
  ((steered (some .audio) 32).onStream 5 fun e => { e with tracking := true, lastSeq := last }).onAuu fun a =>
    { a with state := st, owner := owner }

/-- The gap that cell 40 shows. -/
def gapOf (last : Byte) : Nat := ((40 : Byte) - (last + 1)).toNat

theorem witness_AudioCellsFillBuffer :
    let s := hearing .stopped 0 39
    arrives s 32 ∧ (payloadOf [7]).take 128 = payloadOf [7]
      ∧ ((s.stu.written.toList.find? fun w => w.hits 5).map Window.destination) = some .audio
      ∧ s.auu.state = .stopped ∧ s.auu.buffer = [] ∧ 2 ≤ s.auu.fillTarget
      ∧ arrives (hearing .filling 7 39) 32 ∧ (hearing .filling 7 39).auu.owner ≠ 5
      ∧ arrives (hearing .playing 5 36) 32 ∧ gapOf 36 = 3 ∧ arrives (hearing .playing 5 35) 32 ∧ gapOf 35 = 4
      ∧ gapOf 168 = 127 ∧ arrives (hearing .playing 5 167) 32 ∧ gapOf 167 = 128 := by decide +kernel

/-- The audio unit on its frame clock. -/
def clocked (st : AudioState) (idx blocks mic : Nat) : State :=
  live.onAuu fun a => { a with
    state := st, frameIdx := idx, buffer := List.replicate blocks silence, micOn := true, micDue := true
    mic := if mic = 0 then none else some { time := 0, samples := List.replicate mic 0 } }

theorem witness_AudioRunsOnFrameClock :
    (clocked .playing 32 1 0).held = false ∧ (clocked .playing 32 1 0).periodDue = true
      ∧ (clocked .playing 32 1 0).auu.buffer = silence :: [] ∧ (clocked .playing 32 0 0).periodDue = true
      ∧ (clocked .playing 32 0 0).auu.buffer = [] ∧ (clocked .filling 32 0 0).periodDue = true
      ∧ (clocked .filling 32 0 0).auu.state ≠ .playing ∧ (clocked .playing 31 0 0).frameDue = true
      ∧ (clocked .playing 31 0 42).micReady = true ∧ (clocked .playing 31 0 43).micReady = true := by decide +kernel

theorem witness_PatternRunsItsSteps :
    let due (s : State) (c : Channel) (f : Pattern → Nat → Bool) : Prop := ((s.pte.chan c).any fun p => f p s.osc) = true
    (playing .t 0 24576 4 false).held = false ∧ due (playing .t 2 73728 4 false) .t Pattern.elapsedDue
      ∧ due (playing .t 0 12288 4 false) .t Pattern.reversalDue ∧ due (playing .h 0 12288 4 false) .h Pattern.reversalDue
      ∧ due (playing .h 3 98304 4 true) .h Pattern.stepEndDue ∧ (playing .h 3 98304 4 true).requestChanged = false
      ∧ due (playing .t 3 98304 0 false) .t Pattern.stepEndDue ∧ (playing .t 3 98304 0 false).requestChanged = false
      ∧ due (playing .h 3 98304 0 false) .h Pattern.stepEndDue := by decide +kernel

theorem witness_HapticOutputsFollowCarrier :
    let s (dead : Option Nat) (hp : Bool) := live.onPte fun x => { x with deadEnd := dead, hp := hp }
    (s none false).held = false ∧ (s none false).carrierDue = true ∧ (s none false).pte.deadEnd = none
      ∧ (s (some 5) false).carrierDue = true ∧ (s (some 5) false).pte.deadEnd ≠ none ∧ (s (some 0) false).deadTimeOver = true
      ∧ (s none true).onTimeOver = true := by decide

/-- A part in NORMAL with 1700 mA measured, with its counts of the current hold. -/
def holding (hold : Bool) (above within : Nat) : State :=
  (measuring .normal 4600 0).onPmg fun p => { p with
    hold := hold, overCount := above, underCount := within, window := List.replicate 8 ⟨4600, 1700⟩, filtered := ⟨4600, 1700⟩ }

theorem witness_MeasurementMovesPowerState :
    let good (mv : Nat) (s : State) : Prop := 4400 + 100 ≤ ((7 * 4600 + min mv 8000) / 8) ∧ s.pmg.cfg.vTrip ≤ min mv 8000
    (measuring .constrained 4500 0).held = false ∧ (measuring .constrained 4500 0).measureDue = true
      ∧ min 4099 8000 < (measuring .constrained 4500 0).pmg.cfg.vTrip ∧ (measuring .constrained 4500 0).pmg.state = .constrained
      ∧ (measuring .trip 4600 7).pmg.state = .trip ∧ good 4600 (measuring .trip 4600 7)
      ∧ (measuring .trip 4600 7).pmg.recoverCount + 1 = 8 ∧ (measuring .trip 4600 6).pmg.recoverCount + 1 ≠ 8
      ∧ ¬ good 4099 (measuring .trip 4600 7) ∧ (measuring .normal 4600 0).pmg.cfg.vTrip ≤ min 4100 8000
      ∧ (measuring .normal 4600 0).pmg.hold = false ∧ ¬ (measuring .normal 4600 0).pmg.cfg.iMax < (100 : Nat)
      ∧ (measuring .shed 4600 0).pmg.state = .shed
      ∧ (holding false 3 0).held = false ∧ (holding false 3 0).measureDue = true ∧ (holding false 3 0).pmg.overCount + 1 = 4
      ∧ (holding false 2 0).pmg.overCount + 1 ≠ 4 ∧ (holding true 0 7).pmg.underCount + 1 = 8
      ∧ (holding true 0 6).pmg.underCount + 1 ≠ 8 ∧ (holding true 0 6).pmg.state = .normal
      ∧ (holding true 0 6).pmg.cfg.iMax < (1700 * 7 + min 1601 4000) / 8 ∧ (1700 * 7 + min 900 4000) / 8 ≤ 1600
      ∧ (measuring .held 4600 0).cfl.state ≠ .loading
      ∧ ({ measuring .held 4600 0 with cfl := Cfl.reset } : State).cfl.state = .loading
      ∧ (measuring .held 4600 0).pmg.state = .held := by decide +kernel

theorem witness_BudgetFollowsPowerState : State.reset.pmg.state ≠ .normal ∧ heldPart.held = true ∧ restartSent.held = false
    ∧ restartSent.restartSent = true := by decide

/-- A part in NORMAL whose panel A is enabled, with a grant of its panel load. -/
def powered (grant : Nat) (scan : ScanState) : State :=
  let x := { PanelState.reset with inForce := { PanelCfg.reset with enable := true }, scan := scan }
  { live with
    pxp := { Pxp.reset with panels := ⟨x, PanelState.reset⟩ }
    pmg := { Pmg.reset with
      state := .normal, budget := 2000, loads := tabMod Pmg.reset.loads 0 fun l => { l with request := 900, grant := grant } } }

theorem witness_AllocationFitsBudget :
    (∀ i : Fin 8, exampleLoads[i].priority ≤ 7)
      ∧ (allLoads.map fun i => min exampleLoads[i].floor exampleLoads[i].request).sum ≤ 2320
      ∧ 0 < (powered 900 .active).pmg.loads[0].grant ∧ (powered 0 .off).pmg.loads[0].grant = 0
      ∧ ((powered 0 .off).panel .a).scan = .off ∧ ((powered 0 .off).panel .a).inForce.enable = true
      ∧ ((powered 0 .off).allocate.pmg.loads[0]).grant = 900 ∧ ((powered 0 .blank).panel .a).scan ≠ .off
      ∧ (((powered 900 .active).onPmg fun p => { p with budget := 0 }).allocate.pmg.loads[0]).grant = 0
      ∧ live.ftm.scanning = none ∧ (strobing .on .active 11111).ftm.scanning.isSome = true := by decide +kernel

theorem witness_EventIsTakenByUnit :
    let off := Evu.reset
    let one : Evu := { Evu.reset with queue := [someNotice] }
    off.table[EventKind.frameReport.code].enable = false
      ∧ one.table[EventKind.linkLock.code].enable = true ∧ one.table[EventKind.linkLock.code].coalesce = true
      ∧ one.queue = [] ++ someNotice :: [] ∧ someNotice.kind = .linkLock
      ∧ one.table[EventKind.pollError.code].enable = true ∧ (∀ m ∈ one.queue, m.kind ≠ .pollError) ∧ one.queue.length < 16
      ∧ (∀ m ∈ one.queue, one.table[EventKind.pollError.code].priority ≤ m.priority)
      ∧ fullQueue.table[EventKind.frameReport.code].enable = true ∧ fullQueue.table[EventKind.frameReport.code].coalesce = false
      ∧ 16 ≤ fullQueue.queue.length ∧ fullQueue.queue = fullQueue.queue.dropLast ++ [fullQueue.queue.getLast (by decide)]
      ∧ fullQueue.table[EventKind.frameReport.code].priority ≤ (fullQueue.queue.getLast (by decide)).priority
      ∧ (fullQueue.queue.getLast (by decide)).priority < fullQueue.table[EventKind.pollError.code].priority
      ∧ (∀ m ∈ fullQueue.queue.take 6, fullQueue.table[EventKind.pollError.code].priority ≤ m.priority)
      ∧ ∀ m ∈ fullQueue.queue.drop 6, m.priority < fullQueue.table[EventKind.pollError.code].priority := by decide +kernel

/-! ### Witnesses of the remaining clauses -/

/-- The entry a validated write of one entry stores. -/
def storedEntry : WriteOutcome → Option EntryValues
  | .store [e] _ => some e
  | .store _ _ => none
  | .refused _ => none

/-- A queued poll entry with its trigger at an oscillator count. -/
def waitingPoll (e : Fin 8) (stamp : Nat) : Queued :=
  { entry := e, trigger := 0, stamp := stamp, timeUnset := true, decimated := false, late := false }

/-- Poll entry 3, READY on line 2 of a bus with decimate 2, and the two buses in states with queues, at oscillator count 50. -/
def readying (b : Bus) (edges : Nat) (serial wire : BusState) (serialQ wireQ : List Queued) : State :=
  let c : PollCfg := { PollCfg.reset with enable := true, bus := b, ready := true, readyLine := 2, decimate := 2 }
  { live with
    clock := { live.clock with osc := 50 }
    mou := { Mou.reset with
      sensorClass := .full
      poll := tabMod Mou.reset.poll 3 fun p => { p with cfg := c, edgeCount := edges }
      serial4 := { Mou.reset.serial4 with state := serial, queue := serialQ }
      twoWire := { Mou.reset.twoWire with state := wire, queue := wireQ } } }

/-- The words of a POLL write: enable, bus, READY, and the other fields in range. -/
def pollWords (enable bus ready : Word) : List Word := entryWords [enable, bus, 1, 0, 16, ready, 2, 5, 3, 0] 17

/-- A POLL store switches a queued entry off, moves it to a bus in FAULT, at work, or idle, or leaves it where it is. -/
theorem witness_WritesOfUnitTables_poll :
    let stored (s : State) (ws : List Word) (enable : Bool) (b : Bus) : Prop :=
      (storedEntry (s.judgeWrite .poll 3 1 ws)).map (fun e => (e.pollCfg.enable, e.pollCfg.bus)) = some (enable, b)
    let onSerial (st : BusState) (q : List Queued) : State := readying .serial4 1 .busy st [waitingPoll 3 50] q
    let onWire : State := readying .twoWire 1 .idle .busy [] [waitingPoll 3 50]
    (onSerial .fault []).serves (rq (pollWords 1 1 0) 3) ∧ stored (onSerial .fault []) (pollWords 1 1 0) true .twoWire
      ∧ stored (onSerial .fault []) (pollWords 0 1 0) false .twoWire ∧ stored onWire (pollWords 1 0 1) true .serial4
      ∧ stored onWire (pollWords 1 1 1) true .twoWire ∧ (onSerial .busy []).mou.poll[3].cfg.bus ≠ .twoWire
      ∧ (onSerial .busy []).queuedOf 3 = some (waitingPoll 3 50) ∧ (readying .serial4 1 .busy .idle [] []).queuedOf 3 = none
      ∧ (onSerial .busy [waitingPoll 2 50, waitingPoll 4 50]).mou.twoWire.queue = [waitingPoll 2 50] ++ [waitingPoll 4 50]
      ∧ onWire.mou.serial4.state = .idle ∧ onWire.mou.relay = none ∧ onWire.mou.serial4.queue = []
      ∧ (onSerial .idle []).mou.twoWire.state = .idle ∧ (onSerial .idle []).mou.twoWire.queue = []
      ∧ (onSerial .idle []).mou.twoWire.recPending = none := by
  refine ⟨⟨rfl, rfl, rfl, by decide, by decide, rfl⟩, ?_⟩
  decide +kernel

/-- A MOTION store with the batch condition met and not met; an AUDIO store that reaches the fill and one that does not; stores
that change each of the powers. -/
theorem witness_WritesOfUnitTables_more :
    let records (n : Nat) : State := live.onMou fun m => { m with fifo := (flushing 0).mou.fifo.take n }
    let values (t : Table) (ws : List Word) (k : Nat) : Option Nat :=
      (storedEntry (live.judgeWrite t 0 1 ws)).map fun e => e.num k
    let audio := entryWords [6, 32768, 0, 600, 1] 22
    (∀ r ∈ (records 5).mou.fifo, r.payload.length ≤ 16) ∧ (records 5).ltx.motion.length < 8 ∧ (records 5).mou.fifo ≠ []
      ∧ values .motion (entryWords [5, 2000, 150] 16) 0 = some 5 ∧ 5 ≤ (records 5).mou.fifo.length
      ∧ ¬ 5 ≤ (records 4).mou.fifo.length
      ∧ values .panel (entryWords [1, 64, 64, 100, 0, 0, 900] 21) 6 = some 900 ∧ (live.panel .a).written.fullPower ≠ 900
      ∧ values .audio audio 0 = some 6 ∧ values .audio audio 3 = some 600 ∧ live.auu.ampPower ≠ 600 ∧ live.auu.micOn = false
      ∧ values .pattern (entryWords [24, 200, 1, 4, 47, 700, 2] 10) 5 = some 700 ∧ live.pte.hapticPower ≠ 700 := by
  decide +kernel

/-- A generator at a frame start, in a state and due to schedule a pulse an offset after it, or not. -/
def starting (st : ExpState) (enable : Bool) (offset : Nat) : State :=
  let c : ExpCfg := { enable := enable, aEnd := false, offset := offset, width := 1000, divider := 1, line := 6 }
  (scheduled 11111 .running).onFtm fun t => { t with gens := ⟨{ Generator.reset with state := st, written := c }, t.gens.b⟩ }

/-- The hypotheses of a generator's clause at the frame start of frame 101. -/
abbrev startsWith (st : ExpState) (enable : Bool) (offset : Nat) : Prop :=
  let s := starting st enable offset
  s.held = false ∧ s.frameStartDue = true ∧ s.lrx.tt = 11111 ∧ s.ftm.written.period = 11111 ∧ s.ftm.gens.a.state = st
    ∧ s.ftm.gens.a.written = { ExpCfg.reset with enable := enable, offset := offset, width := 1000 }
    ∧ (101 : FrameNo).toNat % s.ftm.gens.a.written.divider = 0

theorem witness_FrameStartNumbersAndPlacesFrames_generators :
    startsWith .idle false 0 ∧ startsWith .idle true 11111 ∧ startsWith .idle true 11110 ∧ startsWith .pending false 0
      ∧ startsWith .pending true 11111 ∧ startsWith .pending true 11110 ∧ startsWith .on false 0 ∧ startsWith .on true 0
      ∧ ((22222 : Time) - (11111 + BitVec.ofNat 32 11111)).toInt ≤ 0
      ∧ 0 < ((22222 : Time) - (11111 + BitVec.ofNat 32 11110)).toInt := by decide +kernel

/-- The numbers and the display state by which a frame start raises its notices. -/
theorem witness_FrameStartNumbersAndPlacesFrames_notices :
    let s (display : DisplayState) (linkedMode : Bool) (noTarget : Nat) : State := (scheduled 11111 .running).onFtm fun t =>
      { t with display := display, written := { t.written with linked := linkedMode }, noTarget := noTarget, renumber := some 7 }
    (s .free true 0).ftm.renumber = some 7 ∧ (s .free true 0).ftm.schedule ≠ .starting ∧ (s .locked false 0).ftm.display = .locked
      ∧ (s .locked true 7).ftm.targetTaken = false ∧ 8 ≤ (s .locked true 7).ftm.noTarget + 1
      ∧ (scheduled 11111 .running).ftm.renumber = none := by decide

/-- The pictures of a frame start: panels that begin a scan or do not, with and without a SCANNING record, strobe in time or not. -/
theorem witness_FrameStartNumbersAndPlacesFrames_pictures :
    let begins (s : State) : Bool := (s.panel .a).written.enable && decide (0 < s.pmg.loads[0].grant)
    let on := ((powered 900 .waiting).onPanel .a fun x => { x with written := x.inForce }).onFtm fun t =>
      { t with scanFrame := some 20, scanning := some (FrameRec.fresh 20 0), sF := 100, sNext := 11211 }
    let off := on.onPmg fun p => { p with loads := tabMod p.loads 0 fun l => { l with grant := 0 } }
    on.ftm.scanFrame = some 20 ∧ begins on = true ∧ ((on.panel .a).strobe ≠ .held)
      ∧ 0 < (on.ftm.sNext - (on.ftm.sF + BitVec.ofNat 32 (on.panel .a).written.strobeOffset)).toInt
      ∧ off.ftm.scanFrame = some 20 ∧ begins off = false ∧ (off.panel .b).written.enable = false
      ∧ off.ftm.scanning = some (FrameRec.fresh 20 0) := by decide +kernel

/-- The records of a frame start: an upcoming record evaluated or OPEN, and a SCANNING one with an ACTIVE scan. -/
theorem witness_FrameStartNumbersAndPlacesFrames_records :
    let evaluated := (scheduled 11111 .running).onFtm fun t => { t with upcoming := t.upcoming.map fun r => { r with state := .evaluated } }
    (evaluated.ftm.upcoming.map FrameRec.state) = some .evaluated
      ∧ ((scheduled 11111 .running).ftm.upcoming.map FrameRec.state) = some .opened
      ∧ (strobing .on .active 11111).ftm.scanning.isSome = true ∧ ((strobing .on .active 11111).panel .a).scan = .active := by
  decide +kernel

/-- Pose cases of an evaluation: none, at now, ahead of now, before the history, with an empty history. -/
theorem witness_EvaluationSetsAnglesAndShifts_more :
    let posed (p : Option Time) (h : List GyroEntry) : State := ((evaluating 1000).onFtm fun t =>
      { t with upcoming := t.upcoming.map fun r => { r with pose := p } }).onMou fun m => { m with history := h }
    let meets (p : Option Time) (h : List GyroEntry) : Prop :=
      (posed p h).held = false ∧ (posed p h).evaluationDue = true ∧ ((posed p h).ftm.upcoming.map FrameRec.pose) = some p
        ∧ (posed p h).lrx.tt = 1012000
    meets none [] ∧ meets (some 1012000) [] ∧ meets (some 1012001) [] ∧ meets (some 1000000) []
      ∧ meets (some 999499) (gyroHistory 6000) ∧ 0 < ((1012000 : Time) - 999499).toInt
      ∧ ((gyroHistory 6000).head?.map fun e => decide (0 < (e.time - 999499).toInt)) = some true
      ∧ ((gyroHistory 6000).head?.map fun e => decide (0 < (e.time - 999500).toInt)) = some false := by decide +kernel

/-- Rising edges of line 2: the one READY entry that listens, its count short of the trigger or at it, its bus in each state. -/
theorem witness_LinesFollowPinsAndPulses_edges :
    let listens (s : State) (e : Fin 8) : Prop :=
      s.mou.poll[e].cfg.enable = true ∧ s.mou.poll[e].cfg.ready = true ∧ s.mou.poll[e].cfg.readyLine = 2
    let triggers (s : State) : Prop :=
      s.mou.poll[3].cfg.decimate * (if s.mou.sensorClass = .reduced then 2 else 1) ≤ s.mou.poll[3].edgeCount + 1
    let wire (edges : Nat) (st : BusState) (q : List Queued) := readying .twoWire edges .idle st [] q
    let pin : State := live.onStu fun u => { u with pins := u.pins.set 2 false }
    (∀ e, ¬ listens live e) ∧ listens (wire 0 .idle []) 3 ∧ (∀ e, e ≠ 3 → ¬ listens (wire 0 .idle []) e)
      ∧ ¬ triggers (wire 0 .idle []) ∧ triggers (wire 1 .idle []) ∧ (wire 1 .fault []).mou.twoWire.state = .fault
      ∧ (wire 1 .busy [waitingPoll 3 50]).isQueued 3 = true ∧ (wire 1 .busy []).isQueued 3 = false
      ∧ (wire 1 .busy [waitingPoll 2 50, waitingPoll 4 50]).mou.twoWire.queue = [waitingPoll 2 50] ++ [waitingPoll 4 50]
      ∧ (wire 1 .idle []).mou.relay = none ∧ (wire 1 .idle []).mou.twoWire.recPending = none
      ∧ (wire 1 .idle []).mou.sensorClass ≠ .suspended ∧ (readying .serial4 1 .idle .idle [] []).mou.serial4.state = .idle
      ∧ triggers (readying .serial4 1 .idle .idle [] []) ∧ pin.held = false ∧ pin.stu.pins[2] ≠ true
      ∧ pin.stu.lines[2].source = .input ∧ pin.claimed 2 = false := by decide +kernel

/-- The last line-out with a SCANNING record: the strobe still PENDING, the other panel pending, and the last panel pending. -/
theorem witness_LineOutSendsLine_last :
    let s (strobe : StrobeState) (pend : Duo Bool) : State := ((scanningPanel 2 0).onPanel .a fun x =>
      { x with strobe := strobe }).onFtm fun t =>
        { t with pendingPanels := pend, scanning := some { FrameRec.fresh 20 0 with state := .scanning } }
    let meets (strobe : StrobeState) (pend : Duo Bool) : Prop :=
      (s strobe pend).held = false ∧ (s strobe pend).lineDue .a = true ∧ ((s strobe pend).panel .a).pos + 1 + 1 = 2
        ∧ ((s strobe pend).panel .a).strobe = strobe ∧ (s strobe pend).ftm.pendingPanels = pend
        ∧ (s strobe pend).ftm.scanning.isSome = true
    meets .pending ⟨true, false⟩ ∧ meets .idle ⟨true, true⟩ ∧ meets .held ⟨true, false⟩
      ∧ (scanningPanel 2 0).ftm.scanning = none := by decide +kernel

/-- Completions of IMU6 with FIFO on, at a full MOTION queue, and at a full sample FIFO. -/
theorem witness_TransactionCompletes_fifo :
    let bytes : List Byte := List.replicate 12 0
    let s (motion records : Nat) : State := ((transacting .twoWire .imu6 true []).onMou fun m =>
      { m with fifo := List.replicate records ((flushing 0).mou.fifo.headD
        { kind := .raw, entry := 0, timeUnset := false, gap := false, decimated := false, late := false, time := 0
          payload := [], joined := 0 }) }).onLtx fun t => { t with motion := List.replicate motion [0, 0, 0, 0] }
    let meets (motion records : Nat) : Prop :=
      (s motion records).held = false ∧ (s motion records).mou.twoWire.poll.isSome = true
        ∧ ((s motion records).mou.twoWire.poll.map fun w => (w.cfg.length, w.cfg.toFifo, w.cfg.kind)) =
          some (bytes.length, true, .imu6)
        ∧ (s motion records).mou.relay = none ∧ (s motion records).mou.twoWire.queue = []
        ∧ (s motion records).mou.twoWire.recPending = none
    meets 0 0 ∧ (s 0 0).mou.fifo.length + 1 < (s 0 0).mou.watermark ∧ (s 0 0).flushDue = false ∧ 0 < (s 0 0).mou.flushTimeout
      ∧ meets 8 63 ∧ 8 ≤ (s 8 63).ltx.motion.length ∧ (s 8 63).mou.fifo.length < 64
      ∧ meets 8 64 ∧ 64 ≤ (s 8 64).mou.fifo.length := by decide +kernel

/-- Completions with work waiting: a recovery pending, a relay WAITING, and the head of the queue. -/
theorem witness_TransactionCompletes_waiting :
    let ended (b : Bus) : State := transacting b .raw false []
    let relay (b : Bus) : Relay :=
      { bus := b, device := 1, writeBytes := [7], readLen := 0, waitAfter := 0, phase := .waiting, waitEnd := 0 }
    let relayWaits (b : Bus) : State := (ended b).onMou fun m => { m with relay := some (relay b) }
    let queued (b : Bus) : State := (ended b).onBus b fun c => { c with queue := [waitingPoll 2 50] }
    let pending : State := (ended .twoWire).onBus .twoWire fun c => { c with recPending := some .command }
    let meets (s : State) (b : Bus) : Prop :=
      s.held = false ∧ ((s.bus b).poll.map fun w => (w.cfg.length, w.cfg.kind, w.cfg.toFifo)) = some (12, .raw, false)
    meets pending .twoWire ∧ pending.mou.twoWire.recPending = some .command
      ∧ meets (relayWaits .serial4) .serial4 ∧ (relayWaits .serial4).mou.relay = some (relay .serial4)
      ∧ meets (relayWaits .twoWire) .twoWire ∧ (relayWaits .twoWire).mou.relay = some (relay .twoWire)
      ∧ (relayWaits .twoWire).mou.twoWire.recPending = none
      ∧ meets (queued .serial4) .serial4 ∧ (queued .serial4).mou.serial4.queue = waitingPoll 2 50 :: []
      ∧ (queued .serial4).mou.relay = none ∧ meets (queued .twoWire) .twoWire
      ∧ (queued .twoWire).mou.twoWire.queue = waitingPoll 2 50 :: [] ∧ (queued .twoWire).mou.twoWire.recPending = none := by
  decide +kernel

/-- A recovery that fails with a relay WAITING on TWO_WIRE, and with one on SERIAL4. -/
theorem witness_RecoveryRunsOnTwoWire_failure :
    let s (b : Bus) (ph : RelayPhase) (forRelay : Bool) : State := (relaying b ph 4 0).onBus .twoWire fun c =>
      { c with state := .recovering, recovery := some ⟨.lineLow, forRelay⟩ }
    let meets (b : Bus) (ph : RelayPhase) (forRelay : Bool) : Prop :=
      (s b ph forRelay).held = false ∧ (s b ph forRelay).mou.twoWire.recovery = some ⟨.lineLow, forRelay⟩
        ∧ ((s b ph forRelay).mou.relay.map fun x => (x.bus, x.phase)) = some (b, ph) ∧ (s b ph forRelay).mrs.slot.isSome = true
    meets .twoWire .waiting false ∧ meets .twoWire .read true ∧ meets .serial4 .read false := by decide +kernel

/-- A malformed block, a full buffer, and a cell that changes no load request. -/
theorem witness_AudioCellsFillBuffer_more :
    let cell (len : Nat) : RxCell := cellOf 5 .data 40 len
    let s (len blocks : Nat) : State := ((((steered (some .audio) len).onStream 5 fun e =>
      { e with tracking := true, lastSeq := 39 }).onAuu fun a =>
        { a with state := .playing, owner := 5, buffer := List.replicate blocks silence })).onPmg fun p =>
          { p with loads := tabMod p.loads 4 fun l => { l with request := 500 } }
    arrives (s 4 24) 4 ∧ (cell 4).len ≠ 32 ∧ (s 4 24).auu.buffer.length = 24 ∧ (s 4 24).auu.state ≠ .stopped
      ∧ (s 4 24).auu.owner = (cell 4).sn.val ∧ (s 4 24).requestChanged = false
      ∧ ((s 4 24).stu.written.toList.find? fun w => w.hits 5).map Window.destination = some .audio := by decide +kernel

/-- The service order of chapter 10's loads. -/
theorem witness_AllocationFitsBudget_order :
    let order : List (Fin 8) := [0, 1, 6, 2, 3, 4, 5, 7]
    order.Nodup ∧ (∀ i, i ∈ order) ∧ (∀ i : Fin 8, exampleLoads[i].priority ≤ 7)
      ∧ order.Pairwise fun i j => exampleLoads[j].priority < exampleLoads[i].priority
        ∨ (exampleLoads[i].priority = exampleLoads[j].priority ∧ i < j) := by decide +kernel

/-! ### Steps that the rules fix -/

/-- R182: full power 1000 at brightness 500 becomes 500 at 1000: the request stays 489 (R172), the ceiling is formed afresh. -/
theorem test_full_power_refreshes_ceiling :
    let x : PanelState := { PanelState.reset with
      written := { PanelCfg.reset with enable := true, width := 64, height := 64, linePeriod := 100, brightness := 500 }
      inForce := { PanelCfg.reset with enable := true, width := 64, height := 64 }, scan := .active }
    let s := ((powered 900 .active).onPanel .a fun _ => x).onPmg fun p => { p with
      loads := tabMod p.loads 2 fun l => { l with request := 489, grant := 489 }, ceilings := ⟨500, 0⟩ }
    let t := run (.writePanel (rq (entryWords [1, 64, 64, 100, 0, 1000, 500] 21))) s
    t.pmg.loads[2].grant = 489 ∧ t.pmg.ceilings.a = 1000 := by decide +kernel

/-- R23, R193: at the restart the U-lane runs on with an IDLE cell, and a second row for the same restart changes nothing. -/
theorem test_restart_keeps_lane_running :
    let t := run .restartTakesEffect restartSent
    t.ltx.tx.map TxCell.source = some .idle ∧ t.outputs.uLane = (run .cellBoundary restartSent).outputs.uLane
      ∧ run .restartTakesEffect t = t := by decide +kernel

/-- R155, R158, R164: a PLAY that displaces a NEGATIVE pattern on channel H begins a dead time of 2 µs, 50 ticks rounded up, at
once; with a POSITIVE one there is no reversal. -/
theorem test_preemption_reverses :
    let after (negative : Bool) : Pte := (run (.play (rq [1, 12, 1, 5])) (playing .h 0 1000 4 negative)).pte
    (after true).deadEnd = some 1050 ∧ (after true).negative = false ∧ (after false).deadEnd = none
      ∧ (after true).hp = false ∧ (after true).hn = false := by decide +kernel

/-- R96: a scan cut at a frame start moves the window past the lines that the rest of the scan would have freed. -/
theorem test_cut_frees_window :
    let l (n : Nat) : RingLine := { frame := 20, line := n, pixels := [] }
    let s := (scanningPanel 64 0).onPanel .a fun x => { x with ring := [l 47, l 48] }
    (((s.cutScan .a (some 20)).panel .a).ring, ((s.cutScan .a (some 20)).panel .a).pos) = ([l 48], 64) := by decide +kernel

/-- R128: HISTORY_SHORT follows t_1 − P alone, also where t_1 is more than 2^31 µs before now. -/
theorem test_short_history_by_difference :
    let h (t : Time) : List GyroEntry := [{ time := t, yaw := 0, pitch := 0, roll := 0 }]
    shortHistory 1000 (h 1001) = true ∧ shortHistory 1000 (h 1000) = false ∧ shortHistory 1000 (h 0x80000500) = false := by
  decide

/-- The state after reset is safe, and its idle step answers a next state: the invariants' hypotheses are met. -/
theorem witness_StepKeeps : State.reset.safe ∧ ∃ t, step State.reset = .next t := by
  refine ⟨⟨by decide, by decide, ?_, by decide +kernel, by decide, ?_, ?_, by decide, by decide⟩, _, rfl⟩
  · exact ⟨⟨fun _ => rfl, by decide, fun _ h => nomatch h⟩, ⟨fun _ => rfl, by decide, fun _ h => nomatch h⟩⟩
  · exact ⟨by simp [State.reset, Lrx.reset], by decide +kernel, by decide, by decide, by decide, by decide, by decide,
    by decide⟩
  · exact ⟨by decide, by decide, by simp [State.reset, Ftm.reset], by simp [State.reset, Ftm.reset],
      by simp [State.reset, Ftm.reset], by decide, by decide⟩

end Sys2Proof.Tests
end

section
/-! Test mode (R16): the two commands that set it, the two resets that end it, and the header judgement that leaves it alone. -/

namespace Sys2Proof.Machine

open Sys2Proof

/-! ### TEST_START and TEST_STOP -/

/-- A served request that changes only the link receiver and is then answered. -/
theorem State.countTaken_onLrx_answerWith (s : State) (f : Lrx → Lrx) (code : Byte) (r : Request) (st : Status) :
    (s.countTaken.onLrx f).answerWith code r st = { s.answered code r st [] with lrx := f s.lrx } := rfl

theorem State.doTestStart_of_noData (s : State) (code : Byte) {r : Request} (h : r.data = []) :
    s.doTestStart code r =
      (s.onLrx fun l => { l with testMode := true, testCells := 0, testBitErrors := 0 }).answerWith code r .ok :=
  if_neg (by simp [h])

theorem State.doTestStop_of_noData (s : State) (code : Byte) {r : Request} (h : r.data = []) :
    s.doTestStop code r = (s.onLrx fun l => { l with testMode := false }).answerWith code r .ok :=
  if_neg (by simp [h])

theorem exec_testStart {s : State} {r : Request} (h : s.serves r) :
    exec (.testStart r) s = .next (s.countTaken.doTestStart 7 r) := by
  show Host.Outcome.next (s.live fun s => s.request 3 7 r) = _
  rw [State.live_of_free _ h.1, State.request_command h]
  rfl

theorem exec_testStop {s : State} {r : Request} (h : s.serves r) :
    exec (.testStop r) s = .next (s.countTaken.doTestStop 8 r) := by
  show Host.Outcome.next (s.live fun s => s.request 3 8 r) = _
  rw [State.live_of_free _ h.1, State.request_command h]
  rfl

/-! ### The resets -/

theorem exec_powerOnResetEnds {s : State} (c : ResetCause) (h : s.held = true) :
    exec (.powerOnResetEnds c) s = .next (s.resetAll (s.hold.drop c)) :=
  congrArg _ (if_pos h)

theorem exec_restartTakesEffect {s : State} (h : s.held = false) (hr : s.restartSent = true) :
    exec .restartTakesEffect s = .next s.restartBoundary := by
  show Host.Outcome.next (s.live fun s => if s.restartSent then s.restartBoundary else s) = _
  rw [State.live_of_free _ h, if_pos hr]

/-- The pick that follows the restart leaves the link receiver alone. -/
theorem State.restartBoundary_lrx (s : State) : s.restartBoundary.lrx = s.lrx.restarted :=
  s.restart.pick_within.lrx.resolve_left (by decide)

/-! ### The header judgement -/

theorem State.lockLost_testMode (s : State) : s.lockLost.lrx.testMode = s.lrx.testMode := by
  simp [State.lockLost]

theorem State.goodHeader_testMode (s : State) (b0 b1 b2 : Byte) :
    (s.goodHeader b0 b1 b2).lrx.testMode = s.lrx.testMode := by
  unfold State.goodHeader
  split
  case h_1 => rfl
  case h_2 => split <;> simp [Lrx.goodHeader]
  case h_3 => rfl

theorem State.badHeader_testMode (s : State) : s.badHeader.lrx.testMode = s.lrx.testMode := by
  unfold State.badHeader
  split
  case h_1 => rfl
  case h_2 => rfl
  case h_3 =>
    split
    · exact State.lockLost_testMode _
    · rfl

theorem State.judgeHeader_testMode (s : State) (b0 b1 b2 b3 : Byte) :
    (s.judgeHeader b0 b1 b2 b3).lrx.testMode = s.lrx.testMode := by
  unfold State.judgeHeader
  split
  · exact s.goodHeader_testMode b0 b1 b2
  · exact s.badHeader_testMode

theorem exec_headerJudgement {s : State} (b0 b1 b2 b3 : Byte) (h : s.held = false) :
    exec (.headerJudgement b0 b1 b2 b3) s =
      .next (if s.lrx.cell.isSome then s else s.edged fun s => s.judgeHeader b0 b1 b2 b3) := by
  show Host.Outcome.next
    (s.live fun s => if s.lrx.cell.isSome then s else s.edged fun s => s.judgeHeader b0 b1 b2 b3) = _
  rw [State.live_of_free _ h]

/-- A header judgement keeps test mode, whatever the lock state and whether the judgement leaves LOCKED (R16). -/
theorem exec_headerJudgement_testMode {s : State} (b0 b1 b2 b3 : Byte) (h : s.held = false) :
    ∃ t, exec (.headerJudgement b0 b1 b2 b3) s = .next t ∧ t.lrx.testMode = s.lrx.testMode := by
  refine ⟨_, exec_headerJudgement b0 b1 b2 b3 h, ?_⟩
  split
  · rfl
  · obtain ⟨m, hm⟩ := s.edged_eq_mou fun s => s.judgeHeader b0 b1 b2 b3
    rw [hm]
    exact s.judgeHeader_testMode b0 b1 b2 b3

/-- Settles O30: each command and each reset by the row's equation, the header judgement by its branches. -/
theorem testModeFollowsCommands : Obligations.TestModeFollowsCommands := by
  unfold Obligations.TestModeFollowsCommands
  refine ⟨fun r s hs hd => ⟨?start, ?stop⟩, fun c s hh => ⟨_, exec_powerOnResetEnds c hh, rfl⟩,
    fun s hh hr => ⟨_, exec_restartTakesEffect hh hr, ?restart⟩,
    fun b0 b1 b2 b3 s hh _ => exec_headerJudgement_testMode b0 b1 b2 b3 hh⟩
  case start => rw [exec_testStart hs, State.doTestStart_of_noData _ _ hd, State.countTaken_onLrx_answerWith]
  case stop => rw [exec_testStop hs, State.doTestStop_of_noData _ _ hd, State.countTaken_onLrx_answerWith]
  case restart => rw [State.restartBoundary_lrx]; rfl

end Sys2Proof.Machine
end

section
/-! The budget (R176): when it is formed, the allocation that follows it, the field that shows it, and its reset value. -/

namespace Sys2Proof.Machine

open Sys2Proof

/-! ### The formula -/

/-- R176's formula for each power state, over the integers as the spec writes it. -/
def budgetFormula (c : PowerCfg) : PowerState → Nat
  | .held => 0
  | .trip => 0
  | .normal => (max 0 ((c.limit : Int) - c.reserve)).toNat
  | .constrained => (max 0 (((c.limit * 3 / 4 : Nat) : Int) - c.reserve)).toNat
  | .shed => (max 0 (((c.limit / 2 : Nat) : Int) - c.reserve)).toNat

/-- Natural subtraction is the integer difference cut off at 0. -/
theorem sub_eq_toNat_max (n r : Nat) : n - r = (max 0 ((n : Int) - r)).toNat := by omega

theorem budgetOf_eq_budgetFormula (c : PowerCfg) (st : PowerState) : budgetOf c st = budgetFormula c st := by
  cases st with
  | held => rfl
  | trip => rfl
  | normal => exact sub_eq_toNat_max _ _
  | constrained => exact sub_eq_toNat_max _ _
  | shed => exact sub_eq_toNat_max _ _

/-! ### Budget and allocation -/

/-- The budget is that of the power state and the values in force, and the loads are those of an allocation of it. -/
def Pmg.Budgeted (p : Pmg) : Prop :=
  p.budget = budgetOf p.cfg p.state ∧ ∃ v, p.loads = allocated v p.state (budgetOf p.cfg p.state)

/-- An allocation leaves the values in force, the power state and the budget alone, and its grants are of that budget. -/
theorem State.allocate_pmg (s : State) :
    s.allocate.pmg.cfg = s.pmg.cfg ∧ s.allocate.pmg.state = s.pmg.state ∧ s.allocate.pmg.budget = s.pmg.budget
      ∧ s.allocate.pmg.loads = allocated s.requested s.pmg.state s.pmg.budget := by
  obtain ⟨-, hpmg, -⟩ := s.allocate_spec
  rw [hpmg]
  exact ⟨rfl, rfl, rfl, rfl⟩

theorem State.budgetAndAllocate_cfg (s : State) : s.budgetAndAllocate.pmg.cfg = s.pmg.cfg :=
  (State.allocate_pmg _).1

theorem State.budgetAndAllocate_state (s : State) : s.budgetAndAllocate.pmg.state = s.pmg.state :=
  (State.allocate_pmg _).2.1

/-- The budget is formed before the allocation, which is therefore one of the new budget. -/
theorem State.budgetAndAllocate_budgeted (s : State) : s.budgetAndAllocate.pmg.Budgeted := by
  obtain ⟨hcfg, hstate, hbudget, hloads⟩ :=
    (s.onPmg fun p => { p with budget := budgetOf p.cfg p.state }).allocate_pmg
  unfold Pmg.Budgeted State.budgetAndAllocate
  rw [hcfg, hstate]
  exact ⟨hbudget, _, hloads⟩

/-! ### Changes of the power state and stores of the power table -/

/-- Of what a change of the power state hands out, nothing reaches the power manager. -/
theorem State.moveState_pmg (s : State) (new : PowerState) (why : PowerCause) :
    (s.moveState new why).pmg = s.pmg.toState new :=
  (State.handTrip_within _ _ _).pmg.resolve_left (by decide)

/-- A change to another power state: the values in force stay, and budget and allocation follow it. -/
theorem State.powerTo_budgeted {s : State} {new : PowerState} (why : PowerCause) (h : s.pmg.state ≠ new) :
    (s.powerTo new why).pmg.cfg = s.pmg.cfg ∧ (s.powerTo new why).pmg.state = new
      ∧ (s.powerTo new why).pmg.Budgeted := by
  unfold State.powerTo
  rw [if_neg h, State.budgetAndAllocate_cfg, State.budgetAndAllocate_state, s.moveState_pmg]
  exact ⟨rfl, rfl, State.budgetAndAllocate_budgeted _⟩

/-- A store puts its values in force, whether or not the power state moves, and budget and allocation follow it. -/
theorem State.storePower_budgeted (s : State) (c : PowerCfg) :
    (s.storePower c).pmg.cfg = c ∧ (s.storePower c).pmg.Budgeted := by
  refine ⟨?_, State.budgetAndAllocate_budgeted _⟩
  simp only [State.storePower, State.budgetAndAllocate_cfg]
  split
  · rfl
  · rw [State.moveState_pmg]; rfl

/-! ### The field and the reset value -/

theorem State.readEntry_power_budget (s : State) :
    (s.readEntry .power 0)[9]? = some (BitVec.ofNat 32 s.pmg.budget) := rfl

theorem State.resetAll_budget (s : State) (h : ResetHold) : (s.resetAll h).pmg.budget = 0 := rfl

/-- The pick that follows the restart leaves the power manager alone. -/
theorem State.restartBoundary_pmg (s : State) : s.restartBoundary.pmg = s.restart.pmg :=
  s.restart.pick_within.pmg.resolve_left (by decide)

theorem State.restartBoundary_budget (s : State) : s.restartBoundary.pmg.budget = 0 := by
  rw [s.restartBoundary_pmg]; rfl

/-- Settles O52: each change of state and each store ends with budget and allocation, and both resets give budget 0. -/
theorem budgetFollowsPowerState : Obligations.BudgetFollowsPowerState := by
  unfold Obligations.BudgetFollowsPowerState
  intro budget
  have formula (c : PowerCfg) (st : PowerState) : budgetOf c st = budget c st := budgetOf_eq_budgetFormula c st
  refine ⟨fun s new why h => ?change, fun s c => ?store, State.readEntry_power_budget,
    fun s h => ⟨_, exec_powerOnResetEnds .rstn h, s.resetAll_budget _⟩,
    fun s h hr => ⟨_, exec_restartTakesEffect h hr, s.restartBoundary_budget⟩⟩
  case change =>
    obtain ⟨hcfg, hstate, hbudget, hloads⟩ := State.powerTo_budgeted why h
    rw [hcfg, hstate, formula] at hbudget hloads
    exact ⟨hstate, hbudget, hloads⟩
  case store =>
    obtain ⟨hcfg, hbudget, hloads⟩ := s.storePower_budgeted c
    rw [hcfg, formula] at hbudget hloads
    exact ⟨hcfg, hbudget, hloads⟩

end Sys2Proof.Machine
end

section
/-! What one step can do, said once: the acts of the rows in a part that is not held, and the effects of a request that is
taken. Every invariant is carried over these cases and over the rising edges handed on at a row's end (R38). -/

namespace Sys2Proof.Machine

open Sys2Proof

/-- What one row can do to a part, but for the rising edges that are handed on at its end: each act with what the row has
found before it acts. -/
inductive Act (s : State) : State → Prop
  | idle : Act s s
  | reset (h : ResetHold) : Act s (s.resetAll h)
  | pins (i : Fin 6) (l : Bool) : Act s (s.onStu fun u => { u with pins := u.pins.set i l })
  | header (b0 b1 b2 b3 : Byte) (h : s.lrx.cell = none) : Act s (s.judgeHeader b0 b1 b2 b3)
  | arrival (c : RxCell) (payload : List Byte) (p0 p1 : Byte) (h : s.lrx.cell = some c) : Act s (s.arrive c payload p0 p1)
  | slewEnd (h : s.lrx.slewOver = true) :
      Act s (s.onLrx fun l => { l with timeState := .running, slewHalf := false })
  | restart : Act s s.restartBoundary
  | pick : Act s s.pick
  | request (op : Nat) (table : Byte) (r : Request) : Act s (s.request op table r)
  | imageHeader (w0 w1 : Word) (h : s.cfl.state = .loading) : Act s (s.imageHeader w0 w1)
  | imageBody (body : List Word) (h : s.cfl.state = .loading) : Act s (s.imageBody body)
  | imageRecord (w : Word) (data : List Word) (h : s.cfl.state = .loading) : Act s (s.imageRecord w data)
  | frameStart (h : s.frameStartDue = true) : Act s s.frameStart
  | evaluation : Act s s.evaluate
  | pulseStart (g : Side) : Act s (s.startPulse g)
  | pulseEnd (g : Side) : Act s (s.endPulse g)
  | linePulseEnd : Act s s.pulseEnds
  | lineOut (p : Side) (h : s.lineDue p = true) : Act s (s.lineOut p)
  | strobeStart (p : Side) (h : s.strobeStartDue p = true) : Act s (s.beginStrobe p)
  | strobeEnd (p : Side) (h : s.strobeEndDue p = true) : Act s (s.endStrobe p)
  | pinChange (i : Fin 6) (l : Bool) : Act s (s.pinChange i l)
  | dueMoment (e : Fin 8) : Act s ((s.trigger e s.now).onPoll e fun p => p.nextMoment s.classFactor)
  | pollEnd (b : Bus) (w : PollWork) (o : PollOutcome) : Act s (s.pollCompletes b w o)
  | clockHold : Act s s.clockHold
  | recovered (r : Recovery) (n : Nat) : Act s (s.recoverySucceeds r n)
  | unrecovered (r : Recovery) (n : Nat) : Act s (s.recoveryFails r n)
  | retry : Act s (s.startRecovery .retry false)
  | relayEnd (r : Relay) (o : RelayOutcome) : Act s (s.relayCompletes r o)
  | relayRead (r : Relay) : Act s (s.relayToRead r)
  | relayWritten (r : Relay) : Act s (s.relayWriteEnds r)
  | relayTimeout : Act s ((s.slotReply .timeout []).relayAbort)
  | flush : Act s s.judgeBatch
  | period : Act s s.period
  | output : Act s (s.onAuu fun a => a.output s.pte.tone)
  | idleTimer : Act s ((s.onAuu fun a => { a.halt with idleStops := satInc a.idleStops }).refreshLoads)
  | micSample (x : Sample) : Act s (s.micSample x)
  | stepEnd (c : Channel) (p : Pattern) (h : s.pte.chan c = some p) : Act s ((s.patternStep c p).refreshLoads)
  | rise (c : Channel) (p : Pattern) (h : s.pte.chan c = some p) : Act s (s.onPte fun x => x.setChan c (some p.rise))
  | reverse (c : Channel) (p : Pattern) (h : s.pte.chan c = some p) :
      Act s (s.onPte fun x => if c = .h then (x.setChan c (some p.reverse)).reversal s.osc else x.setChan c (some p.reverse))
  | carrier : Act s (s.onPte fun x => x.carrier s.osc)
  | deadTimeEnd : Act s (s.onPte fun x => ({ x with deadEnd := none } : Pte).drive s.osc)
  | onTimeEnd : Act s (s.onPte fun x => { x with hp := false, hn := false })
  | measure (mv ma : Nat) : Act s ((s.onClock fun c => { c with measAt := c.measAt + msTicks }).measure mv ma)

/-- The state after an act, with rising edges of the side-band lines handed on or without (R38). -/
def Handed (u t : State) : Prop := t = u ∨ ∃ old new, t = u.handEdges old new

/-- What a guarded row of a part does: its act, or nothing while the part is held. -/
theorem live_acts {s t : State} {f : State → State} (hf : ∃ u, Act s u ∧ Handed u (f s))
    (h : Host.Outcome.next (φ := Fault) (ρ := Refusal) (s.live f) = .next t) : ∃ u, Act s u ∧ Handed u t := by
  obtain rfl := Host.Outcome.next.inj h
  unfold State.live
  split
  · exact ⟨s, .idle, .inl rfl⟩
  · exact hf

theorem Act.plain {s u : State} (h : Act s u) : ∃ u', Act s u' ∧ Handed u' u := ⟨u, h, .inl rfl⟩

theorem Act.edged {s : State} {f : State → State} (h : Act s (f s)) : ∃ u, Act s u ∧ Handed u (s.edged f) :=
  ⟨_, h, .inr ⟨_, _, rfl⟩⟩

theorem Act.plainIf {s u : State} {c : Prop} [Decidable c] (h : c → Act s u) :
    ∃ u', Act s u' ∧ Handed u' (if c then u else s) := by
  split
  · exact (h ‹_›).plain
  · exact Act.idle.plain

theorem Act.edgedIf {s : State} {f : State → State} {c : Prop} [Decidable c] (h : c → Act s (f s)) :
    ∃ u, Act s u ∧ Handed u (if c then s.edged f else s) := by
  split
  · exact (h ‹_›).edged
  · exact Act.idle.plain

theorem Cfl.inPass_loading {c : Cfl} {p n : Nat} (h : c.inPass p n = true) : c.state = .loading := by
  simp only [Cfl.inPass, Bool.and_eq_true, decide_eq_true_eq] at h
  exact h.1.1

theorem Cfl.inRecords_loading {c : Cfl} (h : c.inRecords = true) : c.state = .loading := by
  simp only [Cfl.inRecords, Bool.and_eq_true, decide_eq_true_eq] at h
  exact h.1

/-- Every row answers a next state, which is one act with the edges it makes. -/
theorem exec_acts {i : Instr} {s t : State} (h : exec i s = .next t) : ∃ u, Act s u ∧ Handed u t := by
  cases i with
  | powerOnReset c =>
    obtain rfl := Host.Outcome.next.inj h
    exact Act.plainIf fun _ => .reset _
  | powerOnResetEnds c =>
    obtain rfl := Host.Outcome.next.inj h
    exact Act.plainIf fun _ => .reset _
  | sidebandChange i l =>
    obtain rfl := Host.Outcome.next.inj h
    split
    · exact (Act.pins i l).plain
    · exact Act.edged (f := fun s => s.pinChange i l) (.pinChange i l)
  | headerJudgement b0 b1 b2 b3 =>
    refine live_acts ?_ h
    split
    · exact Act.idle.plain
    · rename_i hc
      exact Act.edged (f := fun s => s.judgeHeader b0 b1 b2 b3) (.header b0 b1 b2 b3 (by simpa using hc))
  | cellArrival payload p0 p1 =>
    refine live_acts ?_ h
    split
    · exact Act.plainIf fun _ => .arrival _ _ _ _ ‹_›
    · exact Act.idle.plain
  | slewEnd => exact live_acts (Act.plainIf fun h => .slewEnd h) h
  | cellBoundary =>
    refine live_acts ?_ h
    split
    · exact Act.restart.plain
    · exact Act.pick.plain
  | read table r => exact live_acts (Act.request 0 table r).plain h
  | write table r => exact live_acts (Act.edged (f := fun s => s.request 1 table r) (.request 1 table r)) h
  | writePower r => exact live_acts (Act.edged (f := fun s => s.request 1 16 r) (.request 1 16 r)) h
  | writeSideband r => exact live_acts (Act.edged (f := fun s => s.request 1 4 r) (.request 1 4 r)) h
  | writeLoads r => exact live_acts (Act.request 1 15 r).plain h
  | writeFrameTimer r => exact live_acts (Act.request 1 5 r).plain h
  | writePanel r => exact live_acts (Act.request 1 7 r).plain h
  | writePoll r => exact live_acts (Act.request 1 10 r).plain h
  | writeMotion r => exact live_acts (Act.request 1 12 r).plain h
  | writeAudio r => exact live_acts (Act.request 1 13 r).plain h
  | writePattern r => exact live_acts (Act.request 1 14 r).plain h
  | clear table r => exact live_acts (Act.request 2 table r).plain h
  | restart r => exact live_acts (Act.request 3 0 r).plain h
  | relay r => exact live_acts (Act.request 3 1 r).plain h
  | busRecover r => exact live_acts (Act.request 3 2 r).plain h
  | fifoFlush r => exact live_acts (Act.request 3 3 r).plain h
  | audioRestart r => exact live_acts (Act.request 3 4 r).plain h
  | play r => exact live_acts (Act.request 3 5 r).plain h
  | stop r => exact live_acts (Act.request 3 6 r).plain h
  | testStart r => exact live_acts (Act.request 3 7 r).plain h
  | testStop r => exact live_acts (Act.request 3 8 r).plain h
  | restartTakesEffect => exact live_acts (Act.plainIf fun _ => .restart) h
  | imageHeaderRead w0 w1 =>
    exact live_acts (Act.edgedIf (f := fun s => s.imageHeader w0 w1) fun h => .imageHeader _ _ (Cfl.inPass_loading h)) h
  | imageBodyRead body =>
    refine live_acts ?_ h
    split
    · exact Act.edgedIf (f := fun s => s.imageBody body) fun _ => .imageBody _ (Cfl.inPass_loading ‹_›)
    · exact Act.idle.plain
  | imageRecord w data =>
    exact live_acts (Act.edgedIf (f := fun s => s.imageRecord w data) fun h => .imageRecord _ _ (Cfl.inRecords_loading h)) h
  | frameStart =>
    refine live_acts ?_ h
    exact Act.edgedIf fun h => .frameStart h
  | evaluation =>
    refine live_acts ?_ h
    exact Act.plainIf fun _ => .evaluation
  | exposurePulseStart g =>
    refine live_acts ?_ h
    exact Act.edgedIf (f := fun s => s.startPulse g) fun _ => .pulseStart g
  | exposurePulseEnd g =>
    refine live_acts ?_ h
    exact Act.edgedIf (f := fun s => s.endPulse g) fun _ => .pulseEnd g
  | frameStartPulseEnd => exact live_acts (Act.edgedIf fun _ => .linePulseEnd) h
  | lineOut p => exact live_acts (Act.plainIf fun h => .lineOut p h) h
  | strobeStart p =>
    refine live_acts ?_ h
    exact Act.edgedIf (f := fun s => s.beginStrobe p) fun h => .strobeStart p h
  | strobeEnd p =>
    refine live_acts ?_ h
    exact Act.edgedIf (f := fun s => s.endStrobe p) fun h => .strobeEnd p h
  | dueMoment e => exact live_acts (Act.plainIf fun _ => .dueMoment e) h
  | transactionCompletes b o =>
    refine live_acts ?_ h
    split
    · exact (Act.pollEnd b _ o).plain
    · exact Act.idle.plain
  | clockHoldFailure => exact live_acts Act.clockHold.plain h
  | recoveryCompletes o =>
    refine live_acts ?_ h
    split
    · exact (Act.recovered _ _).plain
    · exact (Act.unrecovered _ _).plain
    · exact Act.idle.plain
  | retryExpiry => exact live_acts (Act.plainIf fun _ => .retry) h
  | relayCompletes o =>
    refine live_acts ?_ h
    split
    · exact (Act.relayEnd _ o).plain
    · exact Act.idle.plain
  | relayWaitEnd =>
    refine live_acts ?_ h
    split
    · exact (Act.relayRead _).plain
    · exact Act.idle.plain
  | relayWritePhaseEnd =>
    refine live_acts ?_ h
    split
    · exact Act.plainIf fun _ => .relayWritten _
    · exact Act.idle.plain
  | relayTimeout => exact live_acts (Act.plainIf fun _ => .relayTimeout) h
  | flushTimeout => exact live_acts (Act.plainIf fun _ => .flush) h
  | periodStart => exact live_acts (Act.plainIf fun _ => .period) h
  | idleTimerExpiry => exact live_acts (Act.plainIf fun _ => .idleTimer) h
  | outputFrame => exact live_acts (Act.plainIf fun _ => .output) h
  | microphoneSample x => exact live_acts (Act.plainIf fun _ => .micSample x) h
  | micBlockComplete x =>
    refine live_acts ?_ h
    split
    · exact Act.plainIf fun _ => .micSample x
    · exact Act.idle.plain
  | stepEnd c =>
    refine live_acts ?_ h
    split
    · exact Act.plainIf fun _ => .stepEnd c _ ‹_›
    · exact Act.idle.plain
  | elapsedRise c =>
    refine live_acts ?_ h
    split
    · exact Act.plainIf fun _ => .rise c _ ‹_›
    · exact Act.idle.plain
  | polarityReversal c =>
    refine live_acts ?_ h
    split
    · exact Act.plainIf fun _ => .reverse c _ ‹_›
    · exact Act.idle.plain
  | carrierPeriodStart => exact live_acts (Act.plainIf fun _ => .carrier) h
  | deadTimeEnd => exact live_acts (Act.plainIf fun _ => .deadTimeEnd) h
  | onTimeEnd => exact live_acts (Act.plainIf fun _ => .onTimeEnd) h
  | measurement mv ma =>
    refine live_acts ?_ h
    split
    · exact ⟨_, .measure mv ma, .inr ⟨_, _, rfl⟩⟩
    · exact Act.idle.plain

/-- A predicate on states is kept by every step if it does not look at the queue of commands and is kept by a tick's advance,
by every act and by the handing on of rising edges. -/
theorem step_keeps {P : State → Prop} (hq : ∀ (s : State) q, P s → P { s with pending := q })
    (hadv : ∀ s, P s → P s.advance) (hact : ∀ s u, P s → Act s u → P u) (hedge : ∀ s old new, P s → P (s.handEdges old new))
    {s t : State} (h : P s) (hs : step s = .next t) : P t := by
  unfold step at hs
  split at hs
  · obtain ⟨u, ha, rfl | ⟨old, new, rfl⟩⟩ := exec_acts hs
    · exact hact _ _ (hq _ _ h) ha
    · exact hedge _ _ _ (hact _ _ (hq _ _ h) ha)
  · obtain rfl := Host.Outcome.next.inj hs
    unfold State.live
    split
    · exact h
    · exact hq _ _ (hadv _ h)

end Sys2Proof.Machine
end

section
/-! What a management request can do (R41 to R54), said once: it is ignored, dropped, or taken and answered with one reply
after an effect of its own; a RELAY that takes the slot is answered later. -/

namespace Sys2Proof.Machine

open Sys2Proof

/-- What a taken request of an operation can do apart from its reply; it stores entries only as a WRITE. -/
inductive Effect (op : Nat) (s : State) : State → Prop
  | none : Effect op s s
  | store (t : Table) (es : List EntryValues) (h : op = 1) : Effect op s (s.store t es)
  | clear (t : Table) (n i : Nat) : Effect op s (s.clearEntries t n i)
  | restart : Effect op s (s.onMrs fun m => { m with restartPending := true })
  | busRecover (b : Bus) : Effect op s (s.busRecover b)
  | fifoFlush : Effect op s (s.onMou Mou.flush)
  | audioRestart : Effect op s ((s.onAuu fun a => { a.halt with servoF := 0 }).refreshLoads)
  | play (c : Channel) (n : Fin 48) (priority budget : Nat) : Effect op s (s.startPlay c n priority budget)
  | stop (c : Channel) : Effect op s ((s.endPattern c .stopped).refreshLoads)
  | testStart : Effect op s (s.onLrx fun l => { l with testMode := true, testCells := 0, testBitErrors := 0 })
  | testStop : Effect op s (s.onLrx fun l => { l with testMode := false })

/-- A taken request ends in one reply after its effect, or as a relay in the slot. -/
inductive Answered (op : Nat) (s : State) : State → Prop
  | reply {u : State} (h : Effect op s u) (p : Reply) : Answered op s (u.placeReply p)
  | relay (k : Slot) (r : Relay) (h : s.mrs.slot = none) :
      Answered op s ((s.onMrs fun m => { m with slot := some k }).relayHandOver r)

theorem State.answerWith_answered {op : Nat} (s : State) (code : Byte) (r : Request) (st : Status) :
    Answered op s (s.answerWith code r st) := .reply .none _

theorem State.doRelay_answered {op : Nat} (s : State) (code : Byte) (r : Request) : Answered op s (s.doRelay code r) := by
  unfold State.doRelay
  split; · exact s.answerWith_answered _ _ _
  split; · exact s.answerWith_answered _ _ _
  split; · exact s.answerWith_answered _ _ _
  split; · exact s.answerWith_answered _ _ _
  split
  · exact s.answerWith_answered _ _ _
  · rename_i hslot
    split
    · exact s.answerWith_answered _ _ _
    · exact .relay _ _ (by simpa using hslot)

/-- A command whose number of data words is checked first. -/
theorem Answered.checked {op : Nat} {s u : State} {c : Prop} [Decidable c] {code : Byte} {r : Request} {st : Status} (h : Answered op s u) :
    Answered op s (if c then s.answerWith code r st else u) := by
  split
  · exact s.answerWith_answered _ _ _
  · exact h

theorem State.doCommand_answered {op : Nat} (s : State) (code : Byte) (r : Request) : Answered op s (s.doCommand code r) := by
  unfold State.doCommand
  split
  · exact .checked (.reply (u := s.onMrs fun m => { m with restartPending := true }) .restart _)
  · exact s.doRelay_answered _ _
  · exact .checked (.checked (.reply (.busRecover _) _))
  · exact .checked (.reply .fifoFlush _)
  · exact .checked (.reply .audioRestart _)
  · exact .checked (.checked (.checked (.reply (.play _ _ _ _) _)))
  · exact .checked (.checked (.reply (.stop _) _))
  · exact .checked (.reply .testStart _)
  · exact .checked (.reply .testStop _)
  · exact s.answerWith_answered _ _ _

theorem State.doTable_answered (s : State) (op : Nat) (table : Byte) (r : Request) : Answered op s (s.doTable op table r) := by
  unfold State.doTable
  split
  · exact s.answerWith_answered _ _ _
  · refine .checked ?_
    split
    · exact .checked (.reply .none _)
    · split
      · unfold State.doWrite
        split
        · exact s.answerWith_answered _ _ _
        · exact .reply (.store _ _ ‹_›) _
      · exact .reply (.clear _ _ _) _

theorem State.answer_answered (s : State) (op : Nat) (table : Byte) (r : Request) : Answered op s (s.answer op table r) := by
  unfold State.answer
  refine .checked (.checked (.checked (.checked ?_)))
  split
  · exact s.doCommand_answered _ _
  · exact s.doTable_answered _ _ _

/-- What a request can do: it is counted as a bad POS, dropped for want of room, or taken with room and answered (R41). -/
theorem State.request_cases (s : State) (op : Nat) (table : Byte) (r : Request) :
    s.request op table r = s.onMrs (fun m => { m with badPos := satInc m.badPos })
      ∨ s.request op table r = s.dropRequest op table r
      ∨ 0 < s.room ∧ ∃ t, s.request op table r = t ∧ Answered op s.countTaken t := by
  unfold State.request
  split
  · exact .inl rfl
  · split
    · exact .inr (.inl rfl)
    · exact .inr (.inr ⟨Nat.pos_of_ne_zero ‹_›, _, rfl, State.answer_answered _ _ _ _⟩)

/-- A predicate is kept by a request if it does not look at the responder's counters, its replies and its slot, and is kept by
every effect, by MGMT_DROPPED and by the hand-over of a relay. -/
theorem State.request_keeps {P : State → Prop} {op : Nat} (hmrs : ∀ s f, P s → P (s.onMrs f))
    (hreply : ∀ s p, P s → P (s.placeReply p)) (hraise : ∀ s k d, P s → P (s.raise k d))
    (heff : ∀ s u, P s → Effect op s u → P u) (hrel : ∀ s r, P s → P (s.relayHandOver r)) {s : State} (h : P s)
    (table : Byte) (r : Request) : P (s.request op table r) := by
  rcases s.request_cases op table r with e | e | ⟨-, t, e, a⟩
  · rw [e]; exact hmrs _ _ h
  · rw [e]; exact hraise _ _ _ (hmrs _ _ h)
  · rw [e]
    cases a with
    | reply he p => exact hreply _ _ (heff _ _ (hmrs _ _ h) he)
    | relay k r _ => exact hrel _ _ (hmrs _ _ (hmrs _ _ h))

/-! ### A picture cell -/

/-- The state with a stream's slice in reassembly, if there is one, aborted (R86). -/
def State.endSlice (s : State) (sn : Fin 32) : State :=
  match s.pxp.ctxOf sn with
  | some i => s.abortCtx i
  | none => s

theorem State.endSlice_within (s : State) (sn : Fin 32) : Within [.pxp] s (s.endSlice sn) := by
  unfold State.endSlice
  split
  · exact s.abortCtx_within _
  · exact .refl

/-- The context that a good first cell opens (R85). -/
def State.openCtx (s : State) (c : PicCell) : SliceCtx :=
  { sn := c.sn, target := c.target, frame := (readSlice c.bytes).frame, first := (readSlice c.bytes).first
    count := (readSlice c.bytes).count, width := (s.panel c.target.lead).inForce.width
    nextLine := (readSlice c.bytes).first, current := [], received := 0 }

/-- A first cell with a good header, its stream having no slice, after its pose time is handed on (R85). -/
def State.beginSlice (s : State) (c : PicCell) : State :=
  match s.pxp.freeCtx with
  | none => s.onTarget c.target fun x => { x with noContextSlices := satInc x.noContextSlices }
  | some i => (s.setCtx i (some (s.openCtx c))).sliceBytes i (s.openCtx c) (c.bytes.drop 8) (decide (c.pos = .only))

theorem State.sliceFirst_eq (s : State) (c : PicCell) : s.sliceFirst c =
    if (s.endSlice c.sn).pxp.headerGood c then
      ((s.endSlice c.sn).writePose (readSlice c.bytes).frame (readSlice c.bytes).pose).beginSlice c
    else (s.endSlice c.sn).countMalformed c.target := rfl

theorem State.beginSlice_within (s : State) (c : PicCell) : Within [.pxp] s (s.beginSlice c) := by
  unfold State.beginSlice
  split
  · exact State.onTarget_within _ _ _
  · exact (State.setCtx_within _ _ _).trans (State.sliceBytes_within _ _ _ _ _)

/-- A picture cell changes the picture path alone, but for the pose time that a first cell may hand to the upcoming record
(R73, R84 to R87). -/
theorem State.pictureCell_cases (s : State) (c : PicCell) :
    ∃ u, Within [.pxp] s u ∧ (Within [.pxp] u (s.pictureCell c)
      ∨ ∃ n t, Within [.pxp] (u.writePose n t) (s.pictureCell c)) := by
  have first : ∃ u, Within [.pxp] s u ∧ (Within [.pxp] u (s.sliceFirst c)
      ∨ ∃ n t, Within [.pxp] (u.writePose n t) (s.sliceFirst c)) := by
    refine ⟨s.endSlice c.sn, s.endSlice_within _, ?_⟩
    rw [State.sliceFirst_eq]
    split
    · exact .inr ⟨_, _, State.beginSlice_within _ _⟩
    · exact .inl (State.countMalformed_within _ _)
  unfold State.pictureCell
  split
  · exact first
  · exact first
  · exact ⟨s, .refl, .inl (s.sliceNext_within c)⟩
  · exact ⟨s, .refl, .inl (s.sliceNext_within c)⟩

end Sys2Proof.Machine
end

section
/-! Predicates that the power manager's work keeps: what an allocation and a change of the power state hand out, said once for
every predicate that the hand-overs keep (R170 to R183). -/

namespace Sys2Proof.Machine

open Sys2Proof

/-- A derived value is at most its top (R182). -/
theorem derived_le (st : PowerState) (grant divisor top : Nat) : derived st grant divisor top ≤ top := by
  unfold derived
  split_ifs
  · exact Nat.zero_le _
  · exact le_rfl
  · exact Nat.min_le_left _ _

/-- The predicate is kept by each thing that an allocation is made of (R179 to R183). -/
structure KeptByAllocation (P : State → Prop) : Prop where
  loads : ∀ s v, P s → P (s.onPmg fun p => { p with loads := v })
  ceilings : ∀ s c x, P s → P (s.onPmg fun p => { p with ceilings := c, auxOn := x })
  cap : ∀ s c, c ≤ 32768 → P s → P (s.onAuu fun a => { a with cap := c })
  capHanded : ∀ s c, P s → P (s.onPte fun x => { x with capHanded := c })
  raise : ∀ s k d, P s → P (s.raise k d)
  handClass : ∀ s c, P s → P (s.handClass c)
  panelOff : ∀ s p, P s → P (s.panelOff p)
  panelWake : ∀ s p, P s → P (s.panelWake p)

namespace KeptByAllocation

variable {P : State → Prop} (k : KeptByAllocation P) {s : State} (h : P s)
include k h

theorem handPanel (p : Side) (old new : Nat) : P (s.handPanel p old new) := by
  unfold State.handPanel
  split
  · exact k.panelOff _ _ h
  · split
    · exact k.panelWake _ _ h
    · exact h

theorem handDerived : P s.handDerived := by
  simp only [State.handDerived]
  exact k.capHanded _ _ (k.cap _ _ (derived_le _ _ _ _) (k.ceilings _ _ _ h))

theorem allocate : P s.allocate := by
  have hand : ∀ t c o1 n1 o2 n2, P t → P (((t.handDerived.handClass c).handPanel .a o1 n1).handPanel .b o2 n2) :=
    fun t c o1 n1 o2 n2 ht => k.handPanel (k.handPanel (k.handClass _ _ (k.handDerived ht)) _ _ _) _ _ _
  simp only [State.allocate]
  refine hand _ _ _ _ _ _ ?_
  split
  · exact k.raise _ _ _ (k.loads _ _ h)
  · exact k.loads _ _ h

theorem refreshLoads : P s.refreshLoads := by
  unfold State.refreshLoads
  split
  · exact k.allocate h
  · exact h

theorem reallocate (old : List Nat) : P (s.reallocate old) := by
  unfold State.reallocate
  split
  · exact k.refreshLoads h
  · exact k.allocate h

end KeptByAllocation

/-- `q` follows `p` with at most its counts and its current hold changed. -/
structure Pmg.Counted (p q : Pmg) : Prop where
  cfg : q.cfg = p.cfg
  state : q.state = p.state
  budget : q.budget = p.budget
  window : q.window = p.window
  loads : q.loads = p.loads
  ceilings : q.ceilings = p.ceilings

theorem Pmg.currentCounts_counted (p : Pmg) : Pmg.Counted p p.currentCounts := by
  unfold Pmg.currentCounts
  split_ifs <;> exact ⟨rfl, rfl, rfl, rfl, rfl, rfl⟩

/-- The predicate is kept by each thing that a measurement is made of (R168 to R173). -/
structure KeptByMeasure (P : State → Prop) : Prop where
  counts : ∀ s f, Pmg.Counted s.pmg (f s.pmg) → P s → P (s.onPmg f)
  powerTo : ∀ s new c, P s → P (s.powerTo new c)

namespace KeptByMeasure

variable {P : State → Prop} (k : KeptByMeasure P) {s : State} (h : P s)
include k h

theorem judgeTrip (st : PowerState) : P (s.judgeTrip st) := by
  have counted : ∀ n, P (s.onPmg fun p => { p with recoverCount := n }) := fun n =>
    k.counts _ _ ⟨rfl, rfl, rfl, rfl, rfl, rfl⟩ h
  unfold State.judgeTrip
  split
  · exact h
  · split
    · split
      · exact k.powerTo _ _ _ (counted 0)
      · exact k.counts _ _ ⟨rfl, rfl, rfl, rfl, rfl, rfl⟩ h
    · exact counted 0
  all_goals
    split
    · exact k.powerTo _ _ _ h
    · exact h

theorem judgeCurrent : P s.judgeCurrent := by
  have h1 : P (s.onPmg Pmg.currentCounts) := k.counts _ _ s.pmg.currentCounts_counted h
  simp only [State.judgeCurrent]
  split
  · exact k.powerTo _ _ _ h1
  · exact h1

theorem judgeLadder (st : PowerState) : P (s.judgeLadder st) := by
  unfold State.judgeLadder
  split
  · exact h
  · exact k.powerTo _ _ _ h

theorem loadEndPower : P s.loadEndPower := by
  unfold State.loadEndPower
  split
  · exact k.powerTo _ _ _ h
  · exact h

omit h in
/-- A measurement, once the predicate holds with the new measurement in the window. -/
theorem measure (mv ma : Nat) (hs : P (s.onPmg fun p => p.sense mv ma)) : P (s.measure mv ma) := by
  simp only [State.measure]
  have h1 := k.judgeLadder (k.judgeCurrent (k.judgeTrip hs s.pmg.state)) s.pmg.state
  split
  · exact h1
  · exact k.loadEndPower h1

end KeptByMeasure

/-- The predicate is kept by each thing that the power manager's work is made of. -/
structure KeptByPower (P : State → Prop) : Prop where
  pmg : ∀ s f, (f s.pmg).window = s.pmg.window → P s → P (s.onPmg f)
  cap : ∀ s c, c ≤ 32768 → P s → P (s.onAuu fun a => { a with cap := c })
  pte : ∀ s f, P s → P (s.onPte f)
  raise : ∀ s k d, P s → P (s.raise k d)
  handClass : ∀ s c, P s → P (s.handClass c)
  panelOff : ∀ s p, P s → P (s.panelOff p)
  panelWake : ∀ s p, P s → P (s.panelWake p)
  holdStrobe : ∀ s p, P s → P (s.holdStrobe p)
  releaseStrobe : ∀ s p, P s → P (s.releaseStrobe p)

theorem KeptByPower.byAllocation {P : State → Prop} (k : KeptByPower P) : KeptByAllocation P where
  loads _ _ := k.pmg _ _ rfl
  ceilings _ _ _ := k.pmg _ _ rfl
  cap := k.cap
  capHanded _ _ := k.pte _ _
  raise := k.raise
  handClass := k.handClass
  panelOff := k.panelOff
  panelWake := k.panelWake

namespace KeptByPower

variable {P : State → Prop} (k : KeptByPower P) {s : State} (h : P s)
include k h

theorem allocate : P s.allocate := k.byAllocation.allocate h

theorem refreshLoads : P s.refreshLoads := k.byAllocation.refreshLoads h

theorem reallocate (old : List Nat) : P (s.reallocate old) := k.byAllocation.reallocate h old

theorem budgetAndAllocate : P s.budgetAndAllocate := k.allocate (k.pmg _ _ rfl h)

theorem endPattern (c : Channel) (r : EndReason) : P (s.endPattern c r) := by
  unfold State.endPattern
  split
  · exact h
  · exact k.raise _ _ _ (k.pte _ _ h)

theorem patternTrip : P s.patternTrip := k.pte _ _ (k.endPattern (k.endPattern h _ _) _ _)

theorem handTrip (old new : PowerState) : P (s.handTrip old new) := by
  unfold State.handTrip
  split
  · exact k.patternTrip (k.holdStrobe _ _ (k.holdStrobe _ _ h))
  · split
    · exact k.pte _ _ (k.releaseStrobe _ _ (k.releaseStrobe _ _ h))
    · exact h

theorem moveState (new : PowerState) (c : PowerCause) : P (s.moveState new c) :=
  k.handTrip (k.raise _ _ _ (k.pmg _ _ rfl h)) _ _

theorem powerTo (new : PowerState) (c : PowerCause) : P (s.powerTo new c) := by
  unfold State.powerTo
  split
  · exact h
  · exact k.budgetAndAllocate (k.moveState h _ _)

theorem storePower (c : PowerCfg) : P (s.storePower c) := by
  have h1 : P (s.onPmg fun p => { p with cfg := c }) := k.pmg _ _ rfl h
  simp only [State.storePower]
  split
  · exact k.budgetAndAllocate h1
  · exact k.budgetAndAllocate (k.moveState h1 _ _)

omit h in
theorem byMeasure : KeptByMeasure P where
  counts _ _ hc := k.pmg _ _ hc.window
  powerTo _ new c h := k.powerTo h new c

theorem loadEndPower : P s.loadEndPower := k.byMeasure.loadEndPower h

omit h in
theorem measure (mv ma : Nat) (hs : P (s.onPmg fun p => p.sense mv ma)) : P (s.measure mv ma) := k.byMeasure.measure mv ma hs

theorem startPlay (c : Channel) (n : Fin 48) (priority budget : Nat) : P (s.startPlay c n priority budget) :=
  k.refreshLoads (k.pte _ _ (k.endPattern h _ _))

theorem patternStep (c : Channel) (p : Pattern) : P (s.patternStep c p) := by
  unfold State.patternStep
  split
  · exact k.endPattern h _ _
  · split
    · exact k.endPattern h _ _
    · exact k.pte _ _ h

/-- A store of entries, when each entry's store keeps the predicate and the batch judgement does. -/
theorem store (t : Table) (es : List EntryValues) (hentry : ∀ s e, P s → P (s.storeEntry t e))
    (hbatch : ∀ s, P s → P s.judgeBatch) : P (s.store t es) := by
  have hfold : P (es.foldl (fun s e => s.storeEntry t e) s) := by
    induction es generalizing s with
    | nil => exact h
    | cons e es ih => exact ih (hentry _ _ h)
  have hafter : ∀ u old, P u → P (u.afterStore t old) := by
    intro u old hu
    unfold State.afterStore
    split
    · exact k.allocate hu
    · exact k.reallocate hu _
    · exact k.refreshLoads hu
    · exact k.reallocate hu _
    · exact k.reallocate hu _
    · exact hbatch _ (k.refreshLoads hu)
    · exact hu
  exact hafter _ _ hfold

end KeptByPower

end Sys2Proof.Machine
end

section
/-! Frame records and the schedule agree at every step (R60, R62, R68, R70, R72): the SCANNING record's progress, the acts of
the frame timer, and the invariant over every act. -/

namespace Sys2Proof.Machine

open Sys2Proof

/-! ### The progress of the SCANNING record -/

/-- The SCANNING and DONE records are in those states, and no completion is awaited without a SCANNING record (R70, R72). -/
def Ftm.ScanFits (t : Ftm) : Prop :=
  (∀ r ∈ t.scanning, r.state = .scanning) ∧ (∀ r ∈ t.done, r.state = .done)
    ∧ (t.scanning = none → t.pendingPanels = ⟨false, false⟩)

/-- `t` follows `s` without a change of the loader's state, the schedule, the scan frame and the upcoming record, and with the
SCANNING and DONE records still in their states. -/
structure Recorded (s t : State) : Prop where
  loader : t.cfl.state = s.cfl.state
  schedule : t.ftm.schedule = s.ftm.schedule
  scanFrame : t.ftm.scanFrame = s.ftm.scanFrame
  sNext : t.ftm.sNext = s.ftm.sNext
  renumber : t.ftm.renumber = s.ftm.renumber
  upcoming : t.ftm.upcoming = s.ftm.upcoming
  fits : s.ftm.ScanFits → t.ftm.ScanFits

namespace Recorded

variable {s t u : State}

theorem refl : Recorded s s := ⟨rfl, rfl, rfl, rfl, rfl, rfl, id⟩

theorem trans (h : Recorded s t) (k : Recorded t u) : Recorded s u :=
  ⟨k.loader.trans h.loader, k.schedule.trans h.schedule, k.scanFrame.trans h.scanFrame, k.sNext.trans h.sNext,
    k.renumber.trans h.renumber, k.upcoming.trans h.upcoming, k.fits ∘ h.fits⟩

theorem of_eq (hf : t.ftm = s.ftm) (hc : t.cfl = s.cfl) : Recorded s t := by
  constructor <;> simp [hf, hc]

/-- A change outside the frame timer and the loader. -/
theorem of_within {bs : List Part} (h : Within bs s t) (h1 : Part.ftm ∉ bs) (h2 : Part.cfl ∉ bs) : Recorded s t :=
  of_eq (h.ftm.resolve_left h1) (h.cfl.resolve_left h2)

/-- A change of the frame timer that leaves schedule and records alone. -/
theorem onFtm {f : Ftm → Ftm} (h : f s.ftm = { f s.ftm with
    schedule := s.ftm.schedule, scanFrame := s.ftm.scanFrame, sNext := s.ftm.sNext, renumber := s.ftm.renumber
    upcoming := s.ftm.upcoming, scanning := s.ftm.scanning, done := s.ftm.done, pendingPanels := s.ftm.pendingPanels }) :
    Recorded s (s.onFtm f) := by
  constructor <;> first
    | rfl
    | (simp only [State.onFtm_ftm, Ftm.ScanFits]; rw [h]; exact id)
    | (simp only [State.onFtm_ftm]; rw [h])

/-- The invariant goes with the progress of the SCANNING record. -/
theorem frames (r : Recorded s t) (h : s.framesConsistent) : t.framesConsistent := by
  obtain ⟨h1, h2, h3, h4, h5, h6, h7⟩ := h
  obtain ⟨k4, k5, k7⟩ := r.fits ⟨h4, h5, h7⟩
  refine ⟨?_, ?_, ?_, k4, k5, ?_, k7⟩
  · rw [r.schedule, r.loader]; exact h1
  · rw [r.schedule, r.upcoming]; exact h2
  · have e : t.ftm.nextNumber = s.ftm.nextNumber := by
      simp only [Ftm.nextNumber, Ftm.F, r.schedule, r.upcoming, r.renumber, r.scanFrame]
    rw [r.upcoming]
    intro x hx
    obtain ⟨a, b, c⟩ := h3 x hx
    exact ⟨a, b.trans e.symm, c.trans r.sNext.symm⟩
  · rw [r.schedule, r.scanFrame]; exact h6

end Recorded

variable (s : State)

theorem State.onScanning_recorded (f : FrameRec → FrameRec) (h : ∀ r, (f r).state = r.state) : Recorded s (s.onScanning f) := by
  refine ⟨rfl, rfl, rfl, rfl, rfl, rfl, fun ⟨h4, h5, h7⟩ => ⟨?_, h5, ?_⟩⟩
  · intro r hr
    obtain ⟨x, hx, rfl⟩ := Option.map_eq_some_iff.mp hr
    exact (h x).trans (h4 x hx)
  · intro hn
    exact h7 (Option.map_eq_none_iff.mp hn)

theorem State.onPanel_recorded (p : Side) (f : PanelState → PanelState) : Recorded s (s.onPanel p f) :=
  .of_within (s.onPanel_within p f) (by decide) (by decide)

theorem State.raise_recorded (k : EventKind) (d : List Byte) : Recorded s (s.raise k d) :=
  .of_within (s.raise_within k d) (by decide) (by decide)

theorem State.finishRecord_recorded : Recorded s s.finishRecord := by
  unfold State.finishRecord
  split
  · exact .refl
  · refine ⟨rfl, rfl, rfl, rfl, rfl, rfl, fun _ => ⟨?_, ?_, fun _ => rfl⟩⟩
    · intro r hr
      cases hr
    · intro r hr
      obtain rfl := Option.some.inj hr
      rfl

theorem State.completion_recorded (p : Side) : Recorded s (s.completion p) := by
  simp only [State.completion]
  split
  · rename_i hs
    obtain ⟨hsome, -⟩ := (Bool.and_eq_true _ _).mp hs
    have h : Recorded s (s.onFtm fun t => { t with pendingPanels := s.ftm.pendingPanels.set p false }) :=
      ⟨rfl, rfl, rfl, rfl, rfl, rfl, fun ⟨h4, h5, _⟩ => ⟨h4, h5, fun hn => by
        replace hn : s.ftm.scanning = none := hn
        simp [hn] at hsome⟩⟩
    split
    · exact h
    · exact h.trans (State.finishRecord_recorded _)
  · exact .refl

theorem State.endScan_recorded (p : Side) : Recorded s (s.endScan p) := by
  unfold State.endScan
  split
  · exact .refl
  · split
    · exact (s.onScanning_recorded (fun r => { r with flags := { r.flags with incomplete := true } }) fun _ => rfl).trans
        (State.raise_recorded _ _ _)
    · exact .refl

theorem State.tryComplete_recorded (p : Side) : Recorded s (s.tryComplete p) := by
  unfold State.tryComplete
  split
  · exact s.completion_recorded p
  · exact .refl

theorem State.outputLine_recorded (p : Side) (y : Nat) : Recorded s (s.outputLine p y) := by
  simp only [State.outputLine]
  split
  · exact (s.onPanel_recorded _ _).trans (State.onScanning_recorded _ _ fun _ => rfl)
  · exact s.onPanel_recorded _ _

theorem State.closeScan_recorded (p : Side) (F : Option FrameNo) : Recorded s (s.closeScan p F) :=
  (s.onPanel_recorded _ _).trans (State.endScan_recorded _ _)

theorem State.cutScan_recorded (p : Side) (F : Option FrameNo) : Recorded s (s.cutScan p F) :=
  ((s.onPanel_recorded _ _).trans (State.onScanning_recorded _ _ fun _ => by cases p <;> rfl)).trans
    (State.closeScan_recorded _ _ _)

theorem State.panelOff_recorded (p : Side) : Recorded s (s.panelOff p) := by
  have key : ∀ t : State, Recorded t ((t.onPanel p fun x =>
      { x with scan := .off, ring := [], lastLine := none, strobe := x.strobe.cleared }).tryComplete p) := fun t =>
    (t.onPanel_recorded _ _).trans (State.tryComplete_recorded _ _)
  simp only [State.panelOff]
  split
  · exact (s.cutScan_recorded _ _).trans (key _)
  · exact key s

theorem State.holdStrobe_recorded (p : Side) : Recorded s (s.holdStrobe p) :=
  (s.onPanel_recorded _ _).trans (State.tryComplete_recorded _ _)

theorem State.beginStrobe_recorded (p : Side) : Recorded s (s.beginStrobe p) :=
  ((s.onPanel_recorded _ _).trans
    (State.onScanning_recorded _ _ fun _ => by unfold FrameRec.takeStrobe; split <;> rfl)).trans
      (State.tryComplete_recorded _ _)

theorem State.endStrobe_recorded (p : Side) : Recorded s (s.endStrobe p) :=
  (s.onPanel_recorded _ _).trans (State.tryComplete_recorded _ _)

theorem State.lineOut_recorded (p : Side) : Recorded s (s.lineOut p) := by
  simp only [State.lineOut]
  split
  · exact (s.outputLine_recorded _ _).trans (((State.closeScan_recorded _ _ _).trans
      (State.onPanel_recorded _ _ _)).trans (State.tryComplete_recorded _ _))
  · exact s.outputLine_recorded _ _

/-- The power manager's work brings at most progress of the SCANNING record. -/
theorem Recorded.keptByPower (s : State) : KeptByPower (Recorded s) where
  pmg _ f _ h := h.trans (.of_within (State.onPmg_within _ f) (by decide) (by decide))
  cap _ _ _ h := h.trans (.of_within (State.onAuu_within _ _) (by decide) (by decide))
  pte _ f h := h.trans (.of_within (State.onPte_within _ f) (by decide) (by decide))
  raise _ k d h := h.trans (State.raise_recorded _ k d)
  handClass _ c h := h.trans (.of_within (State.handClass_within _ c) (by decide) (by decide))
  panelOff _ p h := h.trans (State.panelOff_recorded _ p)
  panelWake _ p h := h.trans (.of_within (State.panelWake_within _ p) (by decide) (by decide))
  holdStrobe _ p h := h.trans (State.holdStrobe_recorded _ p)
  releaseStrobe _ p h := h.trans (.of_within (State.releaseStrobe_within _ p) (by decide) (by decide))

theorem State.refreshLoads_recorded : Recorded s s.refreshLoads := (Recorded.keptByPower s).refreshLoads .refl

/-! ### The invariant over the frame timer's own acts -/

variable {s}

/-- The frame timer's part of the invariant: all of it but the loader's. -/
def Ftm.RecordsFit (t : Ftm) : Prop :=
  (t.upcoming.isSome ↔ t.schedule = .starting ∨ t.schedule = .running) ∧ (∀ r ∈ t.upcoming, t.upcomingFits r) ∧ t.ScanFits
    ∧ (t.scanFrame.isSome ↔ t.schedule = .running)

theorem State.framesConsistent_iff :
    s.framesConsistent ↔ (s.ftm.schedule = .idle ↔ s.cfl.state = .loading) ∧ s.ftm.RecordsFit := by
  unfold State.framesConsistent Ftm.RecordsFit Ftm.ScanFits
  tauto

/-- A change of the frame timer alone, the schedule staying IDLE or not. -/
theorem framesConsistent_of_ftm {t : State} (h : s.framesConsistent) (hc : t.cfl = s.cfl)
    (hi : t.ftm.schedule = .idle ↔ s.ftm.schedule = .idle) (hr : s.ftm.RecordsFit → t.ftm.RecordsFit) :
    t.framesConsistent := by
  rw [State.framesConsistent_iff] at h ⊢
  exact ⟨by rw [hi, hc]; exact h.1, hr h.2⟩

/-- A change of the upcoming record that keeps number and start and leaves it OPEN or EVALUATED. -/
theorem Ftm.RecordsFit.onUpcoming {t : Ftm} (h : t.RecordsFit) {f : FrameRec → FrameRec}
    (hs : ∀ r ∈ t.upcoming, (f r).state = .opened ∨ (f r).state = .evaluated) (hn : ∀ r, (f r).number = r.number)
    (ht : ∀ r, (f r).start = r.start) : ({ t with upcoming := t.upcoming.map f } : Ftm).RecordsFit := by
  obtain ⟨h2, h3, h4, h6⟩ := h
  refine ⟨by simpa using h2, ?_, h4, h6⟩
  intro r hr
  obtain ⟨x, hx, rfl⟩ := Option.map_eq_some_iff.mp hr
  obtain ⟨-, b, c⟩ := h3 x hx
  refine ⟨hs x hx, ?_, (ht x).trans c⟩
  rw [hn, b]
  simp only [Ftm.nextNumber, Ftm.F]
  rw [Option.map_map]
  have : FrameRec.number ∘ f = FrameRec.number := funext hn
  rw [this]

theorem State.onUpcoming_frames {f : FrameRec → FrameRec} (h : s.framesConsistent)
    (hs : ∀ r, r.state = .opened ∨ r.state = .evaluated → (f r).state = .opened ∨ (f r).state = .evaluated)
    (hn : ∀ r, (f r).number = r.number) (ht : ∀ r, (f r).start = r.start) : (s.onUpcoming f).framesConsistent :=
  framesConsistent_of_ftm h rfl Iff.rfl fun hr => hr.onUpcoming (fun r hr' => hs _ (hr.2.1 r hr').1) hn ht

theorem State.writePose_frames (h : s.framesConsistent) (n : FrameNo) (t : Time) : (s.writePose n t).framesConsistent :=
  State.onUpcoming_frames h (fun r hr => by split <;> exact hr) (fun r => by split <;> rfl) (fun r => by split <;> rfl)

/-- An evaluation, but for the events and the late shift unit, makes the OPEN record EVALUATED (R69). -/
theorem State.evaluate_cases : s.evaluate = s
    ∨ ∃ S H c, Recorded (s.onUpcoming fun r => evalRecord r S H c) s.evaluate := by
  unfold State.evaluate
  split
  · exact .inl rfl
  · rename_i r hr
    split
    · refine .inr ⟨s.now, s.mou.history, s.lsu.written, ?_⟩
      have h0 : Recorded (s.onUpcoming fun r => evalRecord r s.now s.mou.history s.lsu.written)
          ((s.onLsu fun l => l.afterEval (evalRecord r s.now s.mou.history s.lsu.written)).onFtm fun t =>
            { t with upcoming := some (evalRecord r s.now s.mou.history s.lsu.written) }) := by
        refine ⟨rfl, rfl, rfl, rfl, rfl, ?_, id⟩
        simp [hr]
      dsimp only
      split <;> split
      · exact (h0.trans (State.raise_recorded _ _ _)).trans (State.raise_recorded _ _ _)
      · exact h0.trans (State.raise_recorded _ _ _)
      · exact h0.trans (State.raise_recorded _ _ _)
      · exact h0
    · exact .inl rfl

theorem State.evaluate_frames (h : s.framesConsistent) : s.evaluate.framesConsistent := by
  rcases s.evaluate_cases with e | ⟨S, H, c, r⟩
  · rw [e]; exact h
  · exact r.frames (State.onUpcoming_frames h (fun _ _ => .inr rfl) (fun _ => rfl) fun _ => rfl)

theorem State.evaluateIfDue_frames (h : s.framesConsistent) : s.evaluateIfDue.framesConsistent := by
  unfold State.evaluateIfDue
  split
  · exact State.evaluate_frames h
  · exact h

/-- A FREE placement puts the schedule in STARTING with frame 0 (R60, R61). -/
theorem Ftm.RecordsFit.placeFree {t : Ftm} (h : t.RecordsFit) (hs : t.schedule ≠ .running) (now : Time) :
    (t.placeFree now).RecordsFit := by
  obtain ⟨-, -, h4, h6⟩ := h
  refine ⟨by simp [Ftm.placeFree], ?_, h4, ?_⟩
  · simp [Ftm.placeFree, Ftm.upcomingFits, FrameRec.fresh, Ftm.nextNumber]
  · have : t.scanFrame = none := by simpa [hs] using h6
    simp [Ftm.placeFree, this]

theorem Ftm.RecordsFit.leaveIdle {t : Ftm} (h : t.RecordsFit) (hs : t.schedule = .idle) (now : Time) :
    (t.leaveIdle now).RecordsFit ∧ (t.leaveIdle now).schedule ≠ .idle := by
  unfold Ftm.leaveIdle
  split
  · obtain ⟨h2, h3, h4, h6⟩ := h
    have hu : t.upcoming = none := by simpa [hs] using h2
    have hF : t.scanFrame = none := by simpa [hs] using h6
    exact ⟨⟨by simp [hu], by simp [hu], h4, by simp [hF]⟩, by simp⟩
  · exact ⟨h.placeFree (by simp [hs]) now, by simp [Ftm.placeFree]⟩

theorem Ftm.RecordsFit.store {t : Ftm} (h : t.RecordsFit) (c : FtCfg) (now : Time) : (t.store c now).RecordsFit := by
  simp only [Ftm.store]
  have h1 : ({ t with written := c } : Ftm).RecordsFit := h
  split
  · rename_i hs
    exact h1.placeFree (by simp [hs.1]) now
  · exact h1

theorem Ftm.RecordsFit.place {t : Ftm} (h : t.RecordsFit) (hs : t.schedule = .awaiting) (n : FrameNo) (x now : Time) :
    (t.place n x now).RecordsFit := by
  obtain ⟨-, -, h4, h6⟩ := h
  refine ⟨by simp [Ftm.place], ?_, h4, ?_⟩
  · simp [Ftm.place, Ftm.upcomingFits, FrameRec.fresh, Ftm.nextNumber]
  · have : t.scanFrame = none := by simpa [hs] using h6
    simp [Ftm.place, this]

/-- A used target moves the next start, and at a renumber the upcoming record takes the number that is next (R65, R68). -/
theorem Ftm.RecordsFit.useTarget {t : Ftm} (h : t.RecordsFit) (hs : t.schedule = .running) (n : FrameNo) (x now : Time) :
    (t.useTarget n x now).RecordsFit := by
  obtain ⟨h2, h3, h4, h6⟩ := h
  simp only [Ftm.useTarget]
  split
  · refine ⟨by simpa using h2, ?_, h4, h6⟩
    intro r hr
    obtain ⟨y, hy, rfl⟩ := Option.map_eq_some_iff.mp hr
    obtain ⟨a, b, -⟩ := h3 y hy
    exact ⟨a, by simpa [Ftm.nextNumber, hs, Ftm.F] using b, rfl⟩
  · refine ⟨by simpa using h2, ?_, h4, h6⟩
    intro r hr
    obtain ⟨y, hy, rfl⟩ := Option.map_eq_some_iff.mp hr
    obtain ⟨z, hz, rfl⟩ := Option.map_eq_some_iff.mp hy
    exact ⟨.inl rfl, by simp [Ftm.nextNumber, hs, FrameRec.renumbered], rfl⟩

theorem Ftm.RecordsFit.rebase {t : Ftm} (h : t.RecordsFit) (d : Int) : (t.rebase d).RecordsFit := by
  obtain ⟨h2, h3, h4, h6⟩ := h
  refine ⟨by simpa [Ftm.rebase] using h2, ?_, h4, h6⟩
  intro r hr
  obtain ⟨y, hy, rfl⟩ := Option.map_eq_some_iff.mp hr
  obtain ⟨a, b, c⟩ := h3 y hy
  have hrun : t.schedule = .starting ∨ t.schedule = .running := h2.mp (by rw [Option.mem_def.mp hy]; rfl)
  refine ⟨a, ?_, by simp [Ftm.rebase, hrun, c]⟩
  have hmap : FrameRec.number ∘ (fun r : FrameRec => { r with start := tadd r.start d }) = FrameRec.number := rfl
  simp only [Ftm.nextNumber, Ftm.F, Ftm.rebase, Option.map_map, hmap] at b ⊢
  exact b

theorem State.displayLocks_recorded (s : State) (e : Int) : Recorded s (s.displayLocks e) :=
  (Recorded.onFtm rfl).trans (State.raise_recorded _ _ _)

theorem State.judgeLock_recorded (s : State) (e : Int) : Recorded s (s.judgeLock e) := by
  simp only [State.judgeLock]
  split
  · exact .onFtm rfl
  · exact .onFtm rfl
  · split
    · exact (Recorded.onFtm rfl).trans (State.displayLocks_recorded _ _)
    · exact .onFtm rfl
  · exact .onFtm rfl
  · exact .onFtm rfl
  · split
    · exact ((Recorded.onFtm rfl).trans (.onFtm rfl)).trans (State.raise_recorded _ _ _)
    · exact .onFtm rfl
  · exact s.displayLocks_recorded e
  · exact .onFtm rfl

theorem State.target_frames (h : s.framesConsistent) (n : FrameNo) (x : Time) : (s.target n x).framesConsistent := by
  have hf := (State.framesConsistent_iff.mp h).2
  unfold State.target
  split
  · exact h
  · rename_i hs
    refine State.evaluateIfDue_frames (framesConsistent_of_ftm h rfl ?_ fun _ => hf.place hs n x s.now)
    simp [Ftm.place, hs]
  · split
    · exact (Recorded.onFtm rfl).frames h
    · exact h
  · rename_i hs
    split
    · exact h
    · split
      · exact (Recorded.onFtm rfl).frames h
      · refine State.evaluateIfDue_frames ((State.judgeLock_recorded _ _).frames
          (framesConsistent_of_ftm h rfl ?_ fun _ => hf.useTarget hs n x s.now))
        simp only [State.onFtm_ftm, Ftm.useTarget]
        split <;> exact Iff.rfl

/-! ### The frame start (R62) -/

/-- The steps of a frame start up to the move of the records keep the loader, what has come into force, and that there is an
upcoming record, and its SCANNING and DONE records in their states. -/
structure Moving (s t : State) : Prop where
  loader : t.cfl.state = s.cfl.state
  schedule : t.ftm.schedule = s.ftm.schedule
  scanFrame : t.ftm.scanFrame = s.ftm.scanFrame
  renumber : t.ftm.renumber = s.ftm.renumber
  upcoming : s.ftm.upcoming.isSome → t.ftm.upcoming.isSome
  fits : s.ftm.ScanFits → t.ftm.ScanFits

theorem Moving.trans {s t u : State} (h : Moving s t) (k : Moving t u) : Moving s u :=
  ⟨k.loader.trans h.loader, k.schedule.trans h.schedule, k.scanFrame.trans h.scanFrame, k.renumber.trans h.renumber,
    k.upcoming ∘ h.upcoming, k.fits ∘ h.fits⟩

theorem Recorded.moving {s t : State} (r : Recorded s t) : Moving s t :=
  ⟨r.loader, r.schedule, r.scanFrame, r.renumber, by rw [r.upcoming]; exact id, r.fits⟩

theorem State.onUpcoming_moving (s : State) (f : FrameRec → FrameRec) : Moving s (s.onUpcoming f) :=
  ⟨rfl, rfl, rfl, rfl, by simp, id⟩

theorem State.lateEvaluate_moving (s : State) : Moving s s.lateEvaluate := by
  have he : Moving s s.evaluate := by
    rcases s.evaluate_cases with e | ⟨S, H, c, r⟩
    · rw [e]; exact Recorded.refl.moving
    · exact (s.onUpcoming_moving _).trans r.moving
  unfold State.lateEvaluate
  split
  · split
    · exact he.trans (State.onUpcoming_moving _ _)
    · exact Recorded.refl.moving
  · exact Recorded.refl.moving

theorem State.cutAtStart_recorded (s : State) (p : Side) (F : Option FrameNo) : Recorded s (s.cutAtStart p F) := by
  unfold State.cutAtStart
  split
  · exact s.cutScan_recorded p F
  · exact .refl

theorem State.lockBookkeeping_recorded (s : State) : Recorded s s.lockBookkeeping := by
  have hr := fun t k d => State.raise_recorded t k d
  simp only [State.lockBookkeeping]
  split
  · split
    · exact (Recorded.onFtm rfl).trans (hr _ _ _)
    · exact .onFtm rfl
  · split
    · split
      · exact ((Recorded.onFtm rfl).trans (.onFtm rfl)).trans (hr _ _ _)
      · exact .onFtm rfl
    · exact .refl

/-- After the numbers of a frame start the schedule is RUNNING on the new frame, with the upcoming record still there. -/
theorem State.frameNumbers_running (s : State) :
    let t := s.frameNumbers
    t.cfl.state = s.cfl.state ∧ t.ftm.schedule = .running ∧ t.ftm.scanFrame = some s.ftm.nextNumber
      ∧ t.ftm.renumber = none ∧ t.ftm.upcoming = s.ftm.upcoming ∧ (s.ftm.ScanFits → t.ftm.ScanFits) := by
  have h1 : Recorded s s.reportRenumber := .of_within s.reportRenumber_within (by decide) (by decide)
  have h2 := (s.reportRenumber.onFtm fun t => t.begin s.ftm.nextNumber s.now).lockBookkeeping_recorded
  refine ⟨h2.loader.trans h1.loader, h2.schedule, h2.scanFrame, h2.renumber, h2.upcoming.trans h1.upcoming, fun h => ?_⟩
  exact h2.fits (h1.fits h)

/-- The records move: the upcoming record is SCANNING, and a new one is OPEN for the frame after (R70). -/
theorem Ftm.RecordsFit.moveRecords {t : Ftm} (hs : t.schedule = .running) (hF : t.scanFrame.isSome) (hr : t.renumber = none)
    (hu : t.upcoming.isSome) (hf : t.ScanFits) : t.moveRecords.RecordsFit := by
  obtain ⟨F, hF⟩ := Option.isSome_iff_exists.mp hF
  obtain ⟨r, hu⟩ := Option.isSome_iff_exists.mp hu
  refine ⟨by simp [Ftm.moveRecords, hs], ?_, ⟨?_, hf.2.1, ?_⟩, by simp [Ftm.moveRecords, hF, hs]⟩
  · simp [Ftm.moveRecords, Ftm.upcomingFits, FrameRec.fresh, Ftm.nextNumber, hs, hr, Ftm.F]
  · simp [Ftm.moveRecords, hu]
  · simp [Ftm.moveRecords, hu]

theorem State.namePanels_recorded (s : State) (h : s.ftm.scanning.isSome) : Recorded s s.namePanels := by
  have h1 : ∀ d : Duo Bool, Recorded s (s.onFtm fun t => { t with pendingPanels := d }) := fun d =>
    ⟨rfl, rfl, rfl, rfl, rfl, rfl, fun ⟨h4, h5, _⟩ => ⟨h4, h5, fun hn => by
      replace hn : s.ftm.scanning = none := hn
      simp [hn] at h⟩⟩
  simp only [State.namePanels]
  split
  · exact h1 _
  · exact (h1 _).trans (State.finishRecord_recorded _)

theorem State.firstLine_recorded (s : State) (p : Side) : Recorded s (s.firstLine p) := by
  unfold State.firstLine
  split
  · exact s.outputLine_recorded _ _
  · exact .refl

/-- The pictures' part of a frame start before the panels are named is the picture path's own. -/
theorem State.panelsBegin_within (s : State) (old : Option FrameNo) :
    Within [.pxp] s (((([0, 1, 2, 3] : List (Fin 4)).foldl State.sweepContext
      ((s.panelInForce .a).panelInForce .b)).panelStart .a old).panelStart .b old) :=
  ((((s.panelInForce_within _).trans (State.panelInForce_within _ _)).trans
    (Within.foldl (fun _ _ => State.sweepContext_within _ _) _ _)).trans (State.panelStart_within _ _ _)).trans
      (State.panelStart_within _ _ _)

theorem State.picturesStart_recorded (s : State) (old : Option FrameNo) (h : s.ftm.scanning.isSome) :
    Recorded s (s.picturesStart old) := by
  have w := s.panelsBegin_within old
  have h1 : Recorded s _ := .of_within w (by decide) (by decide)
  exact ((h1.trans (State.namePanels_recorded _ (by rw [w.ftm.resolve_left (by decide)]; exact h))).trans
    (State.firstLine_recorded _ _)).trans (State.firstLine_recorded _ _)

theorem State.startGens_recorded (s : State) : Recorded s (s.onFtm Ftm.startGens) := .onFtm rfl

theorem State.startPulses_recorded (s : State) : Recorded s s.startPulses := ⟨rfl, rfl, rfl, rfl, rfl, rfl, id⟩

theorem State.recordsCut_moving (s : State) (old : Option FrameNo) :
    Moving s (((s.cutAtStart .a old).cutAtStart .b old).finishRecord).lateEvaluate :=
  (((s.cutAtStart_recorded _ _).trans (State.cutAtStart_recorded _ _ _)).trans
    (State.finishRecord_recorded _)).moving.trans (State.lateEvaluate_moving _)

theorem State.frameRecords_frames (h : s.cfl.state ≠ .loading) (hs : s.ftm.schedule = .running) (hF : s.ftm.scanFrame.isSome)
    (hr : s.ftm.renumber = none) (hu : s.ftm.upcoming.isSome) (hf : s.ftm.ScanFits) (old : Option FrameNo) :
    (s.frameRecords old).framesConsistent ∧ (s.frameRecords old).ftm.scanning.isSome := by
  have m := s.recordsCut_moving old
  unfold State.frameRecords
  generalize (((s.cutAtStart .a old).cutAtStart .b old).finishRecord).lateEvaluate = u at m
  have hu' := m.upcoming hu
  refine ⟨State.framesConsistent_iff.mpr ⟨iff_of_false ?_ ?_, ?_⟩, by simpa [Ftm.moveRecords] using hu'⟩
  · rw [State.onFtm_ftm, show u.ftm.moveRecords.schedule = u.ftm.schedule from rfl, m.schedule, hs]
    simp
  · rw [State.onFtm_cfl, m.loader]
    exact h
  · exact Ftm.RecordsFit.moveRecords (m.schedule.trans hs) (by rw [m.scanFrame]; exact hF) (m.renumber.trans hr) hu' (m.fits hf)

theorem State.frameStart_frames (h : s.framesConsistent) (hd : s.frameStartDue = true) : s.frameStart.framesConsistent := by
  obtain ⟨hl, h2, -, h4, -⟩ := State.framesConsistent_iff.mp h
  have hs : s.ftm.schedule = .starting ∨ s.ftm.schedule = .running := by
    simp only [State.frameStartDue, Bool.and_eq_true, Bool.or_eq_true, decide_eq_true_eq] at hd
    exact hd.1
  obtain ⟨nl, ns, nF, nr, nu, nf⟩ := s.frameNumbers_running
  have hnl : s.frameNumbers.cfl.state ≠ .loading := by
    rw [nl]
    refine hl.not.mp ?_
    rcases hs with hs | hs <;> simp [hs]
  obtain ⟨hrec, hscan⟩ := State.frameRecords_frames hnl ns (by rw [nF]; rfl) nr (by rw [nu]; exact h2.mpr hs) (nf h4)
    s.ftm.scanFrame
  unfold State.frameStart
  exact ((((State.picturesStart_recorded _ _ hscan).trans (State.startGens_recorded _)).trans
    (State.startPulses_recorded _)).trans (State.refreshLoads_recorded _)).frames hrec

/-! ### Every act -/

theorem State.storeEntry_frames (t : Table) (e : EntryValues) (h : s.framesConsistent) : (s.storeEntry t e).framesConsistent := by
  cases t
  case frameTimer =>
    refine framesConsistent_of_ftm h rfl ?_ fun hr => hr.store _ _
    simp only [State.storeEntry, State.onFtm_ftm, Ftm.store]
    split
    · rename_i hs; simp [Ftm.placeFree, hs.1]
    · exact Iff.rfl
  case exposure => exact (Recorded.onFtm (s := s) (f := fun x => { x with gens := x.gens.modify _ _ }) rfl).frames h
  case power => exact ((Recorded.keptByPower s).storePower .refl _).frames h
  case poll => exact (Recorded.of_within (s.storePoll_within _ _) (by decide) (by decide)).frames h
  all_goals exact (Recorded.of_eq rfl rfl).frames h

theorem State.judgeBatch_frames (h : s.framesConsistent) : s.judgeBatch.framesConsistent :=
  (Recorded.of_within s.judgeBatch_within (by decide) (by decide)).frames h

/-- The power manager's work keeps the invariant. -/
theorem framesConsistent_keptByPower : KeptByPower State.framesConsistent where
  pmg s f hw h := ((Recorded.keptByPower s).pmg s f hw .refl).frames h
  cap s c hc h := ((Recorded.keptByPower s).cap s c hc .refl).frames h
  pte s f h := ((Recorded.keptByPower s).pte s f .refl).frames h
  raise s k d h := ((Recorded.keptByPower s).raise s k d .refl).frames h
  handClass s c h := ((Recorded.keptByPower s).handClass s c .refl).frames h
  panelOff s p h := ((Recorded.keptByPower s).panelOff s p .refl).frames h
  panelWake s p h := ((Recorded.keptByPower s).panelWake s p .refl).frames h
  holdStrobe s p h := ((Recorded.keptByPower s).holdStrobe s p .refl).frames h
  releaseStrobe s p h := ((Recorded.keptByPower s).releaseStrobe s p .refl).frames h

theorem State.store_frames (h : s.framesConsistent) (t : Table) (es : List EntryValues) : (s.store t es).framesConsistent :=
  framesConsistent_keptByPower.store h t es (fun _ e hs => State.storeEntry_frames t e hs) fun _ hs => State.judgeBatch_frames hs

theorem State.clearEntries_frames (h : s.framesConsistent) (t : Table) (n i : Nat) :
    (s.clearEntries t n i).framesConsistent := by
  have hone : ∀ (s : State) i, s.framesConsistent → (s.clearEntry t i).framesConsistent := by
    intro s i h
    cases t
    case frameTimer => exact (Recorded.onFtm rfl).frames h
    case exposure => exact (Recorded.onFtm (s := s) (f := fun x => { x with gens := x.gens.modify _ _ }) rfl).frames h
    all_goals exact (Recorded.of_eq rfl rfl).frames h
  induction n generalizing s i with
  | zero => exact h
  | succ n ih => exact ih (hone _ _ h) _

theorem Effect.frames {op : Nat} {t : State} (e : Effect op s t) (h : s.framesConsistent) : t.framesConsistent := by
  have hp := framesConsistent_keptByPower
  cases e with
  | none => exact h
  | store t es _ => exact State.store_frames h t es
  | clear t n i => exact State.clearEntries_frames h t n i
  | restart => exact (Recorded.of_eq rfl rfl).frames h
  | busRecover b => exact (Recorded.of_within (s.busRecover_within b) (by decide) (by decide)).frames h
  | fifoFlush => exact (Recorded.of_eq rfl rfl).frames h
  | audioRestart => exact hp.refreshLoads ((Recorded.of_eq rfl rfl).frames h)
  | play c n p b => exact hp.startPlay h _ _ _ _
  | stop c => exact hp.refreshLoads (hp.endPattern h _ _)
  | testStart => exact (Recorded.of_eq rfl rfl).frames h
  | testStop => exact (Recorded.of_eq rfl rfl).frames h

theorem State.request_frames (h : s.framesConsistent) (op : Nat) (table : Byte) (r : Request) :
    (s.request op table r).framesConsistent :=
  State.request_keeps (fun _ _ h => (Recorded.of_eq rfl rfl).frames h) (fun _ _ h => (Recorded.of_eq rfl rfl).frames h)
    (fun _ _ _ h => (Recorded.of_eq rfl rfl).frames h) (fun _ _ h e => e.frames h)
    (fun s r h => (Recorded.of_within (s.relayHandOver_within r) (by decide) (by decide)).frames h) h table r

theorem State.handEdges_frames (h : s.framesConsistent) (old new : BitVec 6) : (s.handEdges old new).framesConsistent :=
  (Recorded.of_within (s.handEdges_within old new) (by decide) (by decide)).frames h

theorem State.edged_frames {f : State → State} (h : (f s).framesConsistent) : (s.edged f).framesConsistent :=
  State.handEdges_frames h _ _

/-- The end of loading: the schedule leaves IDLE as the loader leaves LOADING (R56, R60). -/
theorem State.endLoading_frames (h : s.framesConsistent) (hl : s.cfl.state = .loading) {st : ImageState} (hst : st ≠ .loading) :
    (s.endLoading st).framesConsistent := by
  obtain ⟨hi, hr⟩ := State.framesConsistent_iff.mp h
  let u := s.onCfl fun c => { c with state := st, pass := 0 }
  have r : Recorded u ((u.raise .imageStatus u.cfl.detail).loadEndPower) :=
    (Recorded.keptByPower u).loadEndPower ((Recorded.keptByPower u).raise _ _ _ .refl)
  have hfit : ((u.raise .imageStatus u.cfl.detail).loadEndPower).ftm.RecordsFit := by
    obtain ⟨h2, h3, h4, h6⟩ := hr
    refine ⟨by rw [r.upcoming, r.schedule]; exact h2, ?_, r.fits h4, by rw [r.scanFrame, r.schedule]; exact h6⟩
    have hn : s.ftm.upcoming = none := by simpa [hi.mpr hl] using h2
    rw [r.upcoming]
    simp [u, hn]
  obtain ⟨k1, k2⟩ := hfit.leaveIdle (r.schedule.trans (hi.mpr hl)) s.now
  refine State.framesConsistent_iff.mpr ⟨?_, k1⟩
  have e : (s.endLoading st).cfl.state = st := r.loader
  rw [e]
  exact iff_of_false k2 hst

theorem State.imageHeader_frames (h : s.framesConsistent) (hl : s.cfl.state = .loading) (w0 w1 : Word) :
    (s.imageHeader w0 w1).framesConsistent := by
  have h1 : (s.onCfl fun c => c.takeHeader w0 w1).framesConsistent := h
  simp only [State.imageHeader]
  split
  · exact State.endLoading_frames h1 hl (by simp)
  · split
    · exact State.endLoading_frames h1 hl (by simp)
    · exact h1

theorem State.imageBody_frames (h : s.framesConsistent) (hl : s.cfl.state = .loading) (body : List Word) :
    (s.imageBody body).framesConsistent := by
  unfold State.imageBody
  split
  · exact h
  · exact State.endLoading_frames (s := s.onCfl fun c => { c with position := 2 + c.length }) h hl (by simp)

theorem State.finishLoading_frames (h : s.framesConsistent) (hl : s.cfl.state = .loading) : s.finishLoading.framesConsistent := by
  unfold State.finishLoading
  split <;> exact State.endLoading_frames h hl (by simp)

theorem State.imageRecord_frames (h : s.framesConsistent) (hl : s.cfl.state = .loading) (w : Word) (data : List Word) :
    (s.imageRecord w data).framesConsistent := by
  have htake : ∀ (u : State) t hd pos, u.framesConsistent → u.cfl.state = .loading →
      (u.takeRecord t hd pos data).framesConsistent ∧ (u.takeRecord t hd pos data).cfl.state = .loading := by
    intro u t hd pos hu hul
    unfold State.takeRecord
    split
    · exact ⟨hu, hul⟩
    · split
      · exact ⟨hu, hul⟩
      · rename_i es c _
        refine ⟨State.store_frames hu t es, ?_⟩
        have hc := (u.store_within t es).cfl.resolve_left (by cases t <;> decide)
        exact (congrArg Cfl.state hc).trans hul
  unfold State.imageRecord
  dsimp only
  split
  · exact State.finishLoading_frames (s := s.onCfl _) h hl
  · split
    · exact State.finishLoading_frames (s := s.onCfl _) h hl
    · split
      · obtain ⟨k1, k2⟩ := htake (s.onCfl fun c => { c with
          position := s.cfl.recordPos + 1 + (readRecordHeader w).count * Table.fields _ }) _ (readRecordHeader w)
            s.cfl.recordPos h hl
        unfold State.afterRecord
        split
        · exact State.finishLoading_frames k1 k2
        · exact k1
      · exact h

theorem State.takeIf_frames {due : State → Bool} {f : State → State}
    (hf : s.framesConsistent → due s = true → (f s).framesConsistent) (h : s.framesConsistent) :
    (s.takeIf due f).framesConsistent := by
  unfold State.takeIf
  split
  · exact State.edged_frames (hf h ‹_›)
  · exact h

theorem State.startPulse_recorded (s : State) (g : Side) : Recorded s (s.startPulse g) :=
  Recorded.onFtm (s := s) (f := fun x => { x with gens := x.gens.modify g _ }) rfl

theorem State.endPulse_recorded (s : State) (g : Side) : Recorded s (s.endPulse g) := by
  have h : ∀ (s : State) g f, Recorded s (s.onGen g f) := fun s g f =>
    Recorded.onFtm (s := s) (f := fun x => { x with gens := x.gens.modify g f }) rfl
  unfold State.endPulse
  split
  · exact (h _ _ _).trans (h _ _ _)
  · exact h _ _ _

theorem State.takeDue_frames (h : s.framesConsistent) : s.takeDue.framesConsistent := by
  unfold State.takeDue
  refine State.evaluateIfDue_frames (State.takeIf_frames State.frameStart_frames ?_)
  refine State.takeIf_frames (fun h _ => (State.endStrobe_recorded _ _).frames h) ?_
  refine State.takeIf_frames (fun h _ => (State.beginStrobe_recorded _ _).frames h) ?_
  refine State.takeIf_frames (fun h _ => (State.endStrobe_recorded _ _).frames h) ?_
  refine State.takeIf_frames (fun h _ => (State.beginStrobe_recorded _ _).frames h) ?_
  refine State.takeIf_frames (fun h _ => (State.endPulse_recorded _ _).frames h) ?_
  refine State.takeIf_frames (fun h _ => (State.startPulse_recorded _ _).frames h) ?_
  refine State.takeIf_frames (fun h _ => (State.endPulse_recorded _ _).frames h) ?_
  exact State.takeIf_frames (fun h _ => (State.startPulse_recorded _ _).frames h) h

theorem State.rebase_frames (h : s.framesConsistent) (d : Int) : (s.rebase d).framesConsistent :=
  framesConsistent_of_ftm h rfl Iff.rfl fun hr => hr.rebase d

theorem State.timeUpdate_frames (h : s.framesConsistent) (ref : Time) : (s.timeUpdate ref).framesConsistent := by
  unfold State.timeUpdate
  split
  · exact State.rebase_frames (s := (s.onLrx _).raise _ _) h _
  · exact State.rebase_frames (s := (s.onLrx _).raise _ _) h _
  · exact h
  · exact h
  · exact (Recorded.of_within (s.timeFault_within _) (by decide) (by decide)).frames h

theorem State.syncCell_frames (h : s.framesConsistent) (c : RxCell) (bytes : List Byte) :
    (s.syncCell c bytes).framesConsistent := by
  have htarget : ∀ (u : State) x f, u.framesConsistent → (u.syncTarget x f).framesConsistent := by
    intro u x f hu
    unfold State.syncTarget
    split
    · exact hu
    · split
      · exact hu
      · exact State.edged_frames (State.target_frames hu _ _)
  unfold State.syncCell
  split
  · unfold State.sync
    refine htarget _ _ _ ?_
    have h1 : (s.edged fun s => s.timeUpdate ((readSync bytes).ct + BitVec.ofNat 32 s.lrx.linkDelay)).framesConsistent :=
      State.edged_frames (State.timeUpdate_frames h _)
    split
    · exact State.edged_frames (State.timeUpdate_frames h _)
    · exact State.takeDue_frames (State.edged_frames (State.timeUpdate_frames h _))
  · exact h

theorem State.pictureCell_frames (h : s.framesConsistent) (c : PicCell) : (s.pictureCell c).framesConsistent := by
  have hpxp : ∀ {u t : State}, Within [.pxp] u t → u.framesConsistent → t.framesConsistent := fun w hu =>
    (Recorded.of_within w (by decide) (by decide)).frames hu
  obtain ⟨u, w, w' | ⟨n, t, w'⟩⟩ := s.pictureCell_cases c
  · exact hpxp w' (hpxp w h)
  · exact hpxp w' (State.writePose_frames (hpxp w h) n t)

theorem State.steer_frames (h : s.framesConsistent) (c : RxCell) (bytes : List Byte) (g : Option Nat) (d : Destination) :
    (s.steer c bytes g d).framesConsistent := by
  cases d with
  | discard => exact h
  | panelA => exact State.pictureCell_frames h _
  | panelB => exact State.pictureCell_frames h _
  | panelBoth => exact State.pictureCell_frames h _
  | audio =>
    exact framesConsistent_keptByPower.refreshLoads
      ((Recorded.of_within (s.audioCell_within _ _ _ _) (by decide) (by decide)).frames h)
  | sideband => exact (Recorded.of_eq rfl rfl).frames h

theorem State.steering_frames (h : s.framesConsistent) (c : RxCell) (bytes : List Byte) :
    (s.steering c bytes).framesConsistent := by
  unfold State.steering
  dsimp only
  have h1 : (s.trackCell c).framesConsistent := h
  split
  · exact h1
  · split
    · exact h1
    · exact State.steer_frames h1 _ _ _ _

theorem State.deliver_frames (h : s.framesConsistent) (c : RxCell) (bytes : List Byte) : (s.deliver c bytes).framesConsistent := by
  unfold State.deliver
  split
  · unfold State.streamZero
    split
    · exact h
    · exact h
    · exact State.edged_frames (s := s) (f := fun s => s.request _ _ _) (State.request_frames h _ _ _)
    · exact State.syncCell_frames h c bytes
    · exact h
  · exact State.edged_frames (State.steering_frames h c bytes)

theorem State.lockedArrival_frames (h : s.framesConsistent) (c : RxCell) (bytes : List Byte) (good : Bool) :
    (s.lockedArrival c bytes good).framesConsistent := by
  have h1 : (s.edged fun s => s.passWindow good).framesConsistent :=
    State.edged_frames ((Recorded.of_within (s.passWindow_within good) (by decide) (by decide)).frames h)
  unfold State.lockedArrival
  dsimp only
  split
  · exact State.deliver_frames h1 _ _
  · exact (Recorded.of_within (State.badPayload_within _ _ _) (by decide) (by decide)).frames h1

theorem State.arrive_frames (h : s.framesConsistent) (c : RxCell) (pl : List Byte) (p0 p1 : Byte) :
    (s.arrive c pl p0 p1).framesConsistent := by
  have h1 : ((s.onLrx fun l => { l with cell := none }).onStu fun u => { u with inForce := u.written }).framesConsistent :=
    (Recorded.of_eq rfl rfl).frames h
  unfold State.arrive
  dsimp only
  split
  · exact State.lockedArrival_frames h1 _ _ _
  · exact (Recorded.of_eq rfl rfl).frames h1

theorem framesConsistent_reset {t : State} (hf : t.ftm = Ftm.reset) (hc : t.cfl = Cfl.reset) : t.framesConsistent := by
  rw [State.framesConsistent_iff, hf, hc]
  refine ⟨by decide, ⟨by decide, by simp [Ftm.reset], ⟨by simp [Ftm.reset], by simp [Ftm.reset], fun _ => rfl⟩, by decide⟩⟩

theorem Act.frames {t : State} (a : Act s t) (h : s.framesConsistent) : t.framesConsistent := by
  have hp := framesConsistent_keptByPower
  have hw : ∀ {bs : List Part} {u t : State}, Within bs u t → Part.ftm ∉ bs → Part.cfl ∉ bs → u.framesConsistent →
      t.framesConsistent := fun w h1 h2 hu => (Recorded.of_within w h1 h2).frames hu
  cases a with
  | idle => exact h
  | reset _ => exact framesConsistent_reset rfl rfl
  | pins i l => exact h
  | header b0 b1 b2 b3 _ => exact hw (s.judgeHeader_within _ _ _ _) (by decide) (by decide) h
  | arrival c pl p0 p1 _ => exact State.arrive_frames h _ _ _ _
  | slewEnd _ => exact h
  | restart => exact hw s.restart.pick_within (by decide) (by decide) (framesConsistent_reset rfl rfl)
  | pick => exact hw s.pick_within (by decide) (by decide) h
  | request op table r => exact State.request_frames h _ _ _
  | imageHeader w0 w1 hl => exact State.imageHeader_frames h hl _ _
  | imageBody body hl => exact State.imageBody_frames h hl _
  | imageRecord w data hl => exact State.imageRecord_frames h hl _ _
  | frameStart hd => exact State.frameStart_frames h hd
  | evaluation => exact State.evaluate_frames h
  | pulseStart g => exact (s.startPulse_recorded g).frames h
  | pulseEnd g => exact (s.endPulse_recorded g).frames h
  | linePulseEnd => exact h
  | lineOut p _ => exact (s.lineOut_recorded p).frames h
  | strobeStart p _ => exact (s.beginStrobe_recorded p).frames h
  | strobeEnd p _ => exact (s.endStrobe_recorded p).frames h
  | pinChange i l => exact hw (s.pinChange_within i l) (by decide) (by decide) h
  | dueMoment e => exact hw ((s.trigger_within e s.now).trans (State.onPoll_within _ _ _)) (by decide) (by decide) h
  | pollEnd b w o => exact hw (s.pollCompletes_within b w o) (by decide) (by decide) h
  | clockHold => exact hw s.clockHold_within (by decide) (by decide) h
  | recovered r n => exact hw (s.recoverySucceeds_within r n) (by decide) (by decide) h
  | unrecovered r n => exact hw (s.recoveryFails_within r n) (by decide) (by decide) h
  | retry => exact hw (s.startRecovery_within _ _) (by decide) (by decide) h
  | relayEnd r o => exact hw (s.relayCompletes_within r o) (by decide) (by decide) h
  | relayRead r => exact hw (s.relayToRead_within r) (by decide) (by decide) h
  | relayWritten r => exact hw (s.relayWriteEnds_within r) (by decide) (by decide) h
  | relayTimeout =>
    exact hw (State.relayAbort_within _) (by decide) (by decide) (hw (s.slotReply_within _ _) (by decide) (by decide) h)
  | flush => exact State.judgeBatch_frames h
  | period => exact hw s.period_within (by decide) (by decide) h
  | output => exact h
  | idleTimer => exact hp.refreshLoads ((Recorded.of_eq rfl rfl).frames h)
  | micSample x => exact hw (s.micSample_within x) (by decide) (by decide) h
  | stepEnd c p _ => exact hp.refreshLoads (hp.patternStep h c p)
  | rise c p _ => exact h
  | reverse c p _ => exact h
  | carrier => exact h
  | deadTimeEnd => exact h
  | onTimeEnd => exact h
  | measure mv ma =>
    exact hp.measure mv ma ((Recorded.of_eq rfl rfl).frames h)

theorem State.advance_frames (h : s.framesConsistent) : s.advance.framesConsistent := by
  unfold State.advance
  dsimp only
  split <;> exact h

/-- Settles O60, over every act of a step. -/
theorem stepKeepsFramesConsistent : Obligations.StepKeepsFramesConsistent := fun _ _ h hs =>
  step_keeps (fun _ _ h => h) (fun _ h => State.advance_frames h) (fun _ _ h a => a.frames h)
    (fun _ _ _ h => State.handEdges_frames h _ _) h hs

end Sys2Proof.Machine
end

section
/-! The link stays consistent at every step (R6 to R14, R31, R33, R87): what keeps the link receiver's machines, the streams,
the side-band word and the slice contexts as they are, the header judgement, the arrival of a cell, and every act. -/

namespace Sys2Proof.Machine

open Sys2Proof

/-- The link receiver's part of the invariant (R2, R7, R12, R14). -/
def Lrx.Fits (l : Lrx) : Prop :=
  (∀ c ∈ l.cell, c.locked = true → l.lock = .locked) ∧ l.winErrors ≤ l.winCells ∧ l.winCells < 4096
    ∧ (l.timeState ≠ .slewing → l.deficit = 0) ∧ l.deficit ≤ 4096 ∧ l.faults ≤ 3 ∧ (l.timeState = .unset → l.faults = 0)

/-- Nothing of a stream is held (R6, R31, R33, R87). -/
def State.Streamless (s : State) : Prop :=
  s.stu.wordCurrent = false ∧ s.pxp.contexts = Vector.replicate 4 none ∧ ∀ n : Fin 32, s.stu.streams[n].isNew

/-- No PASS and no pass window (R8). -/
def Lrx.Passless (l : Lrx) : Prop := l.pass = false ∧ l.winCells = 0 ∧ l.winErrors = 0

theorem State.linkConsistent_iff (s : State) :
    s.linkConsistent ↔ s.lrx.Fits ∧ (s.lrx.lock ≠ .locked → s.lrx.Passless ∧ s.Streamless) := by
  unfold State.linkConsistent Lrx.Fits Lrx.Passless State.Streamless
  tauto

/-- In LOCKED the invariant is the link receiver's part. -/
theorem linkConsistent_of_locked {s : State} (hl : s.lrx.lock = .locked) (hf : s.lrx.Fits) : s.linkConsistent :=
  s.linkConsistent_iff.mpr ⟨hf, fun h => absurd hl h⟩

/-- The lock, pass and time machines stand as they stood. -/
structure Lrx.Same (l m : Lrx) : Prop where
  lock : m.lock = l.lock
  cell : m.cell = l.cell
  pass : m.pass = l.pass
  winCells : m.winCells = l.winCells
  winErrors : m.winErrors = l.winErrors
  timeState : m.timeState = l.timeState
  deficit : m.deficit = l.deficit
  faults : m.faults = l.faults

theorem Lrx.Same.refl {l : Lrx} : Lrx.Same l l := ⟨rfl, rfl, rfl, rfl, rfl, rfl, rfl, rfl⟩

theorem Lrx.Same.fits {l m : Lrx} (h : Lrx.Same l m) (hf : l.Fits) : m.Fits := by
  unfold Lrx.Fits at *
  rw [h.lock, h.cell, h.winCells, h.winErrors, h.timeState, h.deficit, h.faults]
  exact hf

/-- `t` follows `s` with the link receiver's machines as they stood and nothing of a stream taken up where nothing was. -/
structure LinkKept (s t : State) : Prop where
  lrx : Lrx.Same s.lrx t.lrx
  streamless : s.Streamless → t.Streamless

namespace LinkKept

variable {s t u : State}

theorem refl : LinkKept s s := ⟨.refl, id⟩

theorem trans (h : LinkKept s t) (k : LinkKept t u) : LinkKept s u :=
  ⟨⟨k.lrx.lock.trans h.lrx.lock, k.lrx.cell.trans h.lrx.cell, k.lrx.pass.trans h.lrx.pass,
    k.lrx.winCells.trans h.lrx.winCells, k.lrx.winErrors.trans h.lrx.winErrors, k.lrx.timeState.trans h.lrx.timeState,
    k.lrx.deficit.trans h.lrx.deficit, k.lrx.faults.trans h.lrx.faults⟩, k.streamless ∘ h.streamless⟩

/-- A change outside the link receiver, the steering unit and the slice contexts. -/
theorem of_contexts (hl : t.lrx = s.lrx) (hs : t.stu = s.stu) (hc : t.pxp.contexts = s.pxp.contexts) : LinkKept s t := by
  refine ⟨by rw [hl]; exact .refl, ?_⟩
  unfold State.Streamless
  rw [hs, hc]
  exact id

theorem of_within {bs : List Part} (w : Within bs s t) (h1 : Part.lrx ∉ bs) (h2 : Part.stu ∉ bs) (h3 : Part.pxp ∉ bs) :
    LinkKept s t :=
  of_contexts (w.lrx.resolve_left h1) (w.stu.resolve_left h2) (by rw [w.pxp.resolve_left h3])

theorem of_calm {bs : List Part} (c : Calm s t) (w : Within bs s t) (h1 : Part.lrx ∉ bs) (h2 : Part.stu ∉ bs) : LinkKept s t :=
  of_contexts (w.lrx.resolve_left h1) (w.stu.resolve_left h2) c.contexts

theorem onLrx {f : Lrx → Lrx} (h : Lrx.Same s.lrx (f s.lrx)) : LinkKept s (s.onLrx f) := ⟨h, id⟩

theorem onPanel (p : Side) (f : PanelState → PanelState) : LinkKept s (s.onPanel p f) := of_contexts rfl rfl rfl

theorem link (k : LinkKept s t) (h : s.linkConsistent) : t.linkConsistent := by
  rw [State.linkConsistent_iff] at h ⊢
  refine ⟨k.lrx.fits h.1, fun hl => ?_⟩
  obtain ⟨hp, hs⟩ := h.2 (by rw [← k.lrx.lock]; exact hl)
  refine ⟨?_, k.streamless hs⟩
  unfold Lrx.Passless at *
  rw [k.lrx.pass, k.lrx.winCells, k.lrx.winErrors]
  exact hp

/-- The power manager's work does not touch the link. -/
theorem keptByPower (s : State) : KeptByPower (LinkKept s) where
  pmg _ f _ h := h.trans (.of_within (State.onPmg_within _ f) (by decide) (by decide) (by decide))
  cap _ _ _ h := h.trans (.of_within (State.onAuu_within _ _) (by decide) (by decide) (by decide))
  pte _ f h := h.trans (.of_within (State.onPte_within _ f) (by decide) (by decide) (by decide))
  raise _ k d h := h.trans (.of_within (State.raise_within _ k d) (by decide) (by decide) (by decide))
  handClass _ c h := h.trans (.of_within (State.handClass_within _ c) (by decide) (by decide) (by decide))
  panelOff _ p h := h.trans (.of_calm (State.panelOff_calm _ p) (State.panelOff_within _ p) (by decide) (by decide))
  panelWake _ p h := h.trans (onPanel _ _)
  holdStrobe _ p h := h.trans ((onPanel _ _).trans
    (.of_calm (State.tryComplete_calm _ p) (State.tryComplete_within _ p) (by decide) (by decide)))
  releaseStrobe _ p h := h.trans (onPanel _ _)

end LinkKept

/-! ### What leaves the link alone -/

variable (s : State)

theorem State.outputLine_linkKept (p : Side) (y : Nat) : LinkKept s (s.outputLine p y) := by
  simp only [State.outputLine]
  split <;> exact .of_contexts rfl rfl rfl

theorem State.tryComplete_linkKept (p : Side) : LinkKept s (s.tryComplete p) :=
  .of_calm (s.tryComplete_calm p) (s.tryComplete_within p) (by decide) (by decide)

theorem State.lineOut_linkKept (p : Side) : LinkKept s (s.lineOut p) := by
  simp only [State.lineOut]
  split
  · exact (s.outputLine_linkKept _ _).trans (((LinkKept.of_calm (State.closeScan_calm _ _ _) (State.closeScan_within _ _ _)
      (by decide) (by decide)).trans (LinkKept.onPanel _ _)).trans (State.tryComplete_linkKept _ _))
  · exact s.outputLine_linkKept _ _

theorem State.beginStrobe_linkKept (p : Side) : LinkKept s (s.beginStrobe p) :=
  ((LinkKept.onPanel _ _).trans (.of_within (State.onScanning_within _ _) (by decide) (by decide) (by decide))).trans
    (State.tryComplete_linkKept _ _)

theorem State.endStrobe_linkKept (p : Side) : LinkKept s (s.endStrobe p) :=
  (LinkKept.onPanel _ _).trans (State.tryComplete_linkKept _ _)

theorem State.sweepContext_linkKept (i : Fin 4) : LinkKept s (s.sweepContext i) := by
  refine ⟨by rw [(s.sweepContext_within i).lrx.resolve_left (by decide)]; exact .refl, fun h => ?_⟩
  have hn : s.pxp.contexts[i] = none := by simp [h.2.1]
  unfold State.sweepContext
  rw [hn]
  exact h

theorem State.panelInForce_linkKept (p : Side) : LinkKept s (s.panelInForce p) := by
  refine ⟨by rw [(s.panelInForce_within p).lrx.resolve_left (by decide)]; exact .refl, fun ⟨h1, h2, h3⟩ => ?_⟩
  simp only [State.panelInForce]
  split
  · refine ⟨h1, ?_, h3⟩
    simp [Pxp.dropContexts, h2]
  · exact ⟨h1, h2, h3⟩

theorem State.cutAtStart_linkKept (p : Side) (F : Option FrameNo) : LinkKept s (s.cutAtStart p F) := by
  unfold State.cutAtStart
  split
  · exact .of_calm (s.cutScan_calm p F) (s.cutScan_within p F) (by decide) (by decide)
  · exact .refl

theorem State.frameRecords_linkKept (old : Option FrameNo) : LinkKept s (s.frameRecords old) := by
  unfold State.frameRecords
  refine LinkKept.trans ?_ (.of_within (State.onFtm_within _ _) (by decide) (by decide) (by decide))
  refine LinkKept.trans ?_ (.of_within (State.lateEvaluate_within _) (by decide) (by decide) (by decide))
  refine LinkKept.trans ?_ (.of_within (State.finishRecord_within _) (by decide) (by decide) (by decide))
  exact (s.cutAtStart_linkKept .a old).trans (State.cutAtStart_linkKept _ .b old)

theorem State.firstLine_linkKept (p : Side) : LinkKept s (s.firstLine p) := by
  unfold State.firstLine
  split
  · exact s.outputLine_linkKept _ _
  · exact .refl

theorem State.picturesStart_linkKept (old : Option FrameNo) : LinkKept s (s.picturesStart old) := by
  have hsweep : ∀ (xs : List (Fin 4)) (u : State), LinkKept u (xs.foldl State.sweepContext u) := by
    intro xs
    induction xs with
    | nil => exact fun _ => .refl
    | cons i xs ih => exact fun u => (u.sweepContext_linkKept i).trans (ih _)
  have hstart : ∀ (u : State) p, LinkKept u (u.panelStart p old) := fun u p => .onPanel _ _
  unfold State.picturesStart
  refine LinkKept.trans ?_ (State.firstLine_linkKept _ _)
  refine LinkKept.trans ?_ (State.firstLine_linkKept _ _)
  refine LinkKept.trans ?_ (.of_within (State.namePanels_within _) (by decide) (by decide) (by decide))
  refine LinkKept.trans ?_ (hstart _ _)
  refine LinkKept.trans ?_ (hstart _ _)
  refine LinkKept.trans ?_ (hsweep _ _)
  exact (s.panelInForce_linkKept _).trans (State.panelInForce_linkKept _ _)

theorem State.startPulses_linkKept : LinkKept s s.startPulses := ⟨.refl, id⟩

theorem State.frameStart_linkKept : LinkKept s s.frameStart := by
  unfold State.frameStart
  refine LinkKept.trans ?_ ((LinkKept.keptByPower _).refreshLoads .refl)
  refine LinkKept.trans ?_ (State.startPulses_linkKept _)
  refine LinkKept.trans ?_ (.of_within (State.onFtm_within _ _) (by decide) (by decide) (by decide))
  refine LinkKept.trans ?_ (State.picturesStart_linkKept _ _)
  refine LinkKept.trans ?_ (State.frameRecords_linkKept _ _)
  exact .of_within s.frameNumbers_within (by decide) (by decide) (by decide)

theorem State.handEdges_linkKept (old new : BitVec 6) : LinkKept s (s.handEdges old new) :=
  .of_within (s.handEdges_within old new) (by decide) (by decide) (by decide)

variable {s}

theorem State.edged_linkKept {f : State → State} (h : LinkKept s (f s)) : LinkKept s (s.edged f) :=
  h.trans (State.handEdges_linkKept _ _ _)

theorem State.takeIf_linkKept {due : State → Bool} {f : State → State} (h : LinkKept s (f s)) : LinkKept s (s.takeIf due f) := by
  unfold State.takeIf
  split
  · exact State.edged_linkKept h
  · exact .refl

variable (s)

theorem State.evaluate_linkKept : LinkKept s s.evaluate := .of_within s.evaluate_within (by decide) (by decide) (by decide)

theorem State.evaluateIfDue_linkKept : LinkKept s s.evaluateIfDue :=
  .of_within s.evaluateIfDue_within (by decide) (by decide) (by decide)

theorem State.startPulse_linkKept (g : Side) : LinkKept s (s.startPulse g) := .of_contexts rfl rfl rfl

theorem State.endPulse_linkKept (g : Side) : LinkKept s (s.endPulse g) :=
  .of_within (s.endPulse_within g) (by decide) (by decide) (by decide)

theorem State.takeDue_linkKept : LinkKept s s.takeDue := by
  unfold State.takeDue
  refine LinkKept.trans ?_ (State.evaluateIfDue_linkKept _)
  refine LinkKept.trans ?_ (State.takeIf_linkKept (State.frameStart_linkKept _))
  refine LinkKept.trans ?_ (State.takeIf_linkKept (State.endStrobe_linkKept _ _))
  refine LinkKept.trans ?_ (State.takeIf_linkKept (State.beginStrobe_linkKept _ _))
  refine LinkKept.trans ?_ (State.takeIf_linkKept (State.endStrobe_linkKept _ _))
  refine LinkKept.trans ?_ (State.takeIf_linkKept (State.beginStrobe_linkKept _ _))
  refine LinkKept.trans ?_ (State.takeIf_linkKept (State.endPulse_linkKept _ _))
  refine LinkKept.trans ?_ (State.takeIf_linkKept (State.startPulse_linkKept _ _))
  exact (State.takeIf_linkKept (State.startPulse_linkKept _ _)).trans (State.takeIf_linkKept (State.endPulse_linkKept _ _))

theorem State.storeEntry_linkKept (t : Table) (e : EntryValues) : LinkKept s (s.storeEntry t e) := by
  cases t
  case link => exact ⟨⟨rfl, rfl, rfl, rfl, rfl, rfl, rfl, rfl⟩, id⟩
  case steering => exact ⟨.refl, id⟩
  case sideband => exact ⟨.refl, id⟩
  case poll => exact .of_within (s.storePoll_within _ _) (by decide) (by decide) (by decide)
  case power => exact (LinkKept.keptByPower s).storePower .refl _
  case panel => exact .onPanel _ _
  all_goals exact .of_contexts rfl rfl rfl

theorem State.judgeBatch_linkKept : LinkKept s s.judgeBatch :=
  .of_within s.judgeBatch_within (by decide) (by decide) (by decide)

theorem State.store_linkKept (t : Table) (es : List EntryValues) : LinkKept s (s.store t es) :=
  (LinkKept.keptByPower s).store .refl t es (fun u e h => h.trans (u.storeEntry_linkKept t e)) fun u h =>
    h.trans u.judgeBatch_linkKept

/-- A stream entry changed in place keeps the streams NEW if it stays NEW. -/
theorem State.onStream_linkKept (n : Fin 32) {f : StreamEntry → StreamEntry} (hf : ∀ e : StreamEntry, e.isNew → (f e).isNew) :
    LinkKept s (s.onStream n f) := by
  refine ⟨.refl, fun ⟨h1, h2, h3⟩ => ⟨h1, h2, fun k => ?_⟩⟩
  show ((tabMod s.stu.streams n f)[k]).isNew
  by_cases hk : n = k
  · subst hk
    rw [tabMod_same]
    exact hf _ (h3 n)
  · rw [tabMod_other _ _ hk]
    exact h3 k

theorem State.clearEntry_linkKept (t : Table) (i : Nat) : LinkKept s (s.clearEntry t i) := by
  cases t
  case link => exact ⟨⟨rfl, rfl, rfl, rfl, rfl, rfl, rfl, rfl⟩, id⟩
  case streamStatus => exact s.onStream_linkKept _ fun _ h => h
  case panel => exact .onPanel _ _
  all_goals exact .of_contexts rfl rfl rfl

theorem State.clearEntries_linkKept (t : Table) (n i : Nat) : LinkKept s (s.clearEntries t n i) := by
  induction n generalizing s i with
  | zero => exact .refl
  | succ n ih => exact (s.clearEntry_linkKept t i).trans (ih _ _)

theorem Effect.linkKept {op : Nat} {s t : State} (e : Effect op s t) : LinkKept s t := by
  have hp := LinkKept.keptByPower s
  cases e with
  | none => exact .refl
  | store t es _ => exact s.store_linkKept t es
  | clear t n i => exact s.clearEntries_linkKept t n i
  | restart => exact .of_contexts rfl rfl rfl
  | busRecover b => exact .of_within (s.busRecover_within b) (by decide) (by decide) (by decide)
  | fifoFlush => exact .of_contexts rfl rfl rfl
  | audioRestart => exact hp.refreshLoads (.of_contexts rfl rfl rfl)
  | play c n p b => exact hp.startPlay .refl _ _ _ _
  | stop c => exact hp.refreshLoads (hp.endPattern .refl _ _)
  | testStart => exact .onLrx ⟨rfl, rfl, rfl, rfl, rfl, rfl, rfl, rfl⟩
  | testStop => exact .onLrx ⟨rfl, rfl, rfl, rfl, rfl, rfl, rfl, rfl⟩

theorem State.request_linkKept (op : Nat) (table : Byte) (r : Request) : LinkKept s (s.request op table r) :=
  State.request_keeps (fun _ _ h => h.trans (.of_contexts rfl rfl rfl)) (fun _ _ h => h.trans (.of_contexts rfl rfl rfl))
    (fun _ _ _ h => h.trans (.of_contexts rfl rfl rfl)) (fun _ _ h e => h.trans e.linkKept)
    (fun s r h => h.trans (.of_within (s.relayHandOver_within r) (by decide) (by decide) (by decide))) .refl table r

theorem State.endLoading_linkKept (st : ImageState) : LinkKept s (s.endLoading st) := by
  have hp := LinkKept.keptByPower s
  have hcfl : LinkKept s (s.onCfl fun c => { c with state := st, pass := 0 }) := .of_contexts rfl rfl rfl
  have hftm : ∀ (u : State) f, LinkKept u (u.onFtm f) := fun u f => .of_contexts rfl rfl rfl
  unfold State.endLoading
  refine LinkKept.trans ?_ (hftm _ _)
  exact hp.loadEndPower (hp.raise _ _ _ hcfl)

theorem State.onCfl_linkKept (f : Cfl → Cfl) : LinkKept s (s.onCfl f) := .of_contexts rfl rfl rfl

theorem State.imageHeader_linkKept (w0 w1 : Word) : LinkKept s (s.imageHeader w0 w1) := by
  simp only [State.imageHeader]
  split
  · exact (s.onCfl_linkKept _).trans (State.endLoading_linkKept _ _)
  · split
    · exact (s.onCfl_linkKept _).trans (State.endLoading_linkKept _ _)
    · exact s.onCfl_linkKept _

theorem State.imageBody_linkKept (body : List Word) : LinkKept s (s.imageBody body) := by
  unfold State.imageBody
  split
  · exact s.onCfl_linkKept _
  · exact (s.onCfl_linkKept _).trans (State.endLoading_linkKept _ _)

theorem State.imageRecord_linkKept (w : Word) (data : List Word) : LinkKept s (s.imageRecord w data) := by
  have htake : ∀ (u : State) t hd pos, LinkKept u (u.takeRecord t hd pos data) := by
    intro u t hd pos
    unfold State.takeRecord
    split
    · exact u.onCfl_linkKept _
    · split
      · exact u.onCfl_linkKept _
      · exact (u.store_linkKept _ _).trans (State.onCfl_linkKept _ _)
  unfold State.imageRecord
  dsimp only
  split
  · exact (s.onCfl_linkKept _).trans (State.endLoading_linkKept _ _)
  · split
    · exact (s.onCfl_linkKept _).trans (State.endLoading_linkKept _ _)
    · split
      · have hafter : ∀ u : State, LinkKept u u.afterRecord := by
          intro u
          unfold State.afterRecord
          split
          · exact u.endLoading_linkKept _
          · exact .refl
        exact ((s.onCfl_linkKept _).trans (htake _ _ _ _)).trans (hafter _)
      · exact .refl

/-! ### Time -/

variable {s}

theorem Lrx.Fits.load {l : Lrx} (h : l.Fits) (ref : Time) : (l.load ref).Fits := by
  obtain ⟨h1, h2, h3, -, -, -, -⟩ := h
  exact ⟨h1, h2, h3, fun _ => rfl, by simp [Lrx.load], by simp [Lrx.load], fun _ => rfl⟩

theorem Lrx.Fits.slew {l : Lrx} (h : l.Fits) {n : Nat} (hn : n ≤ 4096) : (l.slew n).Fits := by
  obtain ⟨h1, h2, h3, -, -, -, -⟩ := h
  refine ⟨h1, h2, h3, fun h => absurd rfl h, hn, by simp [Lrx.slew], fun _ => rfl⟩

/-- A time update keeps the lock machine and the link receiver's part of the invariant (R11 to R14). -/
theorem State.timeUpdate_fits (h : s.lrx.Fits) (ref : Time) :
    (s.timeUpdate ref).lrx.lock = s.lrx.lock ∧ (s.timeUpdate ref).lrx.Fits := by
  unfold State.timeUpdate
  split
  · exact ⟨rfl, h.load ref⟩
  · exact ⟨rfl, h.load ref⟩
  · exact ⟨rfl, h.load ref⟩
  · rename_i n hn
    refine ⟨rfl, h.slew ?_⟩
    simp only [syncCase] at hn
    split_ifs at hn with h1 h2 h3 h4
    cases hn
    omega
  · rename_i d hd
    have hts : s.lrx.timeState ≠ .unset := by
      intro hu
      simp [syncCase, hu] at hd
    obtain ⟨h1, h2, h3, h4, h5, h6, -⟩ := h
    unfold State.timeFault
    dsimp only
    split
    · refine ⟨rfl, h1, h2, h3, fun _ => rfl, ?_, ?_, fun _ => rfl⟩
      · exact Nat.zero_le _
      · exact Nat.zero_le _
    · rename_i hf
      refine ⟨rfl, h1, h2, h3, h4, h5, ?_, fun hu => absurd hu hts⟩
      simp only [State.raise_lrx, State.onLrx_lrx] at hf ⊢
      omega

theorem Lrx.Fits.microsecond {l : Lrx} (h : l.Fits) : l.microsecond.Fits := by
  obtain ⟨h1, h2, h3, h4, h5, h6, h7⟩ := h
  unfold Lrx.microsecond
  split
  · exact ⟨h1, h2, h3, h4, h5, h6, h7⟩
  · exact ⟨h1, h2, h3, h4, h5, h6, h7⟩
  · rename_i hs
    split
    · exact ⟨h1, h2, h3, fun h => absurd hs h, (Nat.sub_le _ _).trans h5, h6, h7⟩
    · exact ⟨h1, h2, h3, h4, h5, h6, h7⟩

theorem State.advance_link (h : s.linkConsistent) : s.advance.linkConsistent := by
  rw [State.linkConsistent_iff] at h
  unfold State.advance
  dsimp only
  split
  · have hm : s.lrx.microsecond.lock = s.lrx.lock ∧ s.lrx.microsecond.pass = s.lrx.pass
        ∧ s.lrx.microsecond.winCells = s.lrx.winCells ∧ s.lrx.microsecond.winErrors = s.lrx.winErrors := by
      unfold Lrx.microsecond
      split
      · exact ⟨rfl, rfl, rfl, rfl⟩
      · exact ⟨rfl, rfl, rfl, rfl⟩
      · split <;> exact ⟨rfl, rfl, rfl, rfl⟩
    obtain ⟨e1, e2, e3, e4⟩ := hm
    refine (State.linkConsistent_iff _).mpr ⟨h.1.microsecond, fun hl => ?_⟩
    obtain ⟨hp, hs⟩ := h.2 (by rw [← e1]; exact hl)
    refine ⟨?_, hs⟩
    show s.lrx.microsecond.Passless
    unfold Lrx.Passless at *
    rw [e2, e3, e4]
    exact hp
  · exact (State.linkConsistent_iff _).mpr h

/-! ### Headers -/

/-- A good header keeps the invariant: only one judged in LOCKED marks its cell so (R2). -/
theorem State.goodHeader_link (h : s.linkConsistent) (b0 b1 b2 : Byte) : (s.goodHeader b0 b1 b2).linkConsistent := by
  rw [State.linkConsistent_iff] at h
  obtain ⟨⟨-, h2, h3, h4, h5, h6, h7⟩, hu⟩ := h
  have hc : ∀ c ∈ readHeader b0 b1 b2 false, c.locked = true → False := by
    intro c hc hl
    obtain ⟨k, -, rfl⟩ := Option.map_eq_some_iff.mp hc
    exact absurd hl (by simp)
  unfold State.goodHeader
  split
  · rename_i hl
    exact (State.linkConsistent_iff _).mpr ⟨⟨fun c hc' hl' => (hc c hc' hl').elim, h2, h3, h4, h5, h6, h7⟩,
      fun _ => hu (by simp [hl])⟩
  · rename_i hl
    split
    · exact linkConsistent_of_locked rfl ⟨fun _ _ _ => rfl, h2, h3, h4, h5, h6, h7⟩
    · exact (State.linkConsistent_iff _).mpr ⟨⟨fun c hc' hl' => (hc c hc' hl').elim, h2, h3, h4, h5, h6, h7⟩,
        fun _ => hu (by simp [hl])⟩
  · rename_i hl
    exact linkConsistent_of_locked hl ⟨fun _ _ _ => hl, h2, h3, h4, h5, h6, h7⟩

/-- A lock loss leaves nothing of a stream and no PASS (R6, R8, R31, R33, R87). -/
theorem State.lockLost_link (h : s.lrx.Fits) (hc : s.lrx.cell = none) : s.lockLost.linkConsistent := by
  obtain ⟨-, -, -, h4, h5, h6, h7⟩ := h
  refine (State.linkConsistent_iff _).mpr ⟨⟨?_, le_rfl, Nat.zero_lt_succ _, h4, h5, h6, h7⟩, fun _ => ⟨⟨rfl, rfl, rfl⟩, rfl, rfl, ?_⟩⟩
  · intro c hc'
    replace hc' : c ∈ s.lrx.cell := hc'
    simp [hc] at hc'
  · intro n
    simp [State.lockLost]

theorem State.badHeader_link (h : s.linkConsistent) (hc : s.lrx.cell = none) : s.badHeader.linkConsistent := by
  rw [State.linkConsistent_iff] at h
  obtain ⟨⟨h1, h2, h3, h4, h5, h6, h7⟩, hu⟩ := h
  have hcell : ∀ {p : Prop}, ∀ c ∈ s.lrx.cell, c.locked = true → p := by
    intro p c hc'
    simp [hc] at hc'
  unfold State.badHeader
  split
  · rename_i hl
    exact (State.linkConsistent_iff _).mpr ⟨⟨hcell, h2, h3, h4, h5, h6, h7⟩, fun _ => hu (by simp [hl])⟩
  · rename_i hl
    exact (State.linkConsistent_iff _).mpr ⟨⟨hcell, h2, h3, h4, h5, h6, h7⟩, fun _ => hu (by simp [hl])⟩
  · rename_i hl
    split
    · exact State.lockLost_link ⟨hcell, h2, h3, h4, h5, h6, h7⟩ hc
    · exact linkConsistent_of_locked hl ⟨hcell, h2, h3, h4, h5, h6, h7⟩

theorem State.judgeHeader_link (h : s.linkConsistent) (hc : s.lrx.cell = none) (b0 b1 b2 b3 : Byte) :
    (s.judgeHeader b0 b1 b2 b3).linkConsistent := by
  unfold State.judgeHeader
  split
  · exact State.goodHeader_link h _ _ _
  · exact State.badHeader_link h hc

/-! ### The arrival of a cell -/

/-- In LOCKED, and with the link receiver's part of the invariant. -/
def State.InLock (s : State) : Prop := s.lrx.lock = .locked ∧ s.lrx.Fits

theorem State.InLock.kept {t : State} (h : s.InLock) (k : LinkKept s t) : t.InLock := ⟨k.lrx.lock.trans h.1, k.lrx.fits h.2⟩

theorem State.InLock.of_lrx {t : State} (h : s.InLock) (e : t.lrx = s.lrx) : t.InLock := by
  unfold State.InLock at *
  rw [e]
  exact h

theorem State.InLock.edged {f : State → State} (h : (f s).InLock) : (s.edged f).InLock := h.kept (State.handEdges_linkKept _ _ _)

/-- The pass machine at an arrival (R7, R8), the cell no longer being taken in. -/
theorem State.arrived_fits (h : s.lrx.Fits) (good : Bool) : (s.arrived good).lrx.Fits := by
  obtain ⟨-, h2, h3, h4, h5, h6, h7⟩ := h
  refine ⟨by simp [State.arrived], ?_, ?_, h4, h5, h6, h7⟩
  · show (if decide (s.lrx.winCells + 1 = 4096) = true then 0 else s.lrx.winErrors + bit (!good))
      ≤ if decide (s.lrx.winCells + 1 = 4096) = true then 0 else s.lrx.winCells + 1
    split
    · exact le_rfl
    · have : bit (!good) ≤ 1 := by cases good <;> decide
      omega
  · show (if decide (s.lrx.winCells + 1 = 4096) = true then 0 else s.lrx.winCells + 1) < 4096
    split
    · omega
    · rename_i hn
      simp only [decide_eq_true_eq] at hn
      omega

theorem State.InLock.onLrx {f : Lrx → Lrx} (h : s.InLock) (hf : Lrx.Same s.lrx (f s.lrx)) : (s.onLrx f).InLock :=
  h.kept (.onLrx hf)

theorem Lrx.checkTest_same (l : Lrx) (c : RxCell) (bytes : List Byte) : Lrx.Same l (l.checkTest c bytes) := by
  unfold Lrx.checkTest
  split
  · exact ⟨rfl, rfl, rfl, rfl, rfl, rfl, rfl, rfl⟩
  · exact .refl

theorem State.InLock.syncTarget (h : s.InLock) (x : Sync) (f : Bool) : (s.syncTarget x f).InLock := by
  unfold State.syncTarget
  split
  · exact h
  · split
    · exact h.onLrx ⟨rfl, rfl, rfl, rfl, rfl, rfl, rfl, rfl⟩
    · exact .edged (h.of_lrx ((s.target_within _ _).lrx.resolve_left (by decide)))

theorem State.InLock.syncCell (h : s.InLock) (c : RxCell) (bytes : List Byte) : (s.syncCell c bytes).InLock := by
  have ht : ∀ ref, (s.edged fun s => s.timeUpdate ref).InLock := by
    intro ref
    obtain ⟨h1, h2⟩ := State.timeUpdate_fits h.2 ref
    exact .edged ⟨h1.trans h.1, h2⟩
  unfold State.syncCell
  split
  · unfold State.sync
    dsimp only
    split
    · exact (ht _).syncTarget _ _
    · exact State.InLock.syncTarget ((ht _).kept (State.takeDue_linkKept _)) _ _
  · exact h.onLrx ⟨rfl, rfl, rfl, rfl, rfl, rfl, rfl, rfl⟩

theorem State.InLock.deliver (h : s.InLock) (c : RxCell) (bytes : List Byte) : (s.deliver c bytes).InLock := by
  unfold State.deliver
  split
  · unfold State.streamZero
    split
    · exact h
    · exact h.of_lrx rfl
    · exact State.InLock.of_lrx (.edged (f := fun s => s.request _ _ _) (h.kept (s.request_linkKept _ _ _))) rfl
    · exact (h.syncCell c bytes).of_lrx rfl
    · exact (h.onLrx (s.lrx.checkTest_same _ _)).of_lrx rfl
  · exact .edged (h.of_lrx ((s.steering_within c bytes).lrx.resolve_left (by decide)))

theorem State.InLock.badPayload (h : s.InLock) (c : RxCell) (bytes : List Byte) : (s.badPayload c bytes).InLock := by
  have h0 : (s.onLrx fun l => { l with badPayloads := satInc l.badPayloads }).InLock :=
    h.onLrx ⟨rfl, rfl, rfl, rfl, rfl, rfl, rfl, rfl⟩
  have h1 := h0.of_lrx (t := (s.onLrx fun l => { l with badPayloads := satInc l.badPayloads }).onStream c.sn fun e =>
    { e with badPcrc := satInc e.badPcrc, gapPending := true }) rfl
  unfold State.badPayload
  dsimp only
  split
  · exact h1.onLrx (Lrx.checkTest_same _ _ _)
  · exact h1

theorem State.InLock.lockedArrival {t : State} {good : Bool} (h : (t.passWindow good).InLock) (c : RxCell) (bytes : List Byte) :
    (t.lockedArrival c bytes good).InLock := by
  unfold State.lockedArrival
  dsimp only
  split
  · exact State.InLock.deliver (.edged (f := fun s => s.passWindow good) h) _ _
  · exact State.InLock.badPayload (.edged (f := fun s => s.passWindow good) h) _ _

/-- An arrival keeps the invariant: a cell judged in LOCKED arrives in LOCKED (R3). -/
theorem State.arrive_link (h : s.linkConsistent) {c : RxCell} (hc : s.lrx.cell = some c) (pl : List Byte) (p0 p1 : Byte) :
    (s.arrive c pl p0 p1).linkConsistent := by
  rw [State.linkConsistent_iff] at h
  obtain ⟨hf, hu⟩ := h
  unfold State.arrive
  dsimp only
  split
  · rename_i hl
    have hlock := hf.1 c hc hl
    obtain ⟨k1, k2⟩ := State.InLock.lockedArrival (t := (s.onLrx fun l => { l with cell := none }).onStu fun u =>
      { u with inForce := u.written }) (good := payloadGood (pl.take (4 * c.len)) p0 p1)
      (by rw [State.passWindow_arrived]; exact ⟨hlock, State.arrived_fits hf _⟩) c (pl.take (4 * c.len))
    exact linkConsistent_of_locked k1 k2
  · obtain ⟨-, h2, h3, h4, h5, h6, h7⟩ := hf
    exact (State.linkConsistent_iff _).mpr ⟨⟨by simp, h2, h3, h4, h5, h6, h7⟩, hu⟩

/-! ### Every act -/

theorem Lrx.Fits.restarted {l : Lrx} (h : l.Fits) : l.restarted.Fits := by
  obtain ⟨h1, h2, h3, -⟩ := h
  exact ⟨h1, h2, h3, fun _ => rfl, Nat.zero_le _, Nat.zero_le _, fun _ => rfl⟩

/-- The steering unit and the picture path at their reset values hold nothing of a stream. -/
theorem streamless_of_reset {t : State} (hw : t.stu.wordCurrent = false) (hs : t.stu.streams = Stu.reset.streams)
    (hp : t.pxp = Pxp.reset) : t.Streamless := by
  refine ⟨hw, by rw [hp]; rfl, fun n => ?_⟩
  rw [hs]
  simp [Stu.reset, StreamEntry.reset]

theorem State.resetAll_link (s : State) (h : ResetHold) : (s.resetAll h).linkConsistent :=
  (State.linkConsistent_iff _).mpr
    ⟨⟨fun c hc => absurd hc (by simp [State.resetAll, State.reset, Lrx.reset]), le_rfl, Nat.zero_lt_succ _,
      fun _ => rfl, Nat.zero_le _, Nat.zero_le _, fun _ => rfl⟩, fun _ => ⟨⟨rfl, rfl, rfl⟩, streamless_of_reset rfl rfl rfl⟩⟩

theorem State.restart_link (h : s.linkConsistent) : s.restart.linkConsistent := by
  rw [State.linkConsistent_iff] at h
  exact (State.linkConsistent_iff _).mpr ⟨h.1.restarted, fun hl => ⟨(h.2 hl).1, streamless_of_reset rfl rfl rfl⟩⟩

theorem Act.link {t : State} (a : Act s t) (h : s.linkConsistent) : t.linkConsistent := by
  have hp := LinkKept.keptByPower s
  have hw : ∀ {bs : List Part} {u t : State}, Within bs u t → Part.lrx ∉ bs → Part.stu ∉ bs → Part.pxp ∉ bs →
      u.linkConsistent → t.linkConsistent := fun w h1 h2 h3 hu => (LinkKept.of_within w h1 h2 h3).link hu
  cases a with
  | idle => exact h
  | reset r => exact s.resetAll_link r
  | pins i l => exact LinkKept.link ⟨.refl, id⟩ h
  | header b0 b1 b2 b3 hc => exact State.judgeHeader_link h hc _ _ _ _
  | arrival c pl p0 p1 hc => exact State.arrive_link h hc _ _ _
  | slewEnd hd =>
    simp only [Lrx.slewOver, Bool.and_eq_true, decide_eq_true_eq] at hd
    rw [State.linkConsistent_iff] at h
    obtain ⟨⟨h1, h2, h3, -, h5, h6, -⟩, hu⟩ := h
    exact (State.linkConsistent_iff _).mpr ⟨⟨h1, h2, h3, fun _ => hd.2, h5, h6, fun h => absurd h (by simp)⟩, hu⟩
  | restart => exact hw s.restart.pick_within (by decide) (by decide) (by decide) (State.restart_link h)
  | pick => exact hw s.pick_within (by decide) (by decide) (by decide) h
  | request op table r => exact (s.request_linkKept _ _ _).link h
  | imageHeader w0 w1 _ => exact (s.imageHeader_linkKept _ _).link h
  | imageBody body _ => exact (s.imageBody_linkKept _).link h
  | imageRecord w data _ => exact (s.imageRecord_linkKept _ _).link h
  | frameStart _ => exact s.frameStart_linkKept.link h
  | evaluation => exact s.evaluate_linkKept.link h
  | pulseStart g => exact (s.startPulse_linkKept g).link h
  | pulseEnd g => exact (s.endPulse_linkKept g).link h
  | linePulseEnd => exact LinkKept.link ⟨.refl, id⟩ h
  | lineOut p _ => exact (s.lineOut_linkKept p).link h
  | strobeStart p _ => exact (s.beginStrobe_linkKept p).link h
  | strobeEnd p _ => exact (s.endStrobe_linkKept p).link h
  | pinChange i l =>
    refine LinkKept.link ?_ h
    simp only [State.pinChange]
    split
    · exact .refl
    · split <;> exact ⟨.refl, id⟩
  | dueMoment e =>
    exact hw ((s.trigger_within e s.now).trans (State.onPoll_within _ _ _)) (by decide) (by decide) (by decide) h
  | pollEnd b w o => exact hw (s.pollCompletes_within b w o) (by decide) (by decide) (by decide) h
  | clockHold => exact hw s.clockHold_within (by decide) (by decide) (by decide) h
  | recovered r n => exact hw (s.recoverySucceeds_within r n) (by decide) (by decide) (by decide) h
  | unrecovered r n => exact hw (s.recoveryFails_within r n) (by decide) (by decide) (by decide) h
  | retry => exact hw (s.startRecovery_within _ _) (by decide) (by decide) (by decide) h
  | relayEnd r o => exact hw (s.relayCompletes_within r o) (by decide) (by decide) (by decide) h
  | relayRead r => exact hw (s.relayToRead_within r) (by decide) (by decide) (by decide) h
  | relayWritten r => exact hw (s.relayWriteEnds_within r) (by decide) (by decide) (by decide) h
  | relayTimeout =>
    exact hw (State.relayAbort_within _) (by decide) (by decide) (by decide)
      (hw (s.slotReply_within _ _) (by decide) (by decide) (by decide) h)
  | flush => exact s.judgeBatch_linkKept.link h
  | period => exact hw s.period_within (by decide) (by decide) (by decide) h
  | output => exact LinkKept.link (.of_contexts rfl rfl rfl) h
  | idleTimer => exact LinkKept.link (hp.refreshLoads (.of_contexts rfl rfl rfl)) h
  | micSample x => exact hw (s.micSample_within x) (by decide) (by decide) (by decide) h
  | stepEnd c p _ => exact (hp.refreshLoads (hp.patternStep .refl c p)).link h
  | rise c p _ => exact LinkKept.link (.of_contexts rfl rfl rfl) h
  | reverse c p _ => exact LinkKept.link (.of_contexts rfl rfl rfl) h
  | carrier => exact LinkKept.link (.of_contexts rfl rfl rfl) h
  | deadTimeEnd => exact LinkKept.link (.of_contexts rfl rfl rfl) h
  | onTimeEnd => exact LinkKept.link (.of_contexts rfl rfl rfl) h
  | measure mv ma => exact LinkKept.link (hp.measure mv ma (.of_contexts rfl rfl rfl)) h

/-- Settles O59, over every act of a step. -/
theorem stepKeepsLinkConsistent : Obligations.StepKeepsLinkConsistent := fun _ _ h hs =>
  step_keeps (fun _ _ h => h) (fun _ h => State.advance_link h) (fun _ _ h a => a.link h)
    (fun _ _ _ h => (State.handEdges_linkKept _ _ _).link h) h hs

end Sys2Proof.Machine
end

section
/-! The machine as a whole: the step on a queue and without one, tether time on the oscillator, the part held in reset, timed rows
before their moment, and the resets (R9, R55, R169, R193). -/

namespace Sys2Proof.Machine

open Sys2Proof

/-! ### Steps -/

/-- Settles O1. -/
theorem stepRunsFrontCommand : Obligations.StepRunsFrontCommand := by
  intro c rest s h
  unfold step
  rw [h]

theorem mem_dueRow {due : Bool} {i c : Instr} : c ∈ dueRow due i ↔ due = true ∧ c = i := by
  cases due <;> simp [dueRow]

theorem State.mem_patternRows {s : State} {ch : Channel} {c : Instr} :
    c ∈ s.patternRows ch ↔ (s.due (.stepEnd ch) = true ∧ c = .stepEnd ch) ∨ (s.due (.elapsedRise ch) = true ∧ c = .elapsedRise ch)
      ∨ (s.due (.polarityReversal ch) = true ∧ c = .polarityReversal ch) := by
  unfold State.patternRows
  simp only [State.due]
  cases s.pte.chan ch <;> simp [mem_dueRow]

theorem State.mem_moments {s : State} {c : Instr} :
    (c ∈ allEntries.flatMap fun e => dueRow (s.momentDue e) (.dueMoment e)) ↔ ∃ e, s.momentDue e = true ∧ c = .dueMoment e := by
  have hall : ∀ e : Fin 8, e ∈ allEntries := by decide
  simp [List.mem_flatMap, mem_dueRow, hall]

/-- A row that a tick puts into the queue is due, or is the OUTPUT_FRAME of a period that begins. -/
theorem State.due_of_mem_tick {s : State} {c : Instr} (h : c ∈ s.tetherRows ++ s.oscRows) :
    s.due c = true ∨ (c = .outputFrame ∧ s.periodDue = true) := by
  simp only [State.tetherRows, State.oscRows, List.mem_append, State.mem_patternRows, State.mem_moments, mem_dueRow,
    Bool.and_eq_true, Bool.or_eq_true] at h
  casesm* _ ∨ _, ∃ _, _, _ ∧ _ <;> subst c <;> simp_all [State.due]

theorem State.periodStart_mem_tick {s : State} (h : s.periodDue = true) : Instr.periodStart ∈ s.tetherRows ++ s.oscRows := by
  simp [State.oscRows, mem_dueRow, h]

/-- A row that a tick brings due is put into the queue, a FLUSH_TIMEOUT only with room in the MOTION queue. -/
theorem State.mem_tick_of_due {s : State} {c : Instr} (ht : Instr.ticks c = true) (hd : s.due c = true)
    (hf : c ≠ .flushTimeout ∨ s.ltx.motion.length < motionCapacity) : c ∈ s.tetherRows ++ s.oscRows := by
  simp only [State.tetherRows, State.oscRows, List.mem_append, State.mem_patternRows, State.mem_moments, mem_dueRow,
    Bool.and_eq_true, Bool.or_eq_true]
  cases c with
  | exposurePulseStart g | exposurePulseEnd g | strobeStart g | strobeEnd g | lineOut g | stepEnd g | elapsedRise g
  | polarityReversal g => cases g <;> simp_all [State.due]
  | _ => simp_all [State.due, Instr.ticks]

/-- Whether a row is due does not depend on the commands waiting. -/
theorem State.due_pending (s : State) (q : List Instr) (c : Instr) : ({ s with pending := q } : State).due c = s.due c := by
  cases c <;> rfl

/-- Settles O2: the rows of a tick are those it brings due. -/
theorem idleStepIsOneTick : Obligations.IdleStepIsOneTick := by
  intro s hp hh
  have hadv : s.advance.pending = s.pending := by
    unfold State.advance
    dsimp only
    split <;> rfl
  have hdue : ∀ c, s.tick.due c = s.advance.due c := State.due_pending s.advance _
  refine ⟨s.tick, ?_, ?_, ?_, ?_, fun c hc => ?_, fun c ht hd hf => ?_⟩
  · unfold step
    rw [hp]
    rw [State.live_of_free _ hh]
  · simp only [State.tick]
    rw [← hadv]
  · simp only [State.tick, State.advance]
    split <;> rfl
  · simp only [State.tick, State.advance]
    split <;> rfl
  · rw [hdue]
    exact (State.due_of_mem_tick hc).imp id fun ⟨h, hd⟩ => ⟨h, State.periodStart_mem_tick hd⟩
  · rw [hdue] at hd
    exact State.mem_tick_of_due ht hd hf

/-! ### Tether time -/

theorem State.advance_of_steady {s : State} (ha : s.clock.usAcc < 3072) (ht : s.lrx.timeState ≠ .slewing) :
    s.advance = { s with
      lrx := { s.lrx with tt := s.lrx.tt + BitVec.ofNat 32 ((s.clock.usAcc + 125) / 3072) }
      clock := { s.clock with osc := s.clock.osc + 1, usAcc := (s.clock.usAcc + 125) % 3072 } } := by
  unfold State.advance
  by_cases hc : 3072 ≤ s.clock.usAcc + 125
  · have hd : (s.clock.usAcc + 125) / 3072 = 1 := by omega
    have hm : (s.clock.usAcc + 125) % 3072 = s.clock.usAcc + 125 - 3072 := by omega
    have hl : s.lrx.microsecond = { s.lrx with tt := s.lrx.tt + 1 } := by
      unfold Lrx.microsecond
      split <;> simp_all
    simp only [hc, if_true, hd, hm, State.onLrx, State.onClock, hl]
    rfl
  · have hd : (s.clock.usAcc + 125) / 3072 = 0 := by omega
    have hm : (s.clock.usAcc + 125) % 3072 = s.clock.usAcc + 125 := by omega
    simp only [hc, if_false, hd, hm, State.onClock, BitVec.add_zero]

/-- Settles O3, by induction on the number of ticks. -/
theorem tetherTimeKeepsMicroseconds : Obligations.TetherTimeKeepsMicroseconds := by
  intro n s ha ht
  induction n with
  | zero =>
    have hd : (s.clock.usAcc + 125 * 0) / 3072 = 0 := by omega
    have hm : (s.clock.usAcc + 125 * 0) % 3072 = s.clock.usAcc := by omega
    simp only [Function.iterate_zero, id_eq, hd, hm, BitVec.add_zero, Nat.add_zero, and_self]
  | succ n ih =>
    obtain ⟨hl, hc⟩ := ih
    rw [Function.iterate_succ_apply']
    have hu : (State.advance^[n] s).clock.usAcc < 3072 := by rw [hc]; exact Nat.mod_lt _ (by decide)
    have hts : (State.advance^[n] s).lrx.timeState ≠ .slewing := by rw [hl]; exact ht
    rw [State.advance_of_steady hu hts]
    simp only [hl, hc, BitVec.add_assoc, ← BitVec.ofNat_add]
    have hq : (s.clock.usAcc + 125 * n) / 3072 + ((s.clock.usAcc + 125 * n) % 3072 + 125) / 3072
        = (s.clock.usAcc + 125 * (n + 1)) / 3072 := by omega
    have hr : ((s.clock.usAcc + 125 * n) % 3072 + 125) % 3072 = (s.clock.usAcc + 125 * (n + 1)) % 3072 := by omega
    rw [hq, hr]
    exact ⟨rfl, by rw [Nat.add_assoc]⟩

/-- Two microseconds of a slew with a deficit left (R9). -/
theorem Lrx.microsecond_twice {l : Lrx} (ht : l.timeState = .slewing) (hh : l.slewHalf = false) :
    l.microsecond.microsecond = { l with tt := l.tt + 1, deficit := l.deficit - 1 } := by
  simp [Lrx.microsecond, ht, hh]

/-- Settles O4, by induction on the number of pairs of microseconds. -/
theorem slewRunsAtHalfRateAndEnds : Obligations.SlewRunsAtHalfRateAndEnds := by
  refine ⟨fun n l ht hh hn => ?_, fun s hh ht hd => ?_⟩
  · induction n with
    | zero => simp
    | succ n ih =>
      rw [Nat.mul_succ, Nat.add_comm, Function.iterate_add_apply, ← Function.iterate_add_apply, Nat.add_comm,
        Function.iterate_succ_apply', Function.iterate_succ_apply', ih (by omega), Lrx.microsecond_twice (by exact ht) (by exact hh)]
      simp [BitVec.add_assoc, BitVec.ofNat_add, Nat.sub_sub]
  · show Host.Outcome.next (s.live _) = _
    rw [State.live_of_free _ hh, if_pos (by simp [Lrx.slewOver, ht, hd])]
    rfl

/-! ### Power-on reset -/

/-- Every row but those of reset and the pins is for a part that is not held (R193). -/
theorem exec_live (c : Instr) (hr : ∀ x, c ≠ .powerOnReset x) (he : ∀ x, c ≠ .powerOnResetEnds x)
    (hp : ∀ i l, c ≠ .sidebandChange i l) : ∃ f : State → State, ∀ s, exec c s = .next (s.live f) := by
  cases c with
  | powerOnReset x => exact absurd rfl (hr x)
  | powerOnResetEnds x => exact absurd rfl (he x)
  | sidebandChange i l => exact absurd rfl (hp i l)
  | _ => exact ⟨_, fun _ => rfl⟩

/-- Settles O5. -/
theorem heldPartIgnoresCommands : Obligations.HeldPartIgnoresCommands := by
  refine ⟨fun c s hh hr he hp => ?_, fun i level s hh => ?_⟩
  · obtain ⟨f, hf⟩ := exec_live c hr he hp
    rw [hf, State.live_of_held _ hh]
  · exact congrArg _ (if_pos hh)

/-- A row that a part acts on only at its moment does nothing before it. -/
theorem live_before {s u : State} {c : Prop} [Decidable c] {f : State → State} (hh : s.held = false)
    (hf : f s = if c then u else s) (hc : ¬ c) : Host.Outcome.next (φ := Fault) (ρ := Refusal) (s.live f) = .next s := by
  rw [State.live_of_free _ hh, hf, if_neg hc]

/-- Settles O6, row by row: each acts under a test of its moment. -/
theorem rowNotDueChangesNothing : Obligations.RowNotDueChangesNothing := by
  intro c s hh hd
  have hn : ∀ {b : Bool}, b = false → ¬ b = true := fun h => by rw [h]; decide
  cases c with
  | slewEnd | restartTakesEffect | frameStart | evaluation | exposurePulseStart | exposurePulseEnd | frameStartPulseEnd | lineOut
  | strobeStart | strobeEnd | dueMoment | retryExpiry | relayTimeout | flushTimeout | periodStart | outputFrame
  | idleTimerExpiry | carrierPeriodStart | deadTimeEnd | onTimeEnd | measurement | microphoneSample | micBlockComplete =>
    exact live_before hh rfl (hn hd)
  | stepEnd c | elapsedRise c | polarityReversal c =>
    show Host.Outcome.next (s.live _) = _
    rw [State.live_of_free _ hh]
    simp only [State.due] at hd
    cases hp : s.pte.chan c with
    | none => rfl
    | some p =>
      rw [hp] at hd
      exact congrArg _ (if_neg (hn hd))
  | relayWaitEnd =>
    simp only [State.due, Option.isSome_eq_false_iff, Option.isNone_iff_eq_none] at hd
    show Host.Outcome.next (s.live _) = _
    rw [State.live_of_free _ hh, hd]
  | _ => exact Bool.noConfusion hd

/-! ### The resets -/

theorem exec_powerOnReset {s : State} (c : ResetCause) (h : ((s.hold.add c).supplyLow || (s.hold.add c).rstnLow) = true) :
    exec (.powerOnReset c) s = .next (s.resetAll (s.hold.add c)) :=
  congrArg _ (if_pos h)

/-- The reset lines drive nothing, whatever the levels at the pins. -/
theorem State.resetAll_drivenLevel (s : State) (h : ResetHold) (i : Fin 6) : (s.resetAll h).drivenLevel i = none := by
  refine if_pos ⟨?_, ?_⟩
  · show Stu.reset.lines[i].source = _
    revert i; decide
  · show State.reset.claimed i = false
    revert i; decide

theorem State.resetAll_outputs (s : State) :
    (s.resetAll ⟨false, false⟩).outputs = { Outputs.inReset with flash := some 1, dac := some (0, 0) } := by
  have hlines : (Vector.ofFn fun i => (s.resetAll ⟨false, false⟩).drivenLevel i) = Vector.replicate 6 none := by
    ext i hi
    simp [State.resetAll_drivenLevel]
  unfold State.outputs
  rw [hlines]
  rfl

/-- Settles O8. -/
theorem powerOnResetBeginsAndEnds : Obligations.PowerOnResetBeginsAndEnds := by
  intro s
  refine ⟨?_, fun mv h => ?_, fun mv h hh => ?_, fun hh => ?_, fun mv hh h => ?_, fun mv h hh => ?_, fun hh => if_pos hh, ?_⟩
  · rw [exec_powerOnReset _ (by simp [ResetHold.add])]
    rfl
  · have hb : mv < brownout := h
    rw [exec_powerOnReset _ (by simp [ResetHold.add, hb])]
    simp [ResetHold.add, hb, State.resetAll]
  · have hb : ¬ mv < brownout := Nat.not_lt.mpr h
    have hn : s.hold.supplyLow = false ∧ s.hold.rstnLow = false := by simpa [State.held] using hh
    exact congrArg _ (if_neg (by simp [ResetHold.add, hb, hn]))
  · rw [exec_powerOnResetEnds _ hh]
    rfl
  · have hb : ¬ mv < brownout := Nat.not_lt.mpr h
    rw [exec_powerOnResetEnds _ hh]
    simp [ResetHold.drop, hb, State.resetAll]
  · have hb : mv < brownout := h
    rw [exec_powerOnResetEnds _ hh]
    simp [ResetHold.drop, hb, State.resetAll]
  · exact s.resetAll_outputs

/-- Settles O9. -/
theorem restartTakesEffectKeepsLock : Obligations.RestartTakesEffectKeepsLock := by
  intro s hh hr
  have hpick : s.restartBoundary = { s.restart with ltx := { Ltx.reset with
      tx := some { source := .idle, wire := cellWire 0 .idle 0 [0, 0, 0, 0], restart := false } } } := rfl
  have hrow : exec .restartTakesEffect s = .next s.restartBoundary := exec_restartTakesEffect hh hr
  have hcell : exec .cellBoundary s = .next s.restartBoundary := by
    show Host.Outcome.next (s.live fun s => if s.restartSent then s.restartBoundary else s.pick) = _
    rw [State.live_of_free _ hh, if_pos hr]
  rw [hrow, hcell, hpick]
  exact ⟨rfl, rfl⟩

/-- Settles O7. -/
theorem resetLeavesSpecValues : Obligations.ResetLeavesSpecValues := by
  refine ⟨by decide, by decide, by decide, by decide, ⟨by decide, by decide, by decide, by decide, by decide, by decide, by decide,
    by decide, ?_⟩, ⟨?_, by decide⟩, by decide, by decide, by decide, by decide, by decide, by decide⟩
  · intro g
    cases g <;> decide
  · intro p
    cases p <;> decide

/-- Settles O55. -/
theorem resetStateIsSafe : Obligations.ResetStateIsSafe := by
  refine ⟨by decide, by decide, ⟨⟨fun _ => rfl, by decide, fun _ h => nomatch h⟩, fun _ => rfl, by decide, fun _ h => nomatch h⟩,
    by decide +kernel, by decide, ?_, ?_, by decide, by decide⟩
  · exact ⟨by simp [State.reset, Lrx.reset], by decide +kernel, by decide, by decide, by decide, by decide, by decide, by decide⟩
  · exact ⟨by decide, by decide, by simp [State.reset, Ftm.reset], by simp [State.reset, Ftm.reset],
      by simp [State.reset, Ftm.reset], by decide, by decide⟩

/-! ### Request rows -/

/-- A served command row comes to its command. -/
theorem exec_command {c : Instr} {code : Byte} {r : Request} {s : State} (h : Instr.asRequest c = some (3, code, r))
    (hs : s.serves r) : exec c s = .next (s.countTaken.doCommand code r) := by
  have hlive : Host.Outcome.next (φ := Fault) (ρ := Refusal) (s.live fun s => s.request 3 code r)
      = .next (s.countTaken.doCommand code r) := by
    rw [State.live_of_free _ hs.1, State.request_command hs]
  cases c <;> simp only [Instr.asRequest, Option.some.injEq, Prod.mk.injEq, reduceCtorEq, false_and, Nat.reduceEqDiff] at h <;>
    obtain ⟨-, rfl, rfl⟩ := h <;> exact hlive

/-- A row that writes a table whose store raises no line is the WRITE of that table. -/
theorem exec_write_quiet {table : Byte} {t : Table} (ht : Table.ofCode table.toNat = some t) (hq : t.quiet = true) (r : Request)
    (s : State) : exec (.write table r) s = .next (s.live fun s => s.request 1 table r) := by
  show Host.Outcome.next (s.live fun s => s.edged fun s => s.request 1 table r) = _
  unfold State.live
  split
  · rfl
  · exact congrArg _ (State.edged_of_noRise (f := fun s => s.request 1 table r)
      (s.request_write_quiet table r fun u hu => Option.some.inj (ht.symm.trans hu) ▸ hq).noRise)

/-- Settles O22. -/
theorem writeRowsAreWrites : Obligations.WriteRowsAreWrites := by
  intro r s
  have hw : ∀ {table : Byte} {t : Table}, Table.ofCode table.toNat = some t → t.quiet = true →
      Host.Outcome.next (φ := Fault) (ρ := Refusal) (s.live fun s => s.request 1 table r) = exec (.write table r) s :=
    fun ht hq => (exec_write_quiet ht hq r s).symm
  exact ⟨rfl, hw (t := .loads) rfl rfl, rfl, hw (t := .frameTimer) rfl rfl, hw (t := .panel) rfl rfl, hw (t := .poll) rfl rfl,
    hw (t := .motion) rfl rfl, hw (t := .audio) rfl rfl, hw (t := .pattern) rfl rfl⟩

/-- Settles O27. -/
theorem restartIsAnsweredAndPending : Obligations.RestartIsAnsweredAndPending := by
  intro r s hs
  refine ⟨fun hd => ?_, fun hd => ?_⟩ <;> rw [exec_command rfl hs]
  · have hi : reqIndex r = r.index := reqIndex_of_long hs.2.2.1
    simp [State.doCommand, hd, State.doRestart, State.placeReply, replyTo, State.countTaken, State.onMrs, State.onLtx, hi]
  · have hl : r.data.length ≠ 0 := by simpa using hd
    simp [State.doCommand, hl]

end Sys2Proof.Machine
end

section
/-! The link receiver: header judgements, the arrival of a cell, the side-band word, and what every request meets (R1 to R8, R33, R38
to R42). -/

namespace Sys2Proof.Machine

open Sys2Proof

variable {s t u : State}

/-! ### Rising edges -/

/-- No line at 0 in `s` is at 1 in `t` (R38). -/
def NoRise (s t : State) : Prop := ∀ i : Fin 6, t.lineLevel i = true → s.lineLevel i = true

theorem NoRise.refl : NoRise s s := fun _ => id

theorem NoRise.trans (h : NoRise s t) (k : NoRise t u) : NoRise s u := fun i => h i ∘ k i

theorem NoRise.of_lineless (w : Within lineless s t) : NoRise s t := fun i h => w.lineLevel i ▸ h

theorem Quiet.toNoRise (q : Quiet s t) : NoRise s t := q.noRise

theorem NoRise.edged {f : State → State} (h : NoRise s (f s)) : s.edged f = f s := State.edged_of_noRise h

/-! ### The header judgement -/

theorem exec_headerJudgement_next {b0 b1 b2 b3 : Byte} (hh : s.held = false) (hc : s.lrx.cell = none) :
    exec (.headerJudgement b0 b1 b2 b3) s = .next (s.edged fun s => s.judgeHeader b0 b1 b2 b3) := by
  rw [exec_headerJudgement _ _ _ _ hh, if_neg (by simp [hc])]

theorem State.judgeHeader_good (b0 b1 b2 : Byte) : s.judgeHeader b0 b1 b2 (hchk [b0, b1, b2]) = s.goodHeader b0 b1 b2 :=
  if_pos rfl

theorem State.judgeHeader_bad {b0 b1 b2 b3 : Byte} (h : hchk [b0, b1, b2] ≠ b3) : s.judgeHeader b0 b1 b2 b3 = s.badHeader :=
  if_neg h

theorem exec_headerJudgement_edged {b0 b1 b2 b3 : Byte} (hh : s.held = false) (hc : s.lrx.cell = none)
    (hj : s.judgeHeader b0 b1 b2 b3 = t) : exec (.headerJudgement b0 b1 b2 b3) s = .next (t.handEdges s.levels t.levels) := by
  rw [exec_headerJudgement_next hh hc, ← hj]
  rfl

/-- A judgement that begins neither LOCKED nor PASS hands no edge. -/
theorem exec_headerJudgement_lrx {b0 b1 b2 b3 : Byte} {l : Lrx} (hh : s.held = false) (hc : s.lrx.cell = none)
    (hj : s.judgeHeader b0 b1 b2 b3 = { s with lrx := l }) (hl : l.lock = .locked → s.lrx.lock = .locked)
    (hp : l.pass = s.lrx.pass) : exec (.headerJudgement b0 b1 b2 b3) s = .next { s with lrx := l } := by
  have hq : NoRise s (s.judgeHeader b0 b1 b2 b3) := by
    rw [hj]
    exact State.onLrx_noRise (f := fun _ => l) hl (hp ▸ id)
  rw [exec_headerJudgement_next hh hc, NoRise.edged (f := fun s => s.judgeHeader b0 b1 b2 b3) hq, hj]

/-- Settles O10, by the lock state. -/
theorem goodHeaderMovesLockMachine : Obligations.GoodHeaderMovesLockMachine := by
  intro s b0 b1 b2 hh hc
  refine ⟨fun hl => exec_headerJudgement_lrx hh hc ?_ nofun rfl, fun hl hg => exec_headerJudgement_lrx hh hc ?_ id rfl,
    fun hl hg => exec_headerJudgement_edged hh hc ?_, fun hl => exec_headerJudgement_lrx hh hc ?_ (fun _ => hl) rfl⟩ <;>
    rw [State.judgeHeader_good, State.goodHeader, hl]
  · rfl
  · exact if_neg hg
  · exact if_pos hg
  · rfl

/-- Settles O11, by the lock state. -/
theorem badHeaderMovesLockMachine : Obligations.BadHeaderMovesLockMachine := by
  intro s b0 b1 b2 b3 hh hc hb
  refine ⟨fun hl => exec_headerJudgement_lrx hh hc ?_ id rfl, fun hl => exec_headerJudgement_lrx hh hc ?_ nofun rfl,
    fun hl hg => exec_headerJudgement_lrx hh hc ?_ id rfl, fun hl hg => exec_headerJudgement_edged hh hc ?_⟩ <;>
    rw [State.judgeHeader_bad hb, State.badHeader, hl]
  · rfl
  · rfl
  · exact if_neg hg
  · exact if_pos hg

/-! ### The arrival of a cell -/

theorem exec_cellArrival_next {c : RxCell} {payload : List Byte} {p0 p1 : Byte} (hh : s.held = false)
    (hc : s.lrx.cell = some c) (hn : payload.length = 128) :
    exec (.cellArrival payload p0 p1) s = .next (s.arrive c payload p0 p1) := by
  show Host.Outcome.next (s.live _) = _
  rw [State.live_of_free _ hh]
  simp only [hc, hn, if_true]

/-- Settles O12. -/
theorem unlockedCellIsDiscarded : Obligations.UnlockedCellIsDiscarded := by
  intro s c payload p0 p1 hh hc hl hn
  rw [exec_cellArrival_next hh hc hn]
  unfold State.arrive
  simp only [hl, Bool.false_eq_true, if_false]
  rfl

/-- What every arrival of a cell judged in LOCKED does first, with the polls that its edges trigger (R2, R7, R8, R25, R38). -/
def State.counted (s : State) (good : Bool) : State := (s.arrived good).handEdges s.levels (s.arrived good).levels

theorem State.counted_within (s : State) (good : Bool) : Within [.mou] (s.arrived good) (s.counted good) :=
  State.handEdges_within _ _ _

theorem exec_lockedArrival {c : RxCell} {payload : List Byte} {p0 p1 : Byte} (hh : s.held = false)
    (hc : s.lrx.cell = some c) (hl : c.locked = true) (hn : payload.length = 128) :
    exec (.cellArrival payload p0 p1) s = .next
      (if payloadGood (payload.take (4 * c.len)) p0 p1 then
        (s.counted (payloadGood (payload.take (4 * c.len)) p0 p1)).deliver c (payload.take (4 * c.len))
      else (s.counted (payloadGood (payload.take (4 * c.len)) p0 p1)).badPayload c (payload.take (4 * c.len))) := by
  rw [exec_cellArrival_next hh hc hn]
  unfold State.arrive
  dsimp only
  rw [if_pos hl]
  unfold State.lockedArrival State.edged
  dsimp only
  rw [State.passWindow_arrived]
  rfl

theorem exec_goodArrival {c : RxCell} {payload : List Byte} {p0 p1 : Byte} (hh : s.held = false)
    (hc : s.lrx.cell = some c) (hl : c.locked = true) (hn : payload.length = 128)
    (hg : payloadGood (payload.take (4 * c.len)) p0 p1 = true) :
    exec (.cellArrival payload p0 p1) s = .next ((s.counted true).deliver c (payload.take (4 * c.len))) := by
  rw [exec_lockedArrival hh hc hl hn, hg, if_pos rfl]

theorem State.counted_eq (s : State) (good : Bool) :
    s.counted good = { s.arrived good with mou := (s.counted good).mou } :=
  (s.counted_within good).eq_mou

theorem State.counted_lrx (s : State) (good : Bool) : (s.counted good).lrx = (s.arrived good).lrx := by rw [s.counted_eq]

theorem State.counted_stu (s : State) (good : Bool) : (s.counted good).stu = (s.arrived good).stu := by rw [s.counted_eq]

/-- What a bad payload marks (R3). -/
theorem State.badPayload_eq (s : State) (c : RxCell) (bytes : List Byte) :
    let checked : Prop := c.sn = 0 ∧ c.kind = .test ∧ s.lrx.testMode = true
    s.badPayload c bytes = { s with
      lrx := { s.lrx with
        badPayloads := satInc s.lrx.badPayloads
        testCells := if checked then satInc s.lrx.testCells else s.lrx.testCells
        testBitErrors :=
          if checked then satAdd s.lrx.testBitErrors (bitErrors bytes (testPattern bytes.length c.seq))
          else s.lrx.testBitErrors }
      stu := { s.stu with
        streams := tabMod s.stu.streams c.sn fun e => { e with badPcrc := satInc e.badPcrc, gapPending := true } } } := by
  unfold State.badPayload Lrx.checkTest
  by_cases hk : c.sn = 0 ∧ c.kind = .test
  · by_cases ht : s.lrx.testMode = true <;> simp [hk, ht, State.onLrx, State.onStream, State.onStu]
  · have hk' : ¬ (c.sn = 0 ∧ c.kind = .test ∧ s.lrx.testMode = true) := fun h => hk ⟨h.1, h.2.1⟩
    simp only [if_neg hk, if_neg hk']
    rfl

/-- Settles O13: the marks of a bad payload on the state that the pass machine has counted the cell in. -/
theorem badPcrcMarksStreamGap : Obligations.BadPcrcMarksStreamGap := by
  intro s c payload p0 p1 hh hc hl hn hg a bytes checked
  have hlrx : a.lrx = (s.arrived false).lrx := s.counted_lrx false
  have hstu : a.stu = (s.arrived false).stu := s.counted_stu false
  have he : exec (.cellArrival payload p0 p1) s = .next (a.badPayload c bytes) := by
    rw [exec_lockedArrival hh hc hl hn, hg]
    rfl
  clear_value a
  rw [he, State.badPayload_eq, hlrx, hstu]
  rfl

/-! ### The side-band word -/

theorem exec_steeredArrival {c : RxCell} {payload : List Byte} {p0 p1 : Byte} (hh : s.held = false)
    (hc : s.lrx.cell = some c) (hl : c.locked = true) (hs : c.sn ≠ 0) (hn : payload.length = 128)
    (hg : payloadGood (payload.take (4 * c.len)) p0 p1 = true) :
    exec (.cellArrival payload p0 p1) s =
      .next ((s.counted true).edged fun s => s.steering c (payload.take (4 * c.len))) := by
  rw [exec_goodArrival hh hc hl hn hg, State.deliver, if_neg hs]

/-- A DATA cell whose stream a window takes is tracked and handed to the window's consumer (R26, R27). -/
theorem State.steering_data {c : RxCell} {bytes : List Byte} {d : Destination} (hk : c.kind = .data)
    (hd : s.stu.destination c.sn.val = some d) :
    s.steering c bytes = (s.trackCell c).steer c bytes ((s.stu.streams[c.sn]).gap c.seq) d := by
  have hd' : (s.trackCell c).stu.destination c.sn.val = some d := hd
  unfold State.steering
  dsimp only
  rw [if_neg (by simp [hk]), hd']

theorem State.handEdges_eq_mou (s : State) (old new : BitVec 6) :
    s.handEdges old new = { s with mou := (s.handEdges old new).mou } := (s.handEdges_within old new).eq_mou

/-- Settles O16: the steering of the cell is a change of the steering unit, and the polls follow its edges. -/
theorem sidebandCellSetsWord : Obligations.SidebandCellSetsWord := by
  intro s c payload p0 p1 hh hc hl hs hk hn hg hd
  have hd' : (s.counted true).stu.destination c.sn.val = some .sideband := by
    rw [s.counted_stu]
    exact hd
  have he := exec_steeredArrival hh hc hl hs hn hg
  have hlrx := s.counted_lrx true
  have hevu : (s.counted true).evu = (s.arrived true).evu := by rw [s.counted_eq]
  have hstreams : (s.counted true).stu.streams = s.stu.streams := by rw [s.counted_stu]; rfl
  have hrest : { s.counted true with lrx := s.lrx, stu := s.stu, evu := s.evu, mou := s.mou } = s := by rw [s.counted_eq]; rfl
  have hw := State.steering_data (bytes := payload.take (4 * c.len)) hk hd'
  simp only [show (s.arrived true).handEdges s.levels (s.arrived true).levels = s.counted true from rfl]
  generalize s.counted true = a at *
  let w : State := (a.trackCell c).onStu fun u => u.sidebandCell (payload.take (4 * c.len))
  have hedge : a.edged (fun s => s.steering c (payload.take (4 * c.len))) = { w with mou := (w.handEdges a.levels w.levels).mou } := by
    rw [← State.handEdges_eq_mou]
    unfold State.edged
    dsimp only
    rw [hw]
    rfl
  refine ⟨_, he.trans (congrArg _ hedge), rfl, rfl, fun n hne => ?_, ⟨rfl, rfl, rfl⟩, hrest⟩
  rw [← hstreams]
  exact tabMod_other _ _ (Ne.symm hne)

end Sys2Proof.Machine
end

section
/-! The link transmitter's pick at a cell boundary (R18 to R23). -/

namespace Sys2Proof.Machine

open Sys2Proof

variable {s : State}

/-! ### The boundary -/

theorem exec_cellBoundary_next (hh : s.held = false) (hr : s.restartSent = false) : exec .cellBoundary s = .next s.pick := by
  show Host.Outcome.next (s.live fun s => if s.restartSent then s.restartBoundary else s.pick) = _
  rw [State.live_of_free _ hh, hr]
  rfl

theorem State.pick_idle (h : s.ltx.tx = none) : s.pick = s.onLtx fun t => ({ t with fairness := 0 } : Ltx).sendIdle :=
  if_pos (by simp [h])

theorem State.pick_running (h : s.ltx.tx ≠ none) : s.pick = s.pickQueued :=
  if_neg (by simpa using h)

/-! ### Grants (R22) -/

theorem State.replyWaits_iff : s.replyWaits = true ↔ s.ltx.reply ≠ [] ∨ s.evu.queue ≠ [] := by
  simp [State.replyWaits]

theorem State.fairTurn_false (h : s.ltx.fairness < 3 ∨ (s.ltx.reply = [] ∧ s.evu.queue = [])) : s.fairTurn = false := by
  rcases h with h | ⟨h, k⟩
  · simp [State.fairTurn, Nat.ne_of_lt h]
  · simp [State.fairTurn, State.replyWaits, h, k]

theorem State.grant_motion {p : List Byte} {rest : List (List Byte)} (hf : s.fairTurn = false) (hm : s.ltx.motion = p :: rest) :
    s.grant = .motion := by
  simp [State.grant, hf, hm]

theorem State.grant_voice {p : List Byte} {rest : List (List Byte)} (hf : s.fairTurn = false) (hm : s.ltx.motion = [])
    (hv : s.ltx.voice = p :: rest) : s.grant = .voice := by
  simp [State.grant, hf, hm, hv]

theorem State.grant_reply (ht : s.ltx.fairness = 3 ∨ (s.ltx.motion = [] ∧ s.ltx.voice = [])) (hr : s.ltx.reply ≠ []) :
    s.grant = .reply := by
  rcases ht with h | ⟨hm, hv⟩
  · simp [State.grant, State.fairTurn, State.replyWaits, h, hr]
  · simp [State.grant, hm, hv, hr]

theorem State.grant_notice (ht : s.ltx.fairness = 3 ∨ (s.ltx.motion = [] ∧ s.ltx.voice = [])) (hr : s.ltx.reply = [])
    (hq : s.evu.queue ≠ []) : s.grant = .notice := by
  rcases ht with h | ⟨hm, hv⟩
  · simp [State.grant, State.fairTurn, State.replyWaits, h, hr, hq]
  · simp [State.grant, hm, hv, hr, hq]

theorem State.grant_nothing (h : s.ltx.motion = [] ∧ s.ltx.voice = [] ∧ s.ltx.reply = [] ∧ s.evu.queue = []) :
    s.grant = .nothing := by
  obtain ⟨hm, hv, hr, hq⟩ := h
  simp [State.grant, State.fairTurn, State.replyWaits, hm, hv, hr, hq]

/-- The count after a MOTION or VOICE grant. -/
theorem State.fairnessAfter_sensor (h : s.grant = .motion ∨ s.grant = .voice) :
    s.fairnessAfter = if s.ltx.reply ≠ [] ∨ s.evu.queue ≠ [] then s.ltx.fairness + 1 else 0 := by
  simp only [← State.replyWaits_iff]
  rcases h with h | h <;> simp only [State.fairnessAfter, h]

/-- While the batch condition fails no batch is built. -/
theorem State.judgeBatch_of_not_due (h : s.batchDue = false) : s.judgeBatch = s := by
  show buildBatches (7 + 1) s = s
  rw [buildBatches, if_neg (by simp [h])]

/-- Settles O17. -/
theorem boundaryGrantsMotionThenVoice : Obligations.BoundaryGrantsMotionThenVoice := by
  intro s p rest hh hr htx hf
  have hft := State.fairTurn_false hf
  refine ⟨fun hm hb => ?_, fun hm hv => ?_⟩ <;> rw [exec_cellBoundary_next hh hr, State.pick_running htx, State.pickQueued]
  · have hg := State.grant_motion hft hm
    rw [hg, State.fairnessAfter_sensor (.inl hg)]
    dsimp only
    rw [State.judgeBatch_of_not_due (s := State.onLtx _ Ltx.sendMotion) (by exact hb)]
    simp only [State.onLtx, Ltx.sendMotion, hm]
    rfl
  · have hg := State.grant_voice hft hm hv
    rw [hg, State.fairnessAfter_sensor (.inr hg)]
    simp only [State.onLtx, Ltx.sendVoice, hv]
    rfl

/-- Settles O18. -/
theorem boundaryGrantsReplyNoticeIdle : Obligations.BoundaryGrantsReplyNoticeIdle := by
  intro s hh hr
  rw [exec_cellBoundary_next hh hr]
  refine ⟨fun htx => ?_, fun p rest htx ht hp => ?_, fun n rest htx ht hp hq => ?_, fun htx hn hm => ?_, fun htx hn hm => ?_⟩
  · rw [State.pick_idle htx]
    rfl
  · have hg := State.grant_reply ht (by simp [hp])
    rw [State.pick_running htx, State.pickQueued, State.fairnessAfter, hg]
    simp only [State.onLtx, Ltx.sendReply, hp]
    rfl
  · have hg := State.grant_notice ht hp (by simp [hq])
    rw [State.pick_running htx, State.pickQueued, State.fairnessAfter, hg]
    simp only [State.onLtx, State.sendNotice, State.onEvu, hq]
    rfl
  · rw [State.pick_running htx, State.pickQueued, State.fairnessAfter, State.grant_nothing hn]
    simp only [State.onLtx, hm]
    rfl
  · rw [State.pick_running htx, State.pickQueued, State.fairnessAfter, State.grant_nothing hn]
    simp only [State.onLtx, hm]
    rfl

end Sys2Proof.Machine
end

section
/-! Request rows (R39 to R42): every one of them is its request with the rising edges it makes, and what a request meets before its
own meaning. -/

namespace Sys2Proof.Machine

open Sys2Proof

variable {s t u : State}

/-! ### The edges of a request -/

theorem State.endPattern_noRise (s : State) (c : Channel) (why : EndReason) : NoRise s (s.endPattern c why) :=
  .of_lineless ((s.endPattern_within c why).mono (by decide))

theorem State.clearEntry_lineLevel (s : State) (t : Table) (n : Nat) (i : Fin 6) :
    (s.clearEntry t n).lineLevel i = s.lineLevel i := by
  cases t with
  | streamStatus => rfl
  | exposure =>
    show (s.onGen (if n = 0 then .a else .b) _).lineLevel i = _
    cases (if n = 0 then Side.a else Side.b) <;> rfl
  | panel =>
    show (s.onPanel (if n = 0 then .a else .b) _).lineLevel i = _
    cases (if n = 0 then Side.a else Side.b) <;> rfl
  | _ => exact State.lineLevel_congr i rfl rfl rfl rfl rfl rfl rfl

theorem Effect.noRise {op : Nat} {t : State} (e : Effect op s t) (h : op ≠ 1) : NoRise s t := by
  cases e with
  | none => exact .refl
  | store t es h1 => exact absurd h1 h
  | clear t n i =>
    induction n generalizing s i with
    | zero => exact .refl
    | succ n ih => exact NoRise.trans (fun k hk => s.clearEntry_lineLevel t i k ▸ hk) (ih _)
  | restart => exact .of_lineless ((s.onMrs_within _).mono (by decide))
  | busRecover b => exact .of_lineless ((s.busRecover_within b).mono (by decide))
  | fifoFlush => exact .of_lineless ((s.onMou_within _).mono (by decide))
  | audioRestart => exact (NoRise.of_lineless ((s.onAuu_within _).mono (by decide))).trans (State.refreshLoads_quiet _).noRise
  | play c n p b =>
    refine NoRise.trans ((s.endPattern_noRise c .preempted).trans ?_) (State.refreshLoads_quiet _).noRise
    exact .of_lineless ((State.onPte_within _ _).mono (by decide))
  | stop c => exact (s.endPattern_noRise c _).trans (State.refreshLoads_quiet _).noRise
  | testStart => exact State.onLrx_noRise id id
  | testStop => exact State.onLrx_noRise id id

/-- A request that is no WRITE raises no line. -/
theorem State.request_noRise {op : Nat} (h : op ≠ 1) (s : State) (table : Byte) (r : Request) :
    NoRise s (s.request op table r) :=
  State.request_keeps (P := NoRise s) (fun u f hu => hu.trans (.of_lineless ((u.onMrs_within f).mono (by decide))))
    (fun u p hu => hu.trans (.of_lineless ((u.placeReply_within p).mono (by decide))))
    (fun u k d hu => hu.trans (.of_lineless ((u.raise_within k d).mono (by decide))))
    (fun u v hu e => hu.trans (e.noRise h))
    (fun u r hu => hu.trans (.of_lineless ((u.relayHandOver_within r).mono (by decide)))) .refl table r

/-- A request row is its request with the rising edges it makes. -/
theorem exec_asRequest {c : Instr} {op : Nat} {code : Byte} {r : Request} (h : Instr.asRequest c = some (op, code, r))
    (hs : s.held = false) : exec c s = .next (s.edged fun s => s.request op code r) := by
  have hplain : ∀ {op : Nat} {code : Byte} {r : Request}, NoRise s (s.request op code r) →
      Host.Outcome.next (φ := Fault) (ρ := Refusal) (s.live fun s => s.request op code r)
        = .next (s.edged fun s => s.request op code r) := fun {op code r} q => by
    rw [State.live_of_free _ hs, NoRise.edged (f := fun s => s.request op code r) q]
  have hwrite : ∀ {code : Byte} {r : Request} {t : Table}, Table.ofCode code.toNat = some t → t.quiet = true →
      NoRise s (s.request 1 code r) := fun ht hq =>
    (s.request_write_quiet _ _ fun u hu => Option.some.inj (ht.symm.trans hu) ▸ hq).noRise
  cases c <;> simp only [Instr.asRequest, Option.some.injEq, Prod.mk.injEq, reduceCtorEq] at h <;>
    obtain ⟨rfl, rfl, rfl⟩ := h
  case write | writePower | writeSideband => exact congrArg _ (State.live_of_free _ hs)
  case writeLoads => exact hplain (hwrite (t := .loads) rfl rfl)
  case writeFrameTimer => exact hplain (hwrite (t := .frameTimer) rfl rfl)
  case writePanel => exact hplain (hwrite (t := .panel) rfl rfl)
  case writePoll => exact hplain (hwrite (t := .poll) rfl rfl)
  case writeMotion => exact hplain (hwrite (t := .motion) rfl rfl)
  case writeAudio => exact hplain (hwrite (t := .audio) rfl rfl)
  case writePattern => exact hplain (hwrite (t := .pattern) rfl rfl)
  all_goals exact hplain (State.request_noRise (by decide) _ _ _)

/-! ### The gate -/

/-- A request row whose request has a known effect that raises no line. -/
theorem exec_asRequest_lineless {c : Instr} {op : Nat} {code : Byte} {r : Request} (h : Instr.asRequest c = some (op, code, r))
    (hs : s.held = false) (he : s.request op code r = t) (hw : Within lineless s t) : exec c s = .next t := by
  rw [exec_asRequest h hs, NoRise.edged (f := fun s => s.request op code r) (by rw [he]; exact .of_lineless hw), he]

theorem State.request_taken {op : Nat} {code : Byte} {r : Request} (hp : r.pos = .only) (hr : 0 < s.room) :
    s.request op code r = s.countTaken.answer op code r := by
  unfold State.request
  rw [if_neg (by simp [hp]), if_neg (Nat.pos_iff_ne_zero.mp hr)]
  rfl

theorem State.answered_lineless (s : State) (code : Byte) (r : Request) (st : Status) (data : List Word) :
    Within lineless s (s.answered code r st data) := by
  constructor <;> first | rfl | exact .inr rfl | exact .inl (by decide)

theorem asRequest_op_le {c : Instr} {op : Nat} {code : Byte} {r : Request} (h : Instr.asRequest c = some (op, code, r)) :
    op ≤ 3 := by
  cases c <;> simp only [Instr.asRequest, Option.some.injEq, Prod.mk.injEq, reduceCtorEq] at h <;> omega

/-- The stream entry after a good cell (R29, R30), field by field. -/
theorem StreamEntry.track_eq (e : StreamEntry) (seq : Byte) : e.track seq = { e with
    tracking := true, lastSeq := seq, gapPending := false, goodCells := satInc e.goodCells
    gaps := satAdd e.gaps (if e.tracking = true ∧ (seq ≠ e.lastSeq + 1 ∨ e.gapPending = true) then 1 else 0) } := by
  have hz : (seq - (e.lastSeq + 1)).toNat = 0 ↔ seq = e.lastSeq + 1 := by
    constructor <;> intro h <;> bv_omega
  unfold StreamEntry.track StreamEntry.gap
  simp only [ne_eq, ← hz]
  generalize (seq - (e.lastSeq + 1)).toNat = g
  by_cases hg : g = 0 <;> cases e.tracking <;> cases e.gapPending <;> simp [hg, bit]

theorem exec_mgmtArrival {c : RxCell} {payload : List Byte} {p0 p1 : Byte} (hh : s.held = false)
    (hc : s.lrx.cell = some c) (hl : c.locked = true) (hs : c.sn = 0) (hk : c.kind = .mgmt) (hn : payload.length = 128)
    (hg : payloadGood (payload.take (4 * c.len)) p0 p1 = true) :
    let bytes := payload.take (4 * c.len)
    exec (.cellArrival payload p0 p1) s = .next (((s.counted true).edged fun s =>
      s.request (bytes.getD 1 0).toNat (bytes.getD 2 0) (requestOf c bytes)).trackCell c) := by
  rw [exec_goodArrival hh hc hl hn hg, State.deliver, if_pos hs, State.streamZero, hk]

/-- Settles O19. -/
theorem requestGateComesFirst : Obligations.RequestGateComesFirst := by
  refine ⟨fun c op code r s h hs => ⟨fun hp => ?_, fun hp hr => ?_, fun hp hr hsh => ?_, fun hp hr hsh ho hb => ?_⟩, ?_⟩
  · have hbad : s.request op code r = s.onMrs fun m => { m with badPos := satInc m.badPos } := if_pos hp
    refine exec_asRequest_lineless h hs (t := s.onMrs _) hbad ?_
    exact (s.onMrs_within _).mono (by decide)
  · refine exec_asRequest_lineless h hs (t := s.dropRequest op code r) ?_ ?_
    · unfold State.request
      rw [if_neg (by simp [hp]), if_pos hr]
    · exact .trans ((s.onMrs_within _).mono (by decide)) ((State.raise_within _ _ _).mono (by decide))
  · refine exec_asRequest_lineless h hs ?_ (s.answered_lineless _ _ _ _)
    rw [State.request_taken hp hr]
    exact if_pos hsh
  · refine exec_asRequest_lineless h hs ?_ (s.answered_lineless _ _ _ _)
    rw [State.request_taken hp hr]
    unfold State.answer
    rw [if_neg (by simp [hsh]), if_neg (Nat.not_lt.mpr (asRequest_op_le h))]
    rcases hb with hb | hb
    · exact if_pos ⟨hb, ho⟩
    · split
      · rfl
      · exact if_pos ⟨hb, ho⟩
  · intro i op code s c payload p0 p1 hh hc hl hs hk hn hg bytes h ho hcode
    subst ho hcode
    have hheld : (s.counted true).held = false := by rw [s.counted_eq]; exact hh
    refine ⟨_, exec_asRequest h hheld, ?_⟩
    rw [exec_mgmtArrival hh hc hl hs hk hn hg]
    simp only [State.trackCell, hs, StreamEntry.track_eq]
    rfl

end Sys2Proof.Machine
end

section
/-! READ and the field words of every table (R43, R45). -/

namespace Sys2Proof.Machine

open Sys2Proof

variable {s : State}

/-! ### Codes of the enumerated fields -/

theorem LockState.idxOf_code (x : LockState) : [LockState.search, .verify, .locked].idxOf x = x.code := by cases x <;> rfl

theorem TimeState.idxOf_code (x : TimeState) : [TimeState.unset, .running, .slewing].idxOf x = x.code := by cases x <;> rfl

theorem ImageState.idxOf_code (x : ImageState) :
    [ImageState.loading, .loaded, .loadedWithErrors, .absent, .bad].idxOf x = x.code := by cases x <;> rfl

theorem Destination.idxOf_code (x : Destination) :
    [Destination.discard, .panelA, .panelB, .panelBoth, .audio, .sideband].idxOf x = x.code := by cases x <;> rfl

theorem LineSource.idxOf_code (x : LineSource) :
    [LineSource.input, .level0, .level1, .received, .linkLock, .linkPass, .displayLocked, .frameStart, .strobeA,
      .powerNormal].idxOf x = x.code := by cases x <;> rfl

theorem LossPolicy.idxOf_code (x : LossPolicy) : [LossPolicy.hold, .default].idxOf x = x.code := by cases x <;> rfl

theorem DisplayState.idxOf_code (x : DisplayState) :
    [DisplayState.free, .pulling, .locked, .holdover].idxOf x = x.code := by cases x <;> rfl

theorem Schedule.idxOf_code (x : Schedule) : [Schedule.idle, .awaiting, .starting, .running].idxOf x = x.code := by cases x <;> rfl

theorem ExpState.idxOf_code (x : ExpState) : [ExpState.idle, .pending, .on].idxOf x = x.code := by cases x <;> rfl

theorem ScanState.idxOf_code (x : ScanState) : [ScanState.off, .waiting, .active, .blank].idxOf x = x.code := by cases x <;> rfl

theorem StrobeState.idxOf_code (x : StrobeState) : [StrobeState.idle, .pending, .on, .held].idxOf x = x.code := by cases x <;> rfl

theorem Bus.idxOf_code (x : Bus) : [Bus.serial4, .twoWire].idxOf x = busCode x := by cases x <;> rfl

theorem BusState.idxOf_code (x : BusState) : [BusState.idle, .busy, .recovering, .fault].idxOf x = x.code := by cases x <;> rfl

theorem PollKind.idxOf_code (x : PollKind) : [PollKind.imu6, .mag3, .prox, .raw].idxOf x = x.code := by cases x <;> rfl

theorem Axis.idxOf_code (a : Axis) : [Axis.x, .y, .z].idxOf a = a.code := by cases a <;> rfl

theorem SensorClass.idxOf_code (x : SensorClass) : [SensorClass.full, .reduced, .suspended].idxOf x = x.code := by cases x <;> rfl

theorem AudioState.idxOf_code (x : AudioState) : [AudioState.stopped, .filling, .playing].idxOf x = x.code := by cases x <;> rfl

theorem Envelope.idxOf_code (x : Envelope) : [Envelope.flat, .rise, .fall].idxOf x = x.code := by cases x <;> rfl

theorem PowerState.idxOf_code (x : PowerState) :
    [PowerState.held, .normal, .constrained, .shed, .trip].idxOf x = powerStateCode x := by cases x <;> rfl

theorem LoadState.idxOf_code (x : LoadState) : [LoadState.off, .full, .reduced, .shed].idxOf x = x.code := by cases x <;> rfl

theorem RecState.idxOf_code (x : RecState) :
    [RecState.opened, .evaluated, .scanning, .done].idxOf x + 1 = x.code := by cases x <;> rfl

/-! ### The entries (R45) -/

theorem State.readEntries_eq (s : State) (t : Table) (n first : Nat) :
    s.readEntries t n first = (List.range' first n).flatMap fun i => s.readEntry t i := by
  induction n generalizing first with
  | zero => rfl
  | succ n ih => rw [State.readEntries, ih, List.range'_succ, List.flatMap_cons]

theorem Fin.ofNat_val_self {n : Nat} [NeZero n] (i : Fin n) : Fin.ofNat n i.val = i := by
  simp

/-- The level of a line written out by its source (R34 to R36). -/
theorem State.lineLevel_eq (s : State) (i : Fin 6) :
    s.lineLevel i =
      if s.ftm.gens.a.claims i || s.ftm.gens.b.claims i then s.ftm.gens.a.shows i || s.ftm.gens.b.shows i
      else s.sourceLevel i := rfl

theorem Stu.receivedLevel_eq (u : Stu) (l : Line) :
    u.receivedLevel l = if u.wordCurrent = false ∧ l.policy = .default then l.defaultLevel else u.word.getLsbD l.bit := by
  unfold Stu.receivedLevel
  cases u.wordCurrent <;> cases l.policy <;> rfl

theorem fw_timeOr0 (t : Option Time) : fw (timeOr0 t) = t.getD 0 := by
  cases t <;> simp [fw, timeOr0]

theorem FrameRec.yawOr0_eq (r : FrameRec) : r.yawOr0 = (r.angles.getD ⟨0, 0⟩).yaw := by
  unfold FrameRec.yawOr0
  cases r.angles <;> rfl

theorem FrameRec.pitchOr0_eq (r : FrameRec) : r.pitchOr0 = (r.angles.getD ⟨0, 0⟩).pitch := by
  unfold FrameRec.pitchOr0
  cases r.angles <;> rfl

theorem FrameRec.shiftOr0_eq (r : FrameRec) (p : Side) : r.shiftOr0 p = (r.shifts.getD ⟨⟨0, 0⟩, ⟨0, 0⟩⟩).get p := by
  unfold FrameRec.shiftOr0
  cases r.shifts <;> cases p <;> rfl

theorem recordWords_some (r : FrameRec) : recordWords (some r) =
    let g := r.angles.getD ⟨0, 0⟩
    let d := r.shifts.getD ⟨⟨0, 0⟩, ⟨0, 0⟩⟩
    [fw r.number.toNat, fw r.state.code, r.start, r.pose.getD 0, r.evalTime.getD 0, fwInt g.yaw, fwInt g.pitch,
      fwInt d.a.dx, fwInt d.a.dy, fwInt d.b.dx, fwInt d.b.dy, fw r.flags.sum, fw r.missing.a, fw r.missing.b,
      fw (r.strobe.a.getD 0), fw (r.strobe.b.getD 0), fw r.present] := by
  simp only [recordWords, fw_timeOr0, FrameRec.yawOr0_eq, FrameRec.pitchOr0_eq, FrameRec.shiftOr0_eq]
  rfl

theorem relayCode_eq (r : Option Relay) :
    relayCode r = if r = none then 0 else if r.map Relay.phase = some .waiting then 1 else 2 := by
  rcases r with _ | r
  · rfl
  · cases h : r.phase <;> simp [relayCode, h]

theorem loadMode_eq (i : Fin 8) : loadMode i = if i = 0 ∨ i = 1 ∨ i = 7 then 0 else if i = 6 then 2 else 1 := by
  revert i; decide

theorem any_entry_eq (xs : List Queued) (i : Fin 8) :
    (xs.any fun q => decide (q.entry = i)) = decide (∃ q ∈ xs, q.entry = i) := by
  rw [Bool.eq_iff_iff]
  simp

/-! ### The row -/

theorem Table.ofCode_eq_none {n : Nat} (h : 17 < n) : Table.ofCode n = none := by
  unfold Table.ofCode
  split <;> first | rfl | omega

theorem recordWords_length (r : Option FrameRec) : (recordWords r).length = 17 := by
  cases r <;> rfl

theorem State.readEntry_length (s : State) (t : Table) (i : Nat) : (s.readEntry t i).length = t.fields := by
  cases t with
  | frameLog => exact recordWords_length _
  | _ => rfl

theorem State.readEntries_length (s : State) (t : Table) (n first : Nat) : (s.readEntries t n first).length = n * t.fields := by
  simp [State.readEntries_eq, State.readEntry_length, List.length_flatMap]

/-- A READ that finds room is judged on its table (R42). -/
theorem exec_read {table : Byte} {r : Request} (hh : s.held = false) (hp : r.pos = .only) (hsh : r.short = false)
    (hr : 0 < s.room) : exec (.read table r) s = .next (s.countTaken.doTable 0 table r) := by
  show Host.Outcome.next (s.live fun s => s.request 0 table r) = _
  rw [State.live_of_free _ hh, State.request_taken hp hr]
  simp [State.answer, hsh]

theorem Request.badIndex_iff {r : Request} {n : Nat} (hsh : r.short = false) :
    (r.count.toNat = 0 ∨ n < (reqIndex r).toNat + r.count.toNat) ↔ r.count = 0 ∨ n < r.index.toNat + r.count.toNat := by
  rw [reqIndex_of_long hsh]
  have : r.count.toNat = 0 ↔ r.count = 0 := by constructor <;> intro h <;> bv_omega
  rw [this]

/-- Settles O20: the gate of a READ, the order of the entries, and each table's fields. -/
theorem readAnswersFieldWords : Obligations.ReadAnswersFieldWords := by
  refine ⟨?_, State.readEntries_eq, fun s => ?_⟩
  · intro table r s hh hp hsh hr
    rw [exec_read hh hp hsh hr]
    refine ⟨fun h => ?_, fun t ht => ⟨fun hc => ?_, fun hc hi hl => ?_, fun hc hi hl => ?_⟩⟩
    · simp only [State.doTable, Table.ofCode_eq_none h]
      rfl
    · simp only [State.doTable, ht]
      rw [if_pos ((Request.badIndex_iff hsh).mpr hc)]
      rfl
    · have hin : ¬ (r.count = 0 ∨ t.entries < r.index.toNat + r.count.toNat) := fun h => h.elim hc (Nat.not_lt.mpr hi)
      simp only [State.doTable, ht]
      rw [if_neg (mt (Request.badIndex_iff hsh).mp hin), if_pos trivial, State.doRead, if_pos hl]
      rfl
    · have hin : ¬ (r.count = 0 ∨ t.entries < r.index.toNat + r.count.toNat) := fun h => h.elim hc (Nat.not_lt.mpr hi)
      refine ⟨_, State.readEntries_length s.countTaken t _ _, rfl, ?_⟩
      simp only [State.doTable, ht]
      rw [if_neg (mt (Request.badIndex_iff hsh).mp hin), if_pos trivial, State.doRead, if_neg (Nat.not_lt.mpr hl),
        reqIndex_of_long hsh]
      rfl
  · dsimp only
    simp only [LockState.idxOf_code, TimeState.idxOf_code, ImageState.idxOf_code, Destination.idxOf_code, LineSource.idxOf_code,
      LossPolicy.idxOf_code, DisplayState.idxOf_code, Schedule.idxOf_code, ExpState.idxOf_code, ScanState.idxOf_code,
      StrobeState.idxOf_code, Bus.idxOf_code, BusState.idxOf_code, PollKind.idxOf_code, Axis.idxOf_code, SensorClass.idxOf_code,
      AudioState.idxOf_code, Envelope.idxOf_code, PowerState.idxOf_code, LoadState.idxOf_code, RecState.idxOf_code]
    refine ⟨rfl, rfl, fun i => ?_, fun i => ?_, fun i => ?_, rfl, fun i => ?_, fun i => ?_, rfl, ?_, ?_, ?_, fun i => ?_, rfl, ?_, rfl,
      fun i => ?_, fun i => ?_, rfl, fun i => ?_⟩
    · simp only [State.readEntry, Fin.ofNat_val_self]
      rfl
    · simp only [State.readEntry, Fin.ofNat_val_self]
      rfl
    · simp only [State.readEntry, Fin.ofNat_val_self, State.readSideband, State.lineLevel_eq, State.sourceLevel, Stu.receivedLevel_eq]
      rfl
    · fin_cases i <;> rfl
    · fin_cases i <;> rfl
    · simp only [State.readEntry, Ftm.logRecord]
      rcases s.ftm.upcoming with _ | r
      · rfl
      · exact recordWords_some r
    · simp only [State.readEntry, Ftm.logRecord]
      rcases s.ftm.scanning with _ | r
      · rfl
      · exact recordWords_some r
    · simp only [State.readEntry, Ftm.logRecord]
      rcases s.ftm.done with _ | r
      · rfl
      · exact recordWords_some r
    · simp only [State.readEntry, Fin.ofNat_val_self, State.readPoll, any_entry_eq]
      rfl
    · simp only [State.readEntry, Mou.motionWords, relayCode_eq]
      rfl
    · simp only [State.readEntry, Fin.ofNat_val_self]
      rfl
    · simp only [State.readEntry, Fin.ofNat_val_self, Pmg.loadWords, loadMode_eq]
      rfl
    · simp only [State.readEntry, Fin.ofNat_val_self, Evu.words, ← List.countP_eq_length_filter]
      rfl
end Sys2Proof.Machine
end

section
/-! The judgement of a WRITE (R46 to R48): field by field, entry by entry, and what a refused one leaves. -/

namespace Sys2Proof.Machine

open Sys2Proof

variable {s : State}

/-! ### One field word (R47) -/

/-- The value of a field word that passes. -/
def FieldKind.valueOf (k : FieldKind) (n : Nat) : Nat :=
  match k with
  | .num lo hi => if n < lo then lo else if hi < n then hi else n
  | .flag => if n = 0 then 0 else 1
  | .upTo _ => n
  | .next => n
  | .ro => 0

/-- A field word outside its range is clamped. -/
def FieldKind.outside (k : FieldKind) (n : Nat) : Bool :=
  match k with
  | .num lo hi => decide (n < lo ∨ hi < n)
  | .flag => decide (1 < n)
  | .upTo _ => false
  | .next => false
  | .ro => false

/-- A code that its field does not define. -/
def FieldKind.Undefined (k : FieldKind) (n : Nat) : Prop :=
  match k with
  | .num _ _ => False
  | .flag => False
  | .upTo last => last < n
  | .next => 47 < n ∧ n ≠ 63
  | .ro => False

/-- A number field's range is not empty. -/
def FieldKind.Ranged : FieldKind → Prop
  | .num lo hi => lo ≤ hi
  | _ => True

theorem FieldKind.judge_eq_none {k : FieldKind} {w : Word} : k.judge w = none ↔ k.Undefined w.toNat := by
  cases k with
  | upTo last => simp [FieldKind.judge, FieldKind.Undefined]
  | next => simp [FieldKind.judge, FieldKind.Undefined]
  | _ => simp [FieldKind.judge, FieldKind.Undefined]

theorem FieldKind.judge_eq_some {k : FieldKind} {w : Word} {j : Judged} (hk : k.Ranged) (h : k.judge w = some j) :
    j = ⟨k.valueOf w.toNat, k.outside w.toNat⟩ := by
  cases k with
  | num lo hi =>
    obtain rfl := Option.some.inj h
    have hle : lo ≤ hi := hk
    simp only [judgeNum, FieldKind.valueOf, FieldKind.outside, Judged.mk.injEq, and_true]
    split_ifs <;> omega
  | flag =>
    obtain rfl := Option.some.inj h
    simp only [judgeNum, FieldKind.valueOf, FieldKind.outside, Judged.mk.injEq, Nat.not_lt_zero, false_or, and_true]
    split_ifs <;> omega
  | upTo last =>
    simp only [FieldKind.judge, Option.ite_none_right_eq_some, Option.some.injEq] at h
    exact h.2.symm
  | next =>
    simp only [FieldKind.judge, Option.ite_none_right_eq_some, Option.some.injEq] at h
    exact h.2.symm
  | ro => exact (Option.some.inj h).symm

/-! ### The words of an entry -/

theorem judgeWords_eq_none {ks : List FieldKind} {ws : List Word} :
    judgeWords ks ws = none ↔ ∃ j < ks.length, (ks.getD j .ro).Undefined (ws.getD j 0).toNat := by
  induction ks generalizing ws with
  | nil => simp [judgeWords]
  | cons k ks ih =>
    have hstep : judgeWords (k :: ks) ws = none ↔ k.judge (ws.headD 0) = none ∨ judgeWords ks ws.tail = none := by
      rw [judgeWords]
      cases k.judge (ws.headD 0) <;> cases judgeWords ks ws.tail <;> simp
    have hz : ws.headD 0 = ws.getD 0 0 := by cases ws <;> rfl
    have hs : ∀ j, ws.tail.getD j 0 = ws.getD (j + 1) 0 := fun j => by cases ws <;> simp
    rw [hstep, ih, FieldKind.judge_eq_none, hz]
    simp only [hs, List.length_cons, Nat.exists_lt_succ_left]
    rfl

theorem judgeWords_eq_some {ks : List FieldKind} {ws : List Word} {js : List Judged} (hk : ∀ k ∈ ks, k.Ranged)
    (h : judgeWords ks ws = some js) : js = (List.range ks.length).map fun j =>
      ⟨(ks.getD j .ro).valueOf (ws.getD j 0).toNat, (ks.getD j .ro).outside (ws.getD j 0).toNat⟩ := by
  induction ks generalizing ws js with
  | nil => simpa [judgeWords] using h.symm
  | cons k ks ih =>
    rw [judgeWords] at h
    split at h
    · rename_i j js' hj hjs
      obtain rfl := Option.some.inj h
      have hz : ws.headD 0 = ws.getD 0 0 := by cases ws <;> rfl
      have hs : ∀ j, ws.tail.getD j 0 = ws.getD (j + 1) 0 := fun j => by cases ws <;> simp
      rw [FieldKind.judge_eq_some (hk k (by simp)) hj, ih (fun k h => hk k (by simp [h])) hjs, List.length_cons,
        List.range_succ_eq_map, List.map_cons, List.map_map, hz]
      simp only [hs]
      rfl
    · cases h

/-! ### The entries of a write -/

theorem Table.kinds_length (t : Table) (e : Nat) : (t.kinds e).length = t.fields := by
  cases t with
  | pattern => by_cases h : e = 0 <;> simp [Table.kinds, Table.fields, ros, h]
  | loads => by_cases h : e = 7 <;> simp [Table.kinds, Table.fields, ros, h]
  | _ => rfl

theorem Table.kinds_ranged (t : Table) (e : Nat) : ∀ k ∈ t.kinds e, k.Ranged := by
  cases t with
  | pattern => by_cases h : e = 0 <;> simp [Table.kinds, ros, h, FieldKind.Ranged]
  | loads => by_cases h : e = 7 <;> simp [Table.kinds, ros, h, FieldKind.Ranged]
  | _ => simp [Table.kinds, ros, shiftKinds, FieldKind.Ranged]

/-- Kind of field j of entry i of a write from entry `first`. -/
def Table.kindAt (t : Table) (first i j : Nat) : FieldKind := (t.kinds (first + i)).getD j .ro

/-- Field word j of entry i of a write. -/
def Table.wordAt (t : Table) (ws : List Word) (i j : Nat) : Nat := (ws.getD (i * t.fields + j) 0).toNat

/-- Value of field j of entry i of a write that passes (R47). -/
def Table.valueAt (t : Table) (first : Nat) (ws : List Word) (i j : Nat) : Nat :=
  (t.kindAt first i j).valueOf (t.wordAt ws i j)

/-- Entry i of a write that passes (R47). -/
def Table.entryAt (t : Table) (first : Nat) (ws : List Word) (i : Nat) : EntryValues :=
  { entry := first + i, values := (List.range t.fields).map (t.valueAt first ws i)
    clamped := (List.range t.fields).any fun j => (t.kindAt first i j).outside (t.wordAt ws i j) }

theorem Table.getD_take (t : Table) (ws : List Word) {j : Nat} (h : j < t.fields) :
    ((ws.take t.fields).getD j 0).toNat = t.wordAt ws 0 j := by
  simp [Table.wordAt, List.getD_eq_getElem?_getD, h]

theorem Table.wordAt_drop (t : Table) (ws : List Word) (i j : Nat) : t.wordAt (ws.drop t.fields) i j = t.wordAt ws (i + 1) j := by
  simp [Table.wordAt, List.getD_eq_getElem?_getD, List.getElem?_drop, Nat.add_mul]
  congr 3; omega

theorem Table.kindAt_succ (t : Table) (first i j : Nat) : t.kindAt (first + 1) i j = t.kindAt first (i + 1) j := by
  simp [Table.kindAt, Nat.add_assoc, Nat.add_comm 1]

theorem judgeEntries_eq_none {t : Table} {n first : Nat} {ws : List Word} :
    judgeEntries t n first ws = none ↔ ∃ i < n, ∃ j < t.fields, (t.kindAt first i j).Undefined (t.wordAt ws i j) := by
  induction n generalizing first ws with
  | zero => simp [judgeEntries]
  | succ n ih =>
    have hstep : judgeEntries t (n + 1) first ws = none ↔
        judgeWords (t.kinds first) (ws.take t.fields) = none ∨ judgeEntries t n (first + 1) (ws.drop t.fields) = none := by
      rw [judgeEntries]
      cases judgeWords (t.kinds first) (ws.take t.fields) <;> cases judgeEntries t n (first + 1) (ws.drop t.fields) <;> simp
    rw [hstep, ih, judgeWords_eq_none, Nat.exists_lt_succ_left]
    refine or_congr ?_ (by simp only [Table.wordAt_drop, Table.kindAt_succ])
    rw [Table.kinds_length]
    refine exists_congr fun j => and_congr_right fun hj => ?_
    rw [Table.getD_take t ws hj]
    rfl

theorem judgeEntries_eq_some {t : Table} {n first : Nat} {ws : List Word} {es : List EntryValues}
    (h : judgeEntries t n first ws = some es) : es = (List.range n).map (t.entryAt first ws) := by
  induction n generalizing first ws es with
  | zero => simpa [judgeEntries] using h.symm
  | succ n ih =>
    rw [judgeEntries] at h
    split at h
    · rename_i js es' hj hes
      obtain rfl := Option.some.inj h
      have hjs : js = (List.range t.fields).map fun j =>
          ⟨t.valueAt first ws 0 j, (t.kindAt first 0 j).outside (t.wordAt ws 0 j)⟩ := by
        rw [judgeWords_eq_some (t.kinds_ranged first) hj, Table.kinds_length]
        refine List.map_congr_left fun j hj => ?_
        rw [t.getD_take ws (List.mem_range.mp hj)]
        rfl
      have hhead : ({ entry := first, values := js.map Judged.value, clamped := js.any Judged.clamped } : EntryValues)
          = t.entryAt first ws 0 := by
        simp only [Table.entryAt, hjs, List.map_map, List.any_map, EntryValues.mk.injEq]
        exact ⟨rfl, rfl, rfl⟩
      have hval : ∀ i, t.valueAt (first + 1) (ws.drop t.fields) i = t.valueAt first ws (i + 1) := fun i => by
        funext j
        simp only [Table.valueAt, Table.wordAt_drop, Table.kindAt_succ]
      have htail : t.entryAt (first + 1) (ws.drop t.fields) = t.entryAt first ws ∘ Nat.succ := by
        funext i
        simp only [Table.entryAt, Function.comp, hval, Table.wordAt_drop, Table.kindAt_succ, EntryValues.mk.injEq, and_true]
        omega
      rw [hhead, ih hes, List.range_succ_eq_map, List.map_cons, List.map_map, htail]
    · cases h

/-! ### The relations -/

theorem Table.entryAt_num (t : Table) (first : Nat) (ws : List Word) (i : Nat) {j : Nat} (h : j < t.fields) :
    (t.entryAt first ws i).num j = t.valueAt first ws i j := by
  simp [EntryValues.num, Table.entryAt, List.getD_eq_getElem?_getD, h]

theorem Table.entryAt_flag (t : Table) (first : Nat) (ws : List Word) (i : Nat) {j : Nat} (h : j < t.fields) :
    (t.entryAt first ws i).flag j = decide (t.valueAt first ws i j ≠ 0) := by
  rw [← t.entryAt_num first ws i h]
  rfl

/-- An entry breaks the relation of its table (R75, R104, R167). -/
def Table.Breaks (t : Table) (first : Nat) (ws : List Word) (i : Nat) : Prop :=
  let value := t.valueAt first ws i
  (t = .exposure ∧ first + i = 0 ∧ value 1 ≠ 0)
    ∨ (t = .poll ∧ ((value 1 = 0 ∧ 1 < value 2) ∨ (value 9 = 0 ∧ value 4 < 12) ∨ (value 9 = 1 ∧ value 4 < 6)))
    ∨ (t = .power ∧ ¬(value 4 < value 3 ∧ value 3 < value 2))

theorem entryRelation_entryAt (t : Table) (first : Nat) (ws : List Word) (i : Nat) :
    entryRelation t (t.entryAt first ws i) = true ↔ ¬ t.Breaks first ws i := by
  have hnum : ∀ {j}, j < t.fields → (t.entryAt first ws i).num j = t.valueAt first ws i j := t.entryAt_num first ws i
  have hflag : ∀ {j}, j < t.fields → (t.entryAt first ws i).flag j = decide (t.valueAt first ws i j ≠ 0) :=
    t.entryAt_flag first ws i
  have hentry : (t.entryAt first ws i).entry = first + i := rfl
  cases t with
  | exposure =>
    simp only [entryRelation, hentry, hflag (j := 1) (by decide), Table.Breaks]
    simp
    tauto
  | poll =>
    simp only [entryRelation, hnum (j := 1) (by decide), hnum (j := 2) (by decide), hnum (j := 4) (by decide),
      hnum (j := 9) (by decide), Table.Breaks]
    simp
    omega
  | power =>
    simp only [entryRelation, hnum (j := 2) (by decide), hnum (j := 3) (by decide), hnum (j := 4) (by decide), Table.Breaks]
    simp
  | _ => simp [entryRelation, Table.Breaks]

/-- The entry of a given number among those of a write. -/
theorem find_entryAt (t : Table) (first n m : Nat) (ws : List Word) :
    ((List.range n).map (t.entryAt first ws)).find? (fun e => decide (e.entry = m)) =
      if first ≤ m ∧ m < first + n then some (t.entryAt first ws (m - first)) else none := by
  have hentry : ∀ i, (t.entryAt first ws i).entry = first + i := fun _ => rfl
  rw [List.find?_map]
  split
  · rename_i h
    have hf : (List.range n).find? ((fun e => decide (e.entry = m)) ∘ t.entryAt first ws) = some (m - first) := by
      simp only [List.find?_range_eq_some, Function.comp, hentry, decide_eq_true_eq, List.mem_range, Bool.not_eq_true',
        decide_eq_false_iff_not]
      exact ⟨by omega, by omega, fun j hj => by omega⟩
    rw [hf]
    rfl
  · rename_i h
    have hf : (List.range n).find? ((fun e => decide (e.entry = m)) ∘ t.entryAt first ws) = none := by
      simp only [List.find?_range_eq_none, Function.comp, hentry, Bool.not_eq_true', decide_eq_false_iff_not]
      exact fun i hi => by omega
    rw [hf]
    rfl

/-- A write gives the two backlights different priorities (R177). -/
def Table.Unequal (t : Table) (first count : Nat) (ws : List Word) : Prop :=
  t = .loads ∧ ∃ i < count, i + 1 < count ∧ first + i = 2 ∧ t.valueAt first ws i 0 ≠ t.valueAt first ws (i + 1) 0

theorem pairRelation_entries (t : Table) (first n : Nat) (ws : List Word) :
    pairRelation ((List.range n).map (t.entryAt first ws)) = true ↔
      ¬ ∃ i < n, i + 1 < n ∧ first + i = 2 ∧ t.valueAt first ws i 0 ≠ t.valueAt first ws (i + 1) 0 := by
  have hf : 0 < t.fields := by cases t <;> decide
  unfold pairRelation
  rw [find_entryAt, find_entryAt]
  by_cases h : first ≤ 2 ∧ 3 < first + n
  · have h2 : first ≤ 2 ∧ 2 < first + n := ⟨h.1, by omega⟩
    have h3 : first ≤ 3 ∧ 3 < first + n := ⟨by omega, h.2⟩
    have hs : 3 - first = (2 - first) + 1 := by omega
    simp only [if_pos h2, if_pos h3, t.entryAt_num first ws _ hf, decide_eq_true_eq, hs]
    constructor
    · rintro he ⟨i, -, -, hi, hne⟩
      obtain rfl : i = 2 - first := by omega
      exact hne he
    · intro hn
      by_contra hne
      exact hn ⟨2 - first, by omega, by omega, by omega, hne⟩
  · have hno : ¬ ∃ i < n, i + 1 < n ∧ first + i = 2 ∧ t.valueAt first ws i 0 ≠ t.valueAt first ws (i + 1) 0 := by
      rintro ⟨i, hi, hi1, h2, -⟩
      omega
    refine ⟨fun _ => hno, fun _ => ?_⟩
    by_cases h2 : first ≤ 2 ∧ 2 < first + n
    · rw [if_pos h2, if_neg (by omega)]
    · rw [if_neg h2]

/-- The judgement of a whole write (R47). -/
theorem validate_eq_none {t : Table} {first count : Nat} {ws : List Word} : validate t first count ws = none ↔
    (∃ i < count, ∃ j < t.fields, (t.kindAt first i j).Undefined (t.wordAt ws i j)) ∨ (∃ i < count, t.Breaks first ws i)
      ∨ t.Unequal first count ws := by
  rw [← judgeEntries_eq_none]
  unfold validate
  split
  · rename_i es he
    have hes := judgeEntries_eq_some he
    have hall : es.all (entryRelation t) = true ↔ ¬ ∃ i < count, t.Breaks first ws i := by
      simp [hes, entryRelation_entryAt]
    have hpair : (if t = .loads then pairRelation es else true) = true ↔ ¬ t.Unequal first count ws := by
      unfold Table.Unequal
      rw [hes]
      by_cases hl : t = .loads
      · simp only [hl, if_true, true_and, pairRelation_entries]
      · simp [hl]
    have hrel : relations t es = true ↔ ¬ (∃ i < count, t.Breaks first ws i) ∧ ¬ t.Unequal first count ws := by
      rw [relations, Bool.and_eq_true, hall, hpair]
    simp only [ite_eq_right_iff, reduceCtorEq, imp_false, hrel, he, false_or]
    rw [not_and_or, not_not, not_not]
  · rename_i he
    simp [he]

theorem validate_eq_some {t : Table} {first count : Nat} {ws : List Word} {es : List EntryValues}
    (h : validate t first count ws = some es) : es = (List.range count).map (t.entryAt first ws) := by
  unfold validate at h
  split at h
  · rename_i es' he
    split at h
    · rw [← Option.some.inj h]
      exact judgeEntries_eq_some he
    · cases h
  · cases h

/-! ### The refused write -/

/-- A WRITE that its judgement refuses stores nothing (R46). -/
theorem exec_write_refused {table : Byte} {t : Table} {r : Request} {st : Status} (hs : s.serves r)
    (ht : Table.ofCode table.toNat = some t) (hc : r.count ≠ 0) (hi : r.index.toNat + r.count.toNat ≤ t.entries)
    (hj : s.judgeWrite t r.index.toNat r.count.toNat r.data = .refused st) :
    exec (.write table r) s = .next (s.answered table r st []) := by
  refine exec_asRequest_lineless rfl hs.1 ?_ (s.answered_lineless _ _ _ _)
  rw [State.request_table hs ht (by decide) hc hi, if_neg (by decide), if_pos rfl, State.doWrite, reqIndex_of_long hs.2.2.1]
  have hj' : s.countTaken.judgeWrite t r.index.toNat r.count.toNat r.data = .refused st := hj
  rw [hj']
  rfl

/-- Settles O21: the five checks in their order, and the judgement of the words. -/
theorem refusedWriteStoresNothing : Obligations.RefusedWriteStoresNothing := by
  refine ⟨fun table t r s hs ht hc hi => ⟨fun hro => ?_, fun hro hl => ?_, fun hro hl hp hpr => ?_, fun hro hl hp hv => ?_,
    fun es hlo hl hpr hv hf => ?_⟩, ?_⟩
  · exact exec_write_refused hs ht hc hi (if_pos hro)
  · refine exec_write_refused hs ht hc hi ?_
    rw [State.judgeWrite, if_neg (by simp [hro]), if_pos hl]
  · refine exec_write_refused hs ht hc hi ?_
    rw [State.judgeWrite, if_neg (by simp [hro]), if_neg (not_not.mpr hl), if_pos ⟨hp, hpr⟩]
  · refine exec_write_refused hs ht hc hi ?_
    have hn : ¬ (t = .power ∧ s.pmg.cfg.protect = true) := fun h => hp.elim (absurd h.1) fun hp => by simp [hp] at h
    rw [State.judgeWrite, if_neg (by simp [hro]), if_neg (not_not.mpr hl), if_neg hn, hv]
  · refine exec_write_refused hs ht hc hi ?_
    subst hlo
    have hfl : floorChanges s.pmg es = true := by simpa [floorChanges] using hf
    rw [State.judgeWrite, if_neg (by decide), if_neg (not_not.mpr hl), if_neg (by simp), hv]
    exact if_pos ⟨rfl, hpr, hfl⟩
  · intro t first count words ro on panelShift kinds fields kind word value outside undefined_ breaks unequal
    have hkinds : ∀ e, kinds e = t.kinds e := fun e => by
      cases t with
      | loads => by_cases h : e = 7 <;> simp only [kinds, Table.kinds, h] <;> rfl
      | _ => rfl
    have hfields : fields = t.fields := congrArg List.length (hkinds 0)
    have hkind : ∀ i j, kind i j = t.kindAt first i j := fun i j => by simp only [kind, Table.kindAt, hkinds]
    have hword : ∀ i j, word i j = t.wordAt words i j := fun i j => by simp only [word, Table.wordAt, hfields]
    have hvalue : ∀ i, value i = t.valueAt first words i := fun i => by
      funext j
      simp only [value, Table.valueAt, hkind, hword]
      rfl
    have hout : ∀ i, outside i = fun j => (t.kindAt first i j).outside (t.wordAt words i j) := fun i => by
      funext j
      simp only [outside, hkind, hword]
      rfl
    have hund : ∀ i j, undefined_ i j ↔ (t.kindAt first i j).Undefined (t.wordAt words i j) := fun i j => by
      simp only [undefined_, hkind, hword]
      rfl
    have hbreaks : ∀ i, breaks i ↔ t.Breaks first words i := fun i => by
      simp only [breaks, hvalue]
      rfl
    have huneq : unequal ↔ t.Unequal first count words := by
      simp only [unequal, hvalue]
      rfl
    refine ⟨hfields.symm, ?_, fun es h => ?_⟩
    · simp only [hund, hbreaks, huneq, hfields]
      exact validate_eq_none
    · simp only [hvalue, hout, hfields]
      exact validate_eq_some h

end Sys2Proof.Machine
end

section
/-! CLEAR (R49). -/

namespace Sys2Proof.Machine

open Sys2Proof

variable {s : State}

/-- A served CLEAR of one entry clears that entry and is answered OK. -/
theorem exec_clear_one {table : Byte} {t : Table} {r : Request} (hs : s.serves r) (ht : Table.ofCode table.toNat = some t)
    (hc : r.count = 1) (hi : r.index.toNat < t.entries) :
    exec (.clear table r) s = .next ((s.countTaken.clearEntry t r.index.toNat).answerWith table r .ok) := by
  have h1 : r.count.toNat = 1 := by rw [hc]; rfl
  show Host.Outcome.next (s.live fun s => s.request 2 table r) = _
  rw [State.live_of_free _ hs.1, State.request_table hs ht (by decide) (by rw [hc]; decide) (by omega), if_neg (by decide),
    if_neg (by decide), State.doClear, h1, reqIndex_of_long hs.2.2.1]
  rfl

/-- Settles O26, table by table. -/
theorem clearZeroesCounters : Obligations.ClearZeroesCounters := by
  intro table r s hs hc a
  refine ⟨fun hi => ?_, fun i hi ht => ?_, fun g hi => ⟨fun ht => ?_, fun ht => ?_⟩, fun i hi => ⟨fun ht => ?_, fun ht => ?_⟩,
    fun i hi ht => ?_, ?_⟩
  · have hlt : ∀ {n : Nat}, 0 < n → r.index.toNat < n := fun h => by rw [hi]; exact h
    refine ⟨?_, ?_, ?_, ?_, ?_, ?_, ?_, ?_⟩ <;> rintro rfl
    · rw [exec_clear_one (t := .identity) hs rfl hc (hlt (by decide))]; rfl
    · rw [exec_clear_one (t := .link) hs rfl hc (hlt (by decide))]; rfl
    · rw [exec_clear_one (t := .frameTimer) hs rfl hc (hlt (by decide))]; rfl
    · rw [exec_clear_one (t := .shift) hs rfl hc (hlt (by decide))]; rfl
    · rw [exec_clear_one (t := .mount) hs rfl hc (hlt (by decide))]; rfl
    · rw [exec_clear_one (t := .motion) hs rfl hc (hlt (by decide))]; rfl
    · rw [exec_clear_one (t := .audio) hs rfl hc (hlt (by decide))]; rfl
    · rw [exec_clear_one (t := .power) hs rfl hc (hlt (by decide))]; rfl
  · subst ht
    rw [exec_clear_one (t := .streamStatus) hs rfl hc (hi ▸ i.isLt), hi, State.clearEntry, Fin.ofNat_val_self]
    rfl
  · subst ht
    cases g <;> rw [exec_clear_one (t := .exposure) hs rfl hc (by rw [hi]; decide), hi] <;> rfl
  · subst ht
    cases g <;> rw [exec_clear_one (t := .panel) hs rfl hc (by rw [hi]; decide), hi] <;> rfl
  · subst ht
    rw [exec_clear_one (t := .poll) hs rfl hc (hi ▸ i.isLt), hi, State.clearEntry, Fin.ofNat_val_self]
    rfl
  · subst ht
    rw [exec_clear_one (t := .loads) hs rfl hc (hi ▸ i.isLt), hi, State.clearEntry, Fin.ofNat_val_self]
    rfl
  · subst ht
    rw [exec_clear_one (t := .events) hs rfl hc (hi ▸ i.isLt), hi, State.clearEntry, Fin.ofNat_val_self]
    rfl
  · rintro (⟨rfl, h⟩ | ⟨rfl, h⟩ | ⟨rfl, h⟩ | ⟨rfl, h⟩)
    · rw [exec_clear_one (t := .steering) hs rfl hc h]; rfl
    · rw [exec_clear_one (t := .sideband) hs rfl hc h]; rfl
    · rw [exec_clear_one (t := .frameLog) hs rfl hc h]; rfl
    · rw [exec_clear_one (t := .pattern) hs rfl hc h]; rfl

end Sys2Proof.Machine
end

section
/-! The start rule of a sensor bus (R108), the relay's slot, BUS_RECOVER and FIFO_FLUSH (R52, R115, R117, R118). -/

namespace Sys2Proof.Machine

open Sys2Proof

variable {s : State}

/-! ### The start rule (R108) -/

theorem State.startNext_atWork {b : Bus} (h : (s.bus b).state ≠ .idle) : s.startNext b = s := if_neg h

theorem State.startNext_recovery {cause : Cause} (h : s.mou.twoWire.state = .idle) (hp : s.mou.twoWire.recPending = some cause) :
    s.startNext .twoWire = s.startRecovery cause false := by
  have hi : (s.bus .twoWire).state = .idle := h
  have hr : s.pendingRecovery .twoWire = some cause := hp
  rw [State.startNext, if_pos hi, hr]

theorem State.startNext_relay {b : Bus} {r : Relay} (h : (s.bus b).state = .idle) (hp : s.pendingRecovery b = none)
    (hr : s.waitingRelay b = some r) : s.startNext b = s.startRelay r := by
  rw [State.startNext, if_pos h, hp, hr]

theorem State.startNext_head {b : Bus} (h : (s.bus b).state = .idle) (hp : s.pendingRecovery b = none)
    (hr : s.waitingRelay b = none) : s.startNext b = s.startHead b := by
  rw [State.startNext, if_pos h, hp, hr]

theorem State.waitingRelay_eq {b : Bus} {r : Relay} (hr : s.mou.relay = some r) (hb : r.bus = b) (hp : r.phase = .waiting) :
    s.waitingRelay b = some r := by
  rw [State.waitingRelay, hr]
  exact if_pos ⟨hb, hp⟩

/-- The phase a relay begins with (R118). -/
def Relay.firstPhase (r : Relay) : RelayPhase :=
  if r.writeBytes ≠ [] then .write else if 0 < r.readLen then .read else .probe

theorem State.startRelay_serial4 {r : Relay} (h : r.bus = .serial4) (hr : s.mou.relay = some r) :
    s.startRelay r = { s with mou := { s.mou with
      serial4 := { s.mou.serial4 with state := .busy }, relay := some { r with phase := r.firstPhase } } } := by
  obtain ⟨b, _⟩ := r
  obtain rfl : b = .serial4 := h
  simp only [State.startRelay, State.beginTransfer, State.relayPhase, State.onBus, State.onMou, hr]
  rfl

/-- A relay's first transfer on TWO_WIRE samples the data line (R118). -/
theorem State.startRelay_twoWire {r : Relay} (h : r.bus = .twoWire) (hr : s.mou.relay = some r) :
    s.startRelay r = { s with mou := { s.mou with
      relay := some { r with phase := r.firstPhase }
      lineSamples := s.mou.lineSamples + 1
      twoWire := if s.dataLow = true then
          { s.mou.twoWire with
            state := .recovering, poll := none, recovery := some ⟨.lineLow, true⟩, recPending := none, retryAt := none }
        else { s.mou.twoWire with state := .busy } } } := by
  obtain ⟨b, _⟩ := r
  obtain rfl : b = .twoWire := h
  have hlow : (s.onBus .twoWire fun c => { c with state := .busy }).dataLow = s.dataLow := rfl
  simp only [State.startRelay, State.beginTransfer, hlow]
  split <;>
    simp only [State.relayPhase, State.sampled, State.startRecovery, State.onBus, State.onMou, hr] <;> rfl

/-! ### RELAY (R52, R118) -/

/-- The state with the slot taken and the motion unit changed. -/
def State.relayTaken (s : State) (r : Request) (m : Mou) : State :=
  { s.countTaken with mrs := { s.countTaken.mrs with slot := some (slotOf r s.osc) }, mou := m }

/-- A bus with every queued entry marked late (R108). -/
def BusCtl.lateMarked (c : BusCtl) : BusCtl := { c with queue := c.queue.map fun q => { q with late := true } }

theorem length_bytesOf (ws : List Word) : (bytesOf ws).length = 4 * ws.length := by
  induction ws with
  | nil => rfl
  | cons w ws ih =>
    rw [bytesOf, List.flatMap_cons, List.length_append]
    show _ + (bytesOf ws).length = _
    rw [ih, List.length_cons, Nat.mul_succ, Nat.add_comm]
    rfl

/-- A relay that a RELAY of the right number of words asks for begins with a write just when it has bytes to write. -/
theorem relayOf_firstPhase {r : Request} (hl : r.data.length = 6 + (reqArg r 2 + 3) / 4) :
    (relayOf r).firstPhase =
      if 0 < reqArg r 2 then RelayPhase.write else if 0 < reqArg r 3 then .read else .probe := by
  have hw : (relayOf r).writeBytes ≠ [] ↔ 0 < reqArg r 2 := by
    rw [← List.length_pos_iff_ne_nil]
    show 0 < ((bytesOf (r.data.drop 6)).take (reqArg r 2)).length ↔ _
    rw [List.length_take, length_bytesOf, List.length_drop, hl]
    omega
  simp only [Relay.firstPhase, hw]
  rfl

theorem relayOf_bus {r : Request} (ha : relayArgs r = true) :
    (relayOf r).bus = if reqArg r 0 = 0 then Bus.serial4 else Bus.twoWire := by
  have h0 : reqArg r 0 ≤ 1 := by
    simp only [relayArgs, Bool.and_eq_true, decide_eq_true_eq] at ha
    omega
  show busOfCode (reqArg r 0) = _
  interval_cases reqArg r 0 <;> rfl

/-- A RELAY whose arguments pass meets the slot, then its bus (R52). -/
theorem State.doRelay_passed {r : Request} (hw : reqArg r 2 ≤ 16)
    (hl : r.data.length = 6 + (reqArg r 2 + 3) / 4) (ha : relayArgs r = true) :
    s.doRelay 1 r =
      if s.mrs.slot.isSome then s.answerWith 1 r .busy
      else if (s.bus (relayOf r).bus).state = .fault then s.answerWith 1 r .busError
      else (s.onMrs fun m => { m with slot := some (slotOf r s.osc) }).relayHandOver (relayOf r) := by
  have hl' : r.data.length = 6 + ceilDiv (reqArg r 2) 4 := hl
  rw [State.doRelay, if_neg (by omega), if_neg (by omega), if_neg (not_not.mpr hl'), if_neg (by simp [ha])]

theorem exec_relay_takes {r : Request} (hs : s.serves r) (hw : reqArg r 2 ≤ 16)
    (hl : r.data.length = 6 + (reqArg r 2 + 3) / 4) (ha : relayArgs r = true) (hslot : s.mrs.slot = none)
    (hf : (s.bus (relayOf r).bus).state ≠ .fault) :
    exec (.relay r) s = .next ((s.relayTaken r s.mou).relayHandOver (relayOf r)) := by
  have hslot' : ¬ s.countTaken.mrs.slot.isSome = true := by simp [State.countTaken, State.onMrs, hslot]
  rw [exec_command rfl hs]
  show Host.Outcome.next (s.countTaken.doRelay 1 r) = _
  rw [State.doRelay_passed hw hl ha, if_neg hslot']
  exact congrArg _ (if_neg hf)

/-- A relay handed over to SERIAL4 at work waits (R118). -/
theorem State.relayHandOver_serial4 {r : Relay} (h : r.bus = .serial4) :
    s.relayHandOver r = ({ s with mou := { s.mou with
      relay := some r, serial4 := s.mou.serial4.lateMarked } } : State).startNext .serial4 := by
  obtain ⟨b, _⟩ := r
  obtain rfl : b = .serial4 := h
  rfl

theorem State.relayHandOver_twoWire {r : Relay} (h : r.bus = .twoWire) :
    s.relayHandOver r = ({ s with mou := { s.mou with
      relay := some r, twoWire := s.mou.twoWire.lateMarked } } : State).startNext .twoWire := by
  obtain ⟨b, _⟩ := r
  obtain rfl : b = .twoWire := h
  rfl

theorem State.relayHandOver_serial4_idle {r : Relay} (h : r.bus = .serial4) (hp : r.phase = .waiting)
    (hst : s.mou.serial4.state = .idle) :
    s.relayHandOver r = { s with mou := { s.mou with
      relay := some { r with phase := r.firstPhase }, serial4 := { s.mou.serial4.lateMarked with state := .busy } } } := by
  rw [State.relayHandOver_serial4 h]
  let u : State := { s with mou := { s.mou with relay := some r, serial4 := s.mou.serial4.lateMarked } }
  show u.startNext .serial4 = _
  have hi : (u.bus .serial4).state = .idle := hst
  rw [State.startNext_relay hi rfl (State.waitingRelay_eq rfl h hp), State.startRelay_serial4 h rfl]

theorem State.relayHandOver_serial4_atWork {r : Relay} (h : r.bus = .serial4) (hst : s.mou.serial4.state ≠ .idle) :
    s.relayHandOver r = { s with mou := { s.mou with relay := some r, serial4 := s.mou.serial4.lateMarked } } := by
  rw [State.relayHandOver_serial4 h]
  exact if_neg hst

theorem State.relayHandOver_twoWire_idle {r : Relay} (h : r.bus = .twoWire) (hp : r.phase = .waiting)
    (hst : s.mou.twoWire.state = .idle) (hrp : s.mou.twoWire.recPending = none) :
    s.relayHandOver r = { s with mou := { s.mou with
      relay := some { r with phase := r.firstPhase }
      lineSamples := s.mou.lineSamples + 1
      twoWire := if s.dataLow = true then
          { s.mou.twoWire.lateMarked with
            state := .recovering, poll := none, recovery := some ⟨.lineLow, true⟩, recPending := none, retryAt := none }
        else { s.mou.twoWire.lateMarked with state := .busy } } } := by
  rw [State.relayHandOver_twoWire h]
  let u : State := { s with mou := { s.mou with relay := some r, twoWire := s.mou.twoWire.lateMarked } }
  show u.startNext .twoWire = _
  have hi : (u.bus .twoWire).state = .idle := hst
  rw [State.startNext_relay hi hrp (State.waitingRelay_eq rfl h hp), State.startRelay_twoWire h rfl]
  rfl

theorem State.relayHandOver_twoWire_atWork {r : Relay} (h : r.bus = .twoWire) (hst : s.mou.twoWire.state ≠ .idle) :
    s.relayHandOver r = { s with mou := { s.mou with relay := some r, twoWire := s.mou.twoWire.lateMarked } } := by
  rw [State.relayHandOver_twoWire h]
  exact if_neg hst

/-- Settles O28, by the slot, the bus and its state. -/
theorem relayTakesSlot : Obligations.RelayTakesSlot := by
  intro r s hs _ hw hl ha b first relay taken late
  have hbus : (relayOf r).bus = b := relayOf_bus ha
  have hphase : (relayOf r).firstPhase = first := relayOf_firstPhase hl
  have hidx : reqIndex r = r.index := reqIndex_of_long hs.2.2.1
  have htaken : ∀ m, s.relayTaken r m = taken m := fun m => by
    simp only [State.relayTaken, slotOf, hidx]
    rfl
  have hrelay : ∀ ph, { relayOf r with phase := ph } = relay ph := fun ph => by
    simp only [relay, ← hbus]
    rfl
  have hexec : s.mrs.slot = none → (s.bus b).state ≠ .fault →
      exec (.relay r) s = .next ((s.relayTaken r s.mou).relayHandOver (relayOf r)) := fun hslot hf =>
    exec_relay_takes hs hw hl ha hslot (by rw [hbus]; exact hf)
  have hwork : ∀ {st : BusState}, st = .busy ∨ st = .recovering → st ≠ .idle := fun h k => by simp [k] at h
  refine ⟨fun hslot => ?_, fun hslot hf => ?_, fun hslot hb hst => ?_, fun hslot hb hst => ?_, fun hslot hb hst => ?_,
    fun hslot hb hst hp => ?_⟩
  · rw [exec_command rfl hs]
    show Host.Outcome.next (s.countTaken.doRelay 1 r) = _
    rw [State.doRelay_passed hw hl ha]
    exact congrArg _ (if_pos hslot)
  · have hslot' : ¬ s.countTaken.mrs.slot.isSome = true := by simp [State.countTaken, State.onMrs, hslot]
    rw [exec_command rfl hs]
    show Host.Outcome.next (s.countTaken.doRelay 1 r) = _
    rw [State.doRelay_passed hw hl ha, if_neg hslot', hbus]
    exact congrArg _ (if_pos hf)
  · have hf : (s.bus b).state ≠ .fault := by rw [hb]; exact fun h => nomatch hst.symm.trans h
    rw [hexec hslot hf, State.relayHandOver_serial4_idle (s := s.relayTaken r s.mou) (hbus.trans hb) rfl hst, ← htaken, ← hrelay, ← hphase]
    rfl
  · have hf : (s.bus b).state ≠ .fault := by rw [hb]; exact fun h => by simp_all [State.bus]
    rw [hexec hslot hf, State.relayHandOver_serial4_atWork (s := s.relayTaken r s.mou) (hbus.trans hb) (hwork hst),
      ← htaken, ← hrelay]
    rfl
  · have hf : (s.bus b).state ≠ .fault := by rw [hb]; exact fun h => by simp_all [State.bus]
    rw [hexec hslot hf, State.relayHandOver_twoWire_atWork (s := s.relayTaken r s.mou) (hbus.trans hb) (hwork hst),
      ← htaken, ← hrelay]
    rfl
  · have hf : (s.bus b).state ≠ .fault := by rw [hb]; exact fun h => nomatch hst.symm.trans h
    rw [hexec hslot hf, State.relayHandOver_twoWire_idle (s := s.relayTaken r s.mou) (hbus.trans hb) rfl hst hp, ← htaken, ← hrelay, ← hphase]
    rfl

/-! ### BUS_RECOVER and FIFO_FLUSH (R115, R117) -/

theorem exec_busRecover {r : Request} {w : Word} (hs : s.serves r) (hd : r.data = [w]) (hw : w.toNat ≤ 1) :
    exec (.busRecover r) s = .next ((s.countTaken.busRecover (busOfCode w.toNat)).answerWith 2 r .ok) := by
  have harg : reqArg r 0 = w.toNat := by rw [reqArg, hd]; rfl
  rw [exec_command rfl hs]
  show Host.Outcome.next (s.countTaken.doBusRecover 2 r) = _
  rw [State.doBusRecover, if_neg (by simp [hd]), harg, if_neg (Nat.not_lt.mpr hw)]

/-- Settles O29, by the bus and its state. -/
theorem busRecoverAndFifoFlush : Obligations.BusRecoverAndFifoFlush := by
  intro r s hs wired
  have hwire : ∀ w, r.data = [w] → w = 1 →
      exec (.busRecover r) s = .next ((s.countTaken.busRecover .twoWire).answerWith 2 r .ok) := fun w hd hw =>
    (exec_busRecover hs hd (by rw [hw]; decide)).trans (by rw [hw]; rfl)
  refine ⟨fun w hd hw => ?_, fun w hd hw hst => ?_, fun w hd hw hst => ?_, fun w hd hw hst => ?_, fun hd => ?_⟩
  · rw [exec_busRecover hs hd (by rw [hw]; decide), hw]
    rfl
  · have hst' : s.countTaken.mou.twoWire.state = .idle ∨ s.countTaken.mou.twoWire.state = .fault := hst
    rw [hwire w hd hw, State.busRecover]
    rcases hst' with h | h <;> rw [h] <;> rfl
  · have hst' : s.countTaken.mou.twoWire.state = .busy := hst
    rw [hwire w hd hw, State.busRecover, hst']
    rfl
  · have hst' : s.countTaken.mou.twoWire.state = .recovering := hst
    rw [hwire w hd hw, State.busRecover, hst']
    rfl
  · rw [exec_command rfl hs]
    show Host.Outcome.next (s.countTaken.doFifoFlush 3 r) = _
    rw [State.doFifoFlush, if_neg (by simp [hd])]
    rfl

end Sys2Proof.Machine
end

section
/-! The commands that end in a refresh of the loads: AUDIO_RESTART, PLAY and STOP (R142, R155, R159, R178), with the idle timer's
expiry. -/

namespace Sys2Proof.Machine

open Sys2Proof

variable {s t : State}

/-! ### A refresh of the loads and its frame -/

/-- What a change within the blocks of an allocation leaves. -/
theorem Within.restore_allocation (w : Within allocationParts s t) :
    { t with auu := s.auu, pmg := s.pmg, evu := s.evu, pte := s.pte, mou := s.mou, pxp := s.pxp, ftm := s.ftm } = s := by
  have hp := w.pending
  have hh := w.hold
  have hc := w.clock.resolve_left (by decide)
  have hl := w.lrx.resolve_left (by decide)
  have hx := w.ltx.resolve_left (by decide)
  have hu := w.stu.resolve_left (by decide)
  have hm := w.mrs.resolve_left (by decide)
  have hf := w.cfl.resolve_left (by decide)
  have hs := w.lsu.resolve_left (by decide)
  cases s
  cases t
  simp only at hp hh hc hl hx hu hm hf hs
  simp only [hp, hh, hc, hl, hx, hu, hm, hf, hs]

theorem State.refreshLoads_ltx (s : State) : s.refreshLoads.ltx = s.ltx := s.refreshLoads_within.ltx.resolve_left (by decide)

theorem State.refreshLoads_mrs (s : State) : s.refreshLoads.mrs = s.mrs := s.refreshLoads_within.mrs.resolve_left (by decide)

/-- A reply after a refresh of the loads changes the REPLY queue alone. -/
theorem State.refreshLoads_answerWith (s : State) (code : Byte) (r : Request) (st : Status) :
    s.refreshLoads.answerWith code r st = { s.refreshLoads with ltx := (s.answerWith code r st).ltx } := by
  simp only [State.answerWith, State.placeReply, State.onLtx, s.refreshLoads_ltx]

/-! ### The stop of audio (R142) -/

theorem exec_audioRestart {r : Request} (hs : s.serves r) (hd : r.data = []) :
    exec (.audioRestart r) s =
      .next (((s.countTaken.onAuu fun a => { a.halt with servoF := 0 }).refreshLoads).answerWith 4 r .ok) := by
  rw [exec_command rfl hs]
  show Host.Outcome.next (s.countTaken.doAudioRestart 4 r) = _
  rw [State.doAudioRestart, if_neg (by simp [hd])]

/-- Settles O31. -/
theorem audioStops : Obligations.AudioStops := by
  refine ⟨fun r s hs hd => ?_, fun r s hs hd h1 h2 h3 h4 h5 hq => ?_, fun s hh he => ?_⟩
  · let u := s.countTaken.onAuu fun a => { a.halt with servoF := 0 }
    have hrest := u.refreshLoads_within.restore_allocation
    obtain ⟨-, ⟨cap, ha⟩, -, -⟩ := u.refreshLoads_spec
    refine ⟨_, exec_audioRestart hs hd, ⟨cap, ha⟩, u.refreshLoads_requestChanged, ?_, u.refreshLoads_mrs, ?_⟩
    · rw [State.refreshLoads_answerWith]
      rfl
    · simp only [State.refreshLoads_answerWith]
      exact congrArg (fun v : State => { v with mrs := s.mrs, auu := s.auu, ltx := s.ltx }) hrest
  · let u : State := { s.countTaken with auu := { s.auu with servoF := 0 } }
    have hhalt : (s.countTaken.onAuu fun a => { a.halt with servoF := 0 }) = u := by
      simp only [u, State.onAuu, Auu.halt, State.countTaken, State.onMrs, h1, h2, h3, h4, h5]
    have hu : u.requestChanged = false := hq
    rw [exec_audioRestart hs hd, hhalt, State.refreshLoads_of_unchanged hu]
    rfl
  · let u := s.onAuu fun a => { a.halt with idleStops := satInc a.idleStops }
    have hrest := u.refreshLoads_within.restore_allocation
    obtain ⟨-, ⟨cap, ha⟩, -, -⟩ := u.refreshLoads_spec
    refine ⟨u.refreshLoads, ?_, ⟨cap, ha⟩, u.refreshLoads_requestChanged, congrArg (fun v : State => { v with auu := s.auu }) hrest⟩
    show Host.Outcome.next (s.live _) = _
    rw [State.live_of_free _ hh, if_pos he]

/-! ### PLAY and STOP (R155, R159) -/

theorem channelOfCode_eq {n : Nat} {c : Channel} (h : n = if c = .t then 0 else 1) : channelOfCode n = c := by
  cases c <;> rw [h] <;> rfl

/-- The state with the pattern on a channel ended, where one plays (R160). -/
theorem State.endPattern_eq (s : State) (c : Channel) (why : EndReason) : s.endPattern c why = { s with
    pte := if (s.pte.chan c).isSome then s.pte.endChan c why else s.pte
    evu := match s.pte.chan c with
      | none => s.evu
      | some p => s.evu.take .patternDone (patternDetail c why p) s.now s.timeUnset } := by
  unfold State.endPattern
  cases s.pte.chan c <;> rfl

theorem exec_play {r : Request} {c : Channel} {n : Fin 48} (hs : s.serves r) (hl : r.data.length = 4) (ha : playArgs r = true)
    (hc : reqArg r 0 = if c = .t then 0 else 1) (hn : reqArg r 1 = n.val) :
    exec (.play r) s = .next (if s.pte.outranks c (reqArg r 2) then s.answered 5 r .busy []
      else (s.countTaken.startPlay c n (reqArg r 2) (reqArg r 3)).answerWith 5 r .ok) := by
  rw [exec_command rfl hs]
  show Host.Outcome.next (s.countTaken.doPlay 5 r) = _
  rw [State.doPlay, if_neg (by simp [hl]), if_neg (by simp [ha]), channelOfCode_eq hc, hn, Fin.ofNat_val_self]
  rfl

theorem BridgeState.stopped_eq (b : BridgeState) : b.stopped = if b = .held then .held else .idle := by cases b <;> rfl

theorem BridgeState.started_eq (b : BridgeState) : b.started = if b = .held then .held else .driving := by cases b <;> rfl

theorem BridgeState.stopped_started (b : BridgeState) : b.stopped.started = b.started := by cases b <;> rfl

/-- The engine after a PLAY on channel H: the bridge drives unless it is HELD, and a displaced pattern leaves its outputs low,
a NEGATIVE one with a dead time (R155, R158, R164). -/
theorem Pte.play_haptic (x : Pte) (n : Fin 48) (priority budget osc : Nat) :
    (if (x.chan .h).isSome then x.endChan .h .preempted else x).play .h n priority budget x.negative osc =
      { (match x.chanH with
          | none => x
          | some p => { x with
            hp := false, hn := false, deadEnd := if p.negative = true then some (osc + usTicks x.deadTime) else x.deadEnd }) with
        chanH := some (startPattern x.steps n priority budget osc)
        bridge := if x.bridge = .held then .held else .driving } := by
  rw [← BridgeState.started_eq]
  have hneg : x.negative = (x.chanH.map Pattern.negative).getD false := rfl
  have hch : x.chan .h = x.chanH := rfl
  rw [hch, hneg]
  cases x.chanH with
  | none => rfl
  | some p =>
    by_cases hp : p.negative = true <;>
      simp [hp, Pte.play, Pte.turned, Pte.reversal, Pte.endChan, BridgeState.stopped_started]

/-- Settles O32. -/
theorem playStartsPattern : Obligations.PlayStartsPattern := by
  intro r s c n hs hl ha hc hn x begun reported
  have hexec := exec_play hs hl ha hc hn
  have hrank : (∀ p, s.pte.chan c = some p → p.priority ≤ reqArg r 2) → ¬ s.pte.outranks c (reqArg r 2) = true := fun hle => by
    unfold Pte.outranks
    cases hp : s.pte.chan c with
    | none => simp
    | some p => simpa using hle p hp
  refine ⟨fun ⟨p, hp, hlt⟩ => ?_, fun hle ht hq => ?_, fun hle hh => ?_⟩
  · rw [hexec, if_pos (by simp [Pte.outranks, hp, hlt])]
  · subst ht
    let u : State := { s.countTaken with pte := { s.pte with chanT := some begun }, evu := reported }
    have hu : (s.countTaken.endPattern .t .preempted).onPte (fun y =>
        y.play .t n (reqArg r 2) (reqArg r 3) s.countTaken.pte.negative s.countTaken.osc) = u := by
      rw [State.endPattern_eq]
      unfold State.onPte
      dsimp only
      split <;> rfl
    have hq' : u.requestChanged = false := hq
    rw [hexec, if_neg (hrank hle), State.startPlay, hu, State.refreshLoads_of_unchanged hq']
    rfl
  · subst hh
    intro a freed placed
    have hu : (s.countTaken.endPattern .h .preempted).onPte (fun y =>
        y.play .h n (reqArg r 2) (reqArg r 3) s.countTaken.pte.negative s.countTaken.osc) = placed := by
      rw [State.endPattern_eq]
      exact congrArg (fun y : Pte => ({ s with mrs := a.mrs, evu := reported, pte := y } : State))
        (s.pte.play_haptic n (reqArg r 2) (reqArg r 3) s.osc)
    rw [hexec, if_neg (hrank hle), State.startPlay, hu, State.refreshLoads_answerWith]
    exact ⟨rfl, placed.refreshLoads_requestChanged⟩

/-- Settles O33. -/
theorem stopEndsPattern : Obligations.StopEndsPattern := by
  intro r s c w hs hd hw a
  have hstop : exec (.stop r) s = .next (((s.countTaken.endPattern c .stopped).refreshLoads).answerWith 6 r .ok) := by
    have harg : reqArg r 0 = if c = .t then 0 else 1 := by
      rw [reqArg, hd]
      show w.toNat = _
      rw [hw]
      cases c <;> rfl
    have h1 : ¬ 1 < reqArg r 0 := by rw [harg]; split <;> decide
    rw [exec_command rfl hs]
    show Host.Outcome.next (s.countTaken.doStop 6 r) = _
    rw [State.doStop, if_neg (by simp [hd]), if_neg h1, channelOfCode_eq harg]
  refine ⟨fun hn hq => ?_, fun p hp ht hq => ?_, fun p hp hh => ?_⟩
  · have hn' : s.countTaken.endPattern c .stopped = s.countTaken := by
      have : s.countTaken.pte.chan c = none := hn
      rw [State.endPattern, this]
    rw [hstop, hn', State.refreshLoads_of_unchanged (s := s.countTaken) hq]
    rfl
  · subst ht
    let u : State := { s.countTaken with
      pte := { s.pte with chanT := none }, evu := s.evu.take .patternDone (patternDetail .t .stopped p) s.now s.timeUnset }
    have hu : s.countTaken.endPattern .t .stopped = u := by
      have : s.countTaken.pte.chan .t = some p := hp
      rw [State.endPattern, this]
      rfl
    have hq' : u.requestChanged = false := hq
    rw [hstop, hu, State.refreshLoads_of_unchanged hq']
    rfl
  · subst hh
    intro ended
    have hu : s.countTaken.endPattern .h .stopped = ended := by
      have : s.countTaken.pte.chan .h = some p := hp
      rw [State.endPattern, this]
      simp only [ended, ← BridgeState.stopped_eq]
      rfl
    rw [hstop, hu, State.refreshLoads_answerWith]
    exact ⟨rfl, ended.refreshLoads_requestChanged⟩

end Sys2Proof.Machine
end

section
/-! The loader: the header, the body and the records of the start-up image, and the end of loading (R56 to R58, R60, R170). -/

namespace Sys2Proof.Machine

open Sys2Proof

variable {s t u : State}

/-! ### The frame timer under the power manager -/

/-- `t` has the frame timer of `s` but for the SCANNING and DONE records and the completions awaited. -/
def TimerKept (s t : State) : Prop :=
  t.ftm = { s.ftm with scanning := t.ftm.scanning, done := t.ftm.done, pendingPanels := t.ftm.pendingPanels }

namespace TimerKept

theorem refl : TimerKept s s := rfl

theorem trans (h : TimerKept s t) (k : TimerKept t u) : TimerKept s u := by
  unfold TimerKept at *
  rw [k, h]

theorem of_within {bs : List Part} (w : Within bs s t) (h : Part.ftm ∉ bs) : TimerKept s t := by
  unfold TimerKept
  rw [w.ftm.resolve_left h]

theorem of_calm (c : Calm s t) : TimerKept s t := c.ftm

/-- Everything the power manager does keeps the rest of the frame timer. -/
theorem keptByPower (s : State) : KeptByPower (TimerKept s) where
  pmg _ _ _ h := h
  cap _ _ _ h := h
  pte _ _ h := h
  raise _ _ _ h := h
  handClass u c h := h.trans (.of_within (u.handClass_within c) (by decide))
  panelOff u p h := h.trans (.of_calm (u.panelOff_calm p))
  panelWake u p h := h.trans (.of_calm (u.panelWake_calm p))
  holdStrobe u p h :=
    h.trans ((TimerKept.of_within (u.onPanel_within p _) (by decide)).trans (.of_calm (State.tryComplete_calm _ p)))
  releaseStrobe u p h := h.trans (.of_within (u.releaseStrobe_within p) (by decide))

end TimerKept

/-! ### The end of loading (R56, R60, R170) -/

theorem State.powerTo_state (s : State) (new : PowerState) (why : PowerCause) : (s.powerTo new why).pmg.state = new := by
  by_cases h : s.pmg.state = new
  · rw [State.powerTo, if_pos h, h]
  · exact (State.powerTo_budgeted why h).2.1

theorem State.loadEndPower_state (s : State) :
    s.loadEndPower.pmg.state =
      if s.pmg.state = .held ∧ s.pmg.window ≠ [] then loadEndChoice s.pmg else s.pmg.state := by
  unfold State.loadEndPower
  split
  · exact s.powerTo_state _ _
  · rfl

/-- The state after loading has ended with the loader as given (log entry 16). -/
def State.endedAs (s : State) (c : Cfl) : State :=
  (({ s with cfl := c, evu := s.evu.take .imageStatus c.detail s.now s.timeUnset } : State).loadEndPower).onFtm fun f =>
    f.leaveIdle s.now

theorem State.endLoading_eq (s : State) (st : ImageState) : s.endLoading st = s.endedAs { s.cfl with state := st, pass := 0 } := rfl

/-- The blocks that the end of loading can change. -/
abbrev endedParts : List Part := .cfl :: allocationParts

theorem State.endedAs_within (s : State) (c : Cfl) : Within endedParts s (s.endedAs c) := by
  let u : State := { s with cfl := c, evu := s.evu.take .imageStatus c.detail s.now s.timeUnset }
  have hu : Within endedParts s u := by constructor <;> first | rfl | exact .inr rfl | exact .inl (by decide)
  exact hu.trans ((u.loadEndPower_within.mono (by decide)).trans ((State.onFtm_within _ _).mono (by decide)))

theorem State.endedAs_cfl (s : State) (c : Cfl) : (s.endedAs c).cfl = c :=
  (State.loadEndPower_within _).cfl.resolve_left (by decide)

theorem Ftm.leaveIdle_schedule (t : Ftm) (now : Time) :
    (t.leaveIdle now).schedule = if t.written.linked then .awaiting else .starting := by
  unfold Ftm.leaveIdle
  split <;> rfl

theorem State.endedAs_schedule (s : State) (c : Cfl) :
    (s.endedAs c).ftm.schedule = if s.ftm.written.linked then .awaiting else .starting := by
  let u : State := { s with cfl := c, evu := s.evu.take .imageStatus c.detail s.now s.timeUnset }
  have hk : TimerKept u u.loadEndPower := (TimerKept.keptByPower u).loadEndPower .refl
  have hw : u.loadEndPower.ftm.written = s.ftm.written := by
    rw [hk]
  show (u.loadEndPower.ftm.leaveIdle s.now).schedule = _
  rw [Ftm.leaveIdle_schedule, hw]

theorem State.endedAs_power (s : State) (c : Cfl) :
    (s.endedAs c).pmg.state = if s.pmg.state = .held ∧ s.pmg.window ≠ [] then loadEndChoice s.pmg else s.pmg.state :=
  State.loadEndPower_state _

theorem State.endedAs_events (s : State) (c : Cfl) (h : s.pmg.state ≠ .held ∨ s.pmg.window = []) :
    (s.endedAs c).evu = s.evu.take .imageStatus c.detail s.now s.timeUnset := by
  let u : State := { s with cfl := c, evu := s.evu.take .imageStatus c.detail s.now s.timeUnset }
  have hn : ¬ (u.pmg.state = .held ∧ u.pmg.window ≠ []) := fun k => h.elim (absurd k.1) fun h => k.2 h
  show u.loadEndPower.evu = _
  rw [State.loadEndPower, if_neg hn]

/-- The choice at the end of loading, with the current hold looked at before the filtered voltage (R170, R173). -/
theorem loadEndChoice_eq (p : Pmg) : loadEndChoice p =
    if p.latest.mv < p.cfg.vTrip then .trip
    else if p.hold = true then .shed
    else if p.cfg.vWarn ≤ p.filtered.mv then .normal
    else if p.cfg.vShed ≤ p.filtered.mv then .constrained else .shed := by
  unfold loadEndChoice
  split_ifs <;> simp_all

/-! ### Pass 1 -/

theorem exec_imageHeaderRead {w0 w1 : Word} (hh : s.held = false) (hl : s.cfl.state = .loading) (hp : s.cfl.pass = 1)
    (hpos : s.cfl.position = 0) : exec (.imageHeaderRead w0 w1) s = .next (s.edged fun s => s.imageHeader w0 w1) := by
  show Host.Outcome.next (s.live fun s => if s.cfl.inPass 1 0 then s.edged fun s => s.imageHeader w0 w1 else s) = _
  rw [State.live_of_free _ hh, if_pos (by simp [Cfl.inPass, hl, hp, hpos])]

theorem exec_imageBodyRead {body : List Word} (hh : s.held = false) (hl : s.cfl.state = .loading) (hp : s.cfl.pass = 1)
    (hpos : s.cfl.position = 2) (hn : body.length = s.cfl.length) :
    exec (.imageBodyRead body) s = .next (s.edged fun s => s.imageBody body) := by
  show Host.Outcome.next (s.live fun s =>
    if s.cfl.inPass 1 2 then (if body.length = s.cfl.length then s.edged fun s => s.imageBody body else s) else s) = _
  rw [State.live_of_free _ hh, if_pos (by simp [Cfl.inPass, hl, hp, hpos]), if_pos hn]

/-- A change of the loader alone raises no line. -/
theorem State.edged_loader {f : State → State} {c : Cfl} (h : f s = { s with cfl := c }) : s.edged f = { s with cfl := c } := by
  have hq : NoRise s (f s) := by
    rw [h]
    exact .of_lineless ((s.onCfl_within fun _ => c).mono (by decide))
  rw [NoRise.edged hq, h]

/-- An act with its edges hands on its blocks but for the motion unit. -/
theorem State.edged_apply {f : State → State} (h : f s = t) : s.edged f = t.handEdges s.levels t.levels := by
  rw [← h]
  rfl

/-- Settles O34: each judgement ends in a change of the loader or in the end of loading. -/
theorem imageHeaderAndBodyAreJudged : Obligations.ImageHeaderAndBodyAreJudged := by
  intro s hh hl hp p choice ended
  have hchoice : loadEndChoice s.pmg = choice := loadEndChoice_eq s.pmg
  have hended : ∀ {f : State → State} {c : Cfl}, f s = s.endedAs c → ended (s.edged f) c := fun {f c} hf => by
    have hw := (s.endedAs_within c).trans ((State.handEdges_within _ s.levels (s.endedAs c).levels).mono (by decide))
    have he : (s.edged f) = { s.endedAs c with mou := (s.edged f).mou } := by
      rw [State.edged_apply hf]
      exact State.handEdges_eq_mou _ _ _
    rw [← State.edged_apply hf] at hw
    refine ⟨?_, ?_, hw.lrx.resolve_left (by decide), hw.ltx.resolve_left (by decide), hw.stu.resolve_left (by decide),
      hw.mrs.resolve_left (by decide), hw.lsu.resolve_left (by decide), hw.clock.resolve_left (by decide), ?_, fun h => ?_, ?_⟩
    · rw [he]; exact s.endedAs_cfl c
    · rw [he]; exact s.endedAs_schedule c
    · rw [he, ← hchoice]; exact s.endedAs_power c
    · rw [he]; exact s.endedAs_events c h
    · exact (State.edged_apply hf).trans (State.edged_apply (f := fun s => s.endedAs c) rfl).symm
  refine ⟨?_, fun body hpos hn => ?_⟩
  · intro w0 w1 hpos read
    rw [exec_imageHeaderRead hh hl hp hpos]
    have hread : w0.toNat % 65536 = imageMarker → s.cfl.takeHeader w0 w1 = read (w0.toNat / 65536) := fun hm => by
      rw [Cfl.takeHeader, if_pos hm]
    refine ⟨fun hm h1 h2 => ?_, fun hm h => ⟨_, rfl, hended ?_⟩, fun hm => ⟨_, rfl, hended ?_⟩⟩
    · replace hm : w0.toNat % 65536 = imageMarker := hm
      refine congrArg _ (State.edged_loader ?_)
      rw [← hread hm, State.imageHeader, if_neg (not_not.mpr hm), if_neg]
      · rfl
      · exact fun h => h.elim (fun h => by rw [show w1.toNat % 65536 = 0 from h] at h1; omega) (Nat.not_lt.mpr h2)
    · replace hm : w0.toNat % 65536 = imageMarker := hm
      rw [← hread hm, State.imageHeader, if_neg (not_not.mpr hm), if_pos]
      · rfl
      · exact h
    · replace hm : w0.toNat % 65536 ≠ imageMarker := hm
      rw [State.imageHeader, if_pos hm, State.endLoading_eq]
      simp only [State.onCfl, Cfl.takeHeader, if_neg hm]
      rfl
  · rw [exec_imageBodyRead hh hl hp hpos hn]
    refine ⟨fun hc => ?_, fun hc => ⟨_, rfl, hended ?_⟩⟩
    · exact congrArg _ (State.edged_loader (if_pos hc))
    · exact if_neg hc

/-! ### What a store leaves of the replies and the voice cells -/

theorem Table.loader_not_stored (t : Table) : Part.cfl ∉ t.parts := by cases t <;> decide

theorem Table.clock_not_stored (t : Table) : Part.clock ∉ t.parts := by cases t <;> decide

theorem Table.responder_not_stored (t : Table) : Part.mrs ∉ t.parts := by cases t <;> decide

/-- `t` has the replies and the voice cells of `s`. -/
def QueuesKept (s t : State) : Prop := t.ltx.reply = s.ltx.reply ∧ t.ltx.voice = s.ltx.voice

theorem QueuesKept.of_within {bs : List Part} (w : Within bs s t) (h : Part.ltx ∉ bs) : QueuesKept s t := by
  have e := w.ltx.resolve_left h
  exact ⟨by rw [e], by rw [e]⟩

theorem QueuesKept.trans (h : QueuesKept s t) (k : QueuesKept t u) : QueuesKept s u := ⟨k.1.trans h.1, k.2.trans h.2⟩

theorem QueuesKept.keptByPower (s : State) : KeptByPower (QueuesKept s) where
  pmg _ _ _ h := h
  cap _ _ _ h := h
  pte _ _ h := h
  raise _ _ _ h := h
  handClass u c h := h.trans (.of_within (u.handClass_within c) (by decide))
  panelOff u p h := h.trans (.of_within (u.panelOff_within p) (by decide))
  panelWake u p h := h.trans (.of_within (u.panelWake_within p) (by decide))
  holdStrobe u p h := h.trans (.of_within (u.holdStrobe_within p) (by decide))
  releaseStrobe u p h := h.trans (.of_within (u.releaseStrobe_within p) (by decide))

theorem State.judgeBatch_queuesKept (s : State) : QueuesKept s s.judgeBatch := by
  obtain ⟨k, cells, -, h, -, -, -⟩ := buildBatches_spec motionCapacity s
  have h' : s.judgeBatch.ltx = _ := h
  exact ⟨by rw [h'], by rw [h']⟩

theorem State.store_queuesKept (s : State) (t : Table) (es : List EntryValues) : QueuesKept s (s.store t es) := by
  refine (QueuesKept.keptByPower s).store ⟨rfl, rfl⟩ t es (fun u e hu => hu.trans ?_) fun u hu => hu.trans u.judgeBatch_queuesKept
  cases t with
  | motion => exact ⟨rfl, rfl⟩
  | _ => exact .of_within (u.storeEntry_within _ e) (by decide)

/-! ### Pass 2 -/

theorem exec_imageRecord {w : Word} {data : List Word} (hh : s.held = false) (hl : s.cfl.state = .loading) (hp : s.cfl.pass = 2) :
    exec (.imageRecord w data) s = .next (s.edged fun s => s.imageRecord w data) := by
  show Host.Outcome.next (s.live fun s => if s.cfl.inRecords then s.edged fun s => s.imageRecord w data else s) = _
  rw [State.live_of_free _ hh, if_pos (by simp [Cfl.inRecords, hl, hp])]

/-- Loading ended in pass 2, with what the loader then holds. -/
def Cfl.ended (c : Cfl) : Cfl := { c with state := if c.skipped = 0 then .loaded else .loadedWithErrors, pass := 0 }

theorem State.finishLoading_eq (s : State) : s.finishLoading = s.endedAs s.cfl.ended := rfl

/-- The loader after a whole record has been judged as a WRITE (R58). -/
def State.recordJudged (s : State) (t : Table) (h : RecordHeader) (pos : Nat) (data : List Word) (c : Cfl) : Cfl :=
  if h.count = 0 ∨ t.entries < h.index + h.count then c.skip pos
  else match s.judgeWrite t h.index h.count data with
    | .refused _ => c.skip pos
    | .store _ clamped => c.apply clamped

/-- A whole record changes the loader, and is stored where it is applied. -/
theorem State.takeRecord_cases (s : State) (t : Table) (h : RecordHeader) (pos : Nat) (data : List Word) :
    s.takeRecord t h pos data = { s with cfl := s.cfl.skip pos } ∧ s.recordJudged t h pos data s.cfl = s.cfl.skip pos
      ∨ ∃ es clamped, s.judgeWrite t h.index h.count data = .store es clamped
        ∧ s.takeRecord t h pos data = { s.store t es with cfl := s.cfl.apply clamped }
        ∧ s.recordJudged t h pos data s.cfl = s.cfl.apply clamped := by
  unfold State.takeRecord State.recordJudged
  split
  · exact .inl ⟨rfl, rfl⟩
  · cases hj : s.judgeWrite t h.index h.count data with
    | refused st => exact .inl ⟨rfl, rfl⟩
    | store es clamped =>
      have hc : (s.store t es).cfl = s.cfl := (s.store_within t es).cfl.resolve_left t.loader_not_stored
      exact .inr ⟨es, clamped, rfl, by simp only [State.onCfl, hc], rfl⟩

theorem State.takeRecord_applied {t : Table} {h : RecordHeader} {pos : Nat} {data : List Word} {es : List EntryValues} {cl : Bool}
    (hc : h.count ≠ 0) (hi : h.index + h.count ≤ t.entries) (hj : s.judgeWrite t h.index h.count data = .store es cl) :
    s.takeRecord t h pos data = { s.store t es with cfl := s.cfl.apply cl } := by
  have hcfl : (s.store t es).cfl = s.cfl := (s.store_within t es).cfl.resolve_left t.loader_not_stored
  rw [State.takeRecord, if_neg (fun h => h.elim hc (Nat.not_lt.mpr hi)), hj]
  simp only [State.onCfl, hcfl]

/-- A record at which loading ends leaves the clock and the links. -/
theorem State.endedAs_frame (s : State) (c : Cfl) {f : State → State} (h : f s = s.endedAs c) :
    (s.edged f).cfl = c ∧ (s.edged f).clock = s.clock ∧ (s.edged f).mrs = s.mrs ∧ (s.edged f).ltx = s.ltx
      ∧ (s.edged f).lrx = s.lrx ∧ (s.edged f).stu = s.stu ∧ (s.edged f).lsu = s.lsu := by
  have hw := (s.endedAs_within c).trans ((State.handEdges_within _ s.levels (s.endedAs c).levels).mono (by decide))
  have hcfl := ((s.endedAs c).handEdges_within s.levels (s.endedAs c).levels).cfl.resolve_left (by decide)
  rw [State.edged_apply h]
  exact ⟨hcfl.trans (s.endedAs_cfl c), hw.clock.resolve_left (by decide), hw.mrs.resolve_left (by decide),
    hw.ltx.resolve_left (by decide), hw.lrx.resolve_left (by decide), hw.stu.resolve_left (by decide),
    hw.lsu.resolve_left (by decide)⟩

/-- A record taken whole leaves the clock, the responder, the replies and the voice cells. -/
theorem State.takeRecord_frame (s : State) (t : Table) (h : RecordHeader) (pos : Nat) (data : List Word) :
    (s.takeRecord t h pos data).cfl = s.recordJudged t h pos data s.cfl ∧ (s.takeRecord t h pos data).clock = s.clock
      ∧ (s.takeRecord t h pos data).mrs = s.mrs ∧ QueuesKept s (s.takeRecord t h pos data) := by
  rcases s.takeRecord_cases t h pos data with ⟨he, hj⟩ | ⟨es, cl, -, he, hj⟩
  · rw [he, hj]
    exact ⟨rfl, rfl, rfl, rfl, rfl⟩
  · have hw := s.store_within t es
    rw [he, hj]
    exact ⟨rfl, hw.clock.resolve_left t.clock_not_stored, hw.mrs.resolve_left t.responder_not_stored, s.store_queuesKept t es⟩

theorem State.recordJudged_place (s : State) (t : Table) (h : RecordHeader) (pos : Nat) (data : List Word) (c : Cfl) :
    (s.recordJudged t h pos data c).position = c.position ∧ (s.recordJudged t h pos data c).length = c.length := by
  unfold State.recordJudged
  split
  · exact ⟨rfl, rfl⟩
  · split <;> exact ⟨rfl, rfl⟩

/-- After a record, loading ends with the last word of the body (R58). -/
theorem State.afterRecord_frame (s : State) :
    s.afterRecord.cfl = (if s.cfl.position = s.cfl.bodyEnd then s.cfl.ended else s.cfl) ∧ s.afterRecord.clock = s.clock
      ∧ s.afterRecord.mrs = s.mrs ∧ s.afterRecord.ltx = s.ltx := by
  unfold State.afterRecord
  split
  · have hw := s.endedAs_within s.cfl.ended
    rw [State.finishLoading_eq]
    exact ⟨s.endedAs_cfl _, hw.clock.resolve_left (by decide), hw.mrs.resolve_left (by decide), hw.ltx.resolve_left (by decide)⟩
  · exact ⟨rfl, rfl, rfl, rfl⟩

/-- Settles O35: a record breaks loading off at its header, or is taken whole. -/
theorem imageRecordIsJudged : Obligations.ImageRecordIsJudged := by
  intro w data s hh hl hp pos count index skip ends
  rw [exec_imageRecord hh hl hp]
  refine ⟨fun h => ?_, ?_⟩
  · have hbreak : s.imageRecord w data = s.breakRecord s.cfl.recordPos := by
      unfold State.imageRecord
      rcases h with h | ⟨t, ht, hlong⟩
      · have hn : Table.ofCode (readRecordHeader w).table = none := Table.ofCode_eq_none h
        dsimp only
        rw [hn]
      · have ht' : Table.ofCode (readRecordHeader w).table = some t := ht
        dsimp only
        rw [ht']
        exact if_pos hlong
    have he : s.imageRecord w data = s.endedAs (ends (skip { s.cfl with position := pos + 1 })) := by
      rw [hbreak, State.breakRecord, State.finishLoading_eq]
      rfl
    exact ⟨_, rfl, s.endedAs_frame _ (f := fun s => s.imageRecord w data) he⟩
  · intro t ht hfit hlen c0 c1
    let v : State := { s with cfl := c0 }
    let hd := readRecordHeader w
    have himage : s.imageRecord w data = (v.takeRecord t hd pos data).afterRecord := by
      have ht' : Table.ofCode (readRecordHeader w).table = some t := ht
      have hfit' : ¬ s.cfl.bodyEnd < s.cfl.recordPos + 1 + (readRecordHeader w).count * t.fields := Nat.not_lt.mpr hfit
      have hlen' : data.length = (readRecordHeader w).count * t.fields := hlen
      unfold State.imageRecord
      dsimp only
      rw [ht']
      dsimp only
      rw [if_neg hfit', if_pos hlen']
      rfl
    have hc1 : v.recordJudged t hd pos data v.cfl = c1 := rfl
    obtain ⟨hcfl, hclock, hmrs, hltx⟩ := v.takeRecord_frame t hd pos data
    rw [hc1] at hcfl
    obtain ⟨hpos, hlength⟩ := v.recordJudged_place t hd pos data v.cfl
    rw [hc1] at hpos hlength
    have hend : (v.takeRecord t hd pos data).cfl.position = (v.takeRecord t hd pos data).cfl.bodyEnd
        ↔ pos + 1 + count * t.fields = 2 + s.cfl.length := by
      rw [hcfl, Cfl.bodyEnd, hpos, hlength]
    obtain ⟨acfl, aclock, amrs, altx⟩ := (v.takeRecord t hd pos data).afterRecord_frame
    obtain ⟨m, hm⟩ := s.edged_eq_mou fun s => s.imageRecord w data
    refine ⟨_, rfl, ?_, ?_, ?_, ?_, ?_, fun hskip hne => ?_, fun es cl hc hi hj hne => ?_⟩
    · rw [hm]
      show (s.imageRecord w data).cfl = _
      rw [himage, acfl, hcfl]
      rw [hcfl] at hend
      exact if_congr hend rfl rfl
    · rw [hm]
      show (s.imageRecord w data).clock = _
      rw [himage, aclock, hclock]
    · rw [hm]
      show (s.imageRecord w data).mrs = _
      rw [himage, amrs, hmrs]
    · rw [hm]
      show (s.imageRecord w data).ltx.reply = _
      rw [himage, altx]
      exact hltx.1
    · rw [hm]
      show (s.imageRecord w data).ltx.voice = _
      rw [himage, altx]
      exact hltx.2
    · refine State.edged_loader ?_
      rw [himage, State.afterRecord, if_neg (mt hend.mp hne)]
      rcases v.takeRecord_cases t hd pos data with ⟨he, hj⟩ | ⟨es, cl, -, -, hj⟩
      · rw [he, ← hc1, hj]
      · exact absurd (congrArg Cfl.skipped (hc1.symm.trans hj)) hskip
    · have hf : s.imageRecord w data = { v.store t es with cfl := c1 } := by
        rw [himage, State.afterRecord, if_neg (mt hend.mp hne), v.takeRecord_applied (h := hd) hc hi hj, ← hc1, State.recordJudged,
          if_neg (fun h => h.elim hc (Nat.not_lt.mpr hi)), show v.judgeWrite t hd.index hd.count data = .store es cl from hj]
      exact (State.edged_apply (f := fun s => s.imageRecord w data) hf).trans (State.edged_apply (f := fun s => _) rfl).symm

end Sys2Proof.Machine
end

section
/-! What the work of the sensor buses can do, said once (chapter 6): it keeps the poll settings and what the power manager reads
of the motion unit, its queues within their capacities and SERIAL4 free of recoveries. -/

namespace Sys2Proof.Machine

open Sys2Proof

/-! ### The event unit -/

/-- The NOTICE queue is within its capacity and stands in falling priority (R188). -/
def Evu.Sound (e : Evu) : Prop := e.queue.length ≤ noticeCapacity ∧ e.queue.Pairwise fun a b => b.priority ≤ a.priority

theorem length_insertNotice (n : Notice) (q : List Notice) : (insertNotice n q).length = q.length + 1 := by
  induction q with
  | nil => rfl
  | cons m q ih =>
    unfold insertNotice
    split
    · rfl
    · simp [ih]

theorem mem_insertNotice {x n : Notice} {q : List Notice} : x ∈ insertNotice n q → x = n ∨ x ∈ q := by
  induction q with
  | nil => simp [insertNotice]
  | cons m q ih =>
    unfold insertNotice
    split
    · simp
    · intro h
      rcases List.mem_cons.mp h with rfl | h
      · exact .inr List.mem_cons_self
      · exact (ih h).imp_right (List.mem_cons_of_mem _)

/-- A notice placed behind its like leaves the queue in falling priority (R188). -/
theorem pairwise_insertNotice (n : Notice) {q : List Notice} (h : q.Pairwise fun a b => b.priority ≤ a.priority) :
    (insertNotice n q).Pairwise fun a b => b.priority ≤ a.priority := by
  induction q with
  | nil => simp [insertNotice]
  | cons m q ih =>
    obtain ⟨hm, hq⟩ := List.pairwise_cons.mp h
    unfold insertNotice
    split
    · rename_i hlt
      refine List.pairwise_cons.mpr ⟨fun x hx => ?_, h⟩
      rcases List.mem_cons.mp hx with rfl | hx
      · exact hlt.le
      · exact (hm x hx).trans hlt.le
    · rename_i hlt
      refine List.pairwise_cons.mpr ⟨fun x hx => ?_, ih hq⟩
      rcases mem_insertNotice hx with rfl | hx
      · exact not_lt.mp hlt
      · exact hm x hx

theorem foldNotice_priorities (k : EventKind) (q : List Notice) :
    (foldNotice k q).map Notice.priority = q.map Notice.priority := by
  induction q with
  | nil => rfl
  | cons m q ih =>
    unfold foldNotice
    split
    · rfl
    · simp [ih]

theorem Evu.Sound.of_priorities {e f : Evu} (h : e.Sound) (hp : f.queue.map Notice.priority = e.queue.map Notice.priority) :
    f.Sound := by
  have hl : f.queue.length = e.queue.length := by simpa using congrArg List.length hp
  have hw : ∀ q : List Notice, (q.Pairwise fun a b => b.priority ≤ a.priority) ↔ (q.map Notice.priority).Pairwise fun a b => b ≤ a :=
    fun q => (List.pairwise_map (f := Notice.priority) (R := fun a b => b ≤ a)).symm
  exact ⟨hl ▸ h.1, (hw _).mpr (hp ▸ (hw _).mp h.2)⟩

theorem Evu.Sound.offerNotice {e : Evu} (h : e.Sound) (n : Notice) : (e.offerNotice n).Sound := by
  obtain ⟨hl, hp⟩ := h
  unfold Evu.offerNotice
  split
  · exact ⟨(length_insertNotice _ _).trans_le ‹_›, pairwise_insertNotice n hp⟩
  · split
    · rename_i hm
      split
      · refine ⟨?_, pairwise_insertNotice n (hp.sublist (List.dropLast_sublist _))⟩
        have hne : e.queue ≠ [] := by
          intro h0
          simp [h0] at hm
        have : 0 < e.queue.length := List.length_pos_iff.mpr hne
        show (insertNotice n e.queue.dropLast).length ≤ noticeCapacity
        rw [length_insertNotice, List.length_dropLast]
        omega
      · exact ⟨hl, hp⟩
    · exact ⟨hl, hp⟩

theorem Evu.Sound.take {e : Evu} (h : e.Sound) (k : EventKind) (d : List Byte) (t : Time) (u : Bool) : (e.take k d t u).Sound := by
  have h1 : ({ e with table := tabMod e.table k.code fun x => { x with occurrences := satInc x.occurrences } } : Evu).Sound := h
  unfold Evu.take
  dsimp only
  split
  · exact h1
  · split
    · exact h.of_priorities (foldNotice_priorities k e.queue)
    · exact h1.offerNotice _

/-! ### The relation -/

/-- Replies queued, with the place reserved for a relay in the slot (R41, R53). -/
def State.replyLoad (s : State) : Nat := s.ltx.reply.length + bit s.mrs.slot.isSome

/-- A bus without a recovery or a fault, as SERIAL4 always is (R102, R116). -/
def BusCtl.Sound (c : BusCtl) : Prop :=
  (c.state = .idle ∨ c.state = .busy) ∧ c.recovery = none ∧ c.recPending = none ∧ c.retryAt = none

/-- What the work of the motion unit keeps of the motion unit itself. -/
structure Mou.Working (m n : Mou) : Prop where
  cfg : ∀ e : Fin 8, n.poll[e].cfg = m.poll[e].cfg
  sensorPower : n.sensorPower = m.sensorPower
  sensorClass : n.sensorClass = m.sensorClass
  fifo : m.fifo.length ≤ fifoCapacity → n.fifo.length ≤ fifoCapacity
  history : m.history.length ≤ historyCapacity → n.history.length ≤ historyCapacity
  serial : m.serial4.Sound → n.serial4.Sound

theorem Mou.Working.refl {m : Mou} : Mou.Working m m := ⟨fun _ => rfl, rfl, rfl, id, id, id⟩

/-- The work of the motion unit, with what it hands to the link transmitter, the responder and the event unit. -/
structure SensorWork (s t : State) : Prop where
  within : Within [.mou, .mrs, .ltx, .evu] s t
  mou : Mou.Working s.mou t.mou
  replies : t.replyLoad ≤ s.replyLoad
  motion : s.ltx.motion.length ≤ motionCapacity → t.ltx.motion.length ≤ motionCapacity
  voice : t.ltx.voice = s.ltx.voice
  notices : s.evu.Sound → t.evu.Sound

namespace SensorWork

variable {s t u : State}

theorem refl : SensorWork s s := ⟨.refl, .refl, le_rfl, id, rfl, id⟩

theorem trans (h : SensorWork s t) (k : SensorWork t u) : SensorWork s u :=
  ⟨h.within.trans k.within,
    ⟨fun e => (k.mou.cfg e).trans (h.mou.cfg e), k.mou.sensorPower.trans h.mou.sensorPower,
      k.mou.sensorClass.trans h.mou.sensorClass, k.mou.fifo ∘ h.mou.fifo, k.mou.history ∘ h.mou.history,
      k.mou.serial ∘ h.mou.serial⟩,
    k.replies.trans h.replies, k.motion ∘ h.motion, k.voice.trans h.voice, k.notices ∘ h.notices⟩

/-- The same as `trans`, the later change named first. -/
theorem after (k : SensorWork t u) (h : SensorWork s t) : SensorWork s u := h.trans k

theorem onMou {f : Mou → Mou} (h : Mou.Working s.mou (f s.mou)) : SensorWork s (s.onMou f) :=
  ⟨(s.onMou_within f).mono (by decide), h, le_rfl, id, rfl, id⟩

theorem raise (k : EventKind) (d : List Byte) : SensorWork s (s.raise k d) :=
  ⟨(s.raise_within k d).mono (by decide), .refl, le_rfl, id, rfl, fun h => h.take _ _ _ _⟩

theorem onPoll (e : Fin 8) (f : PollEntry → PollEntry) (hf : ∀ p, (f p).cfg = p.cfg) : SensorWork s (s.onPoll e f) := by
  refine onMou ⟨fun i => ?_, rfl, rfl, id, id, id⟩
  by_cases h : e = i
  · subst h
    simp [tabMod, hf]
  · simp [tabMod, Fin.val_ne_of_ne h]

theorem onTwoWire (f : BusCtl → BusCtl) : SensorWork s (s.onBus .twoWire f) := onMou ⟨fun _ => rfl, rfl, rfl, id, id, id⟩

theorem onBus (b : Bus) (f : BusCtl → BusCtl) (hf : ∀ c : BusCtl, c.Sound → (f c).Sound) : SensorWork s (s.onBus b f) := by
  cases b with
  | serial4 => exact onMou ⟨fun _ => rfl, rfl, rfl, id, id, fun h => hf _ h⟩
  | twoWire => exact onTwoWire f

theorem foldl {α : Type} {f : State → α → State} (h : ∀ s a, SensorWork s (f s a)) (xs : List α) (s : State) :
    SensorWork s (xs.foldl f s) := by
  induction xs generalizing s with
  | nil => exact .refl
  | cons x xs ih => exact (h s x).trans (ih _)

end SensorWork

/-! ### The buses (6.1 to 6.3, 6.6, 6.7) -/

variable (s : State)

theorem State.startRecovery_work (c : Cause) (r : Bool) : SensorWork s (s.startRecovery c r) := .onTwoWire _

theorem State.sampled_work : SensorWork s s.sampled := .onMou ⟨fun _ => rfl, rfl, rfl, id, id, id⟩

theorem State.relayPhase_work (ph : RelayPhase) : SensorWork s (s.relayPhase ph) := .onMou ⟨fun _ => rfl, rfl, rfl, id, id, id⟩

theorem State.beginTransfer_work (b : Bus) (ph : RelayPhase) : SensorWork s (s.beginTransfer b ph) := by
  have h := s.relayPhase_work ph
  cases b <;> simp only [State.beginTransfer]
  · exact h
  · split
    · exact (h.trans (State.sampled_work _)).trans (State.startRecovery_work _ _ _)
    · exact h.trans (State.sampled_work _)

theorem State.startRelay_work (r : Relay) : SensorWork s (s.startRelay r) :=
  (State.beginTransfer_work _ _ _).after (.onBus _ _ fun _ ⟨_, h⟩ => ⟨.inr rfl, h⟩)

theorem State.startPoll_work (b : Bus) (q : Queued) (rest : List Queued) : SensorWork s (s.startPoll b q rest) := by
  have h : SensorWork s ((s.onBus b fun c => { c with queue := rest }).onPoll q.entry fun p =>
    { p with late := satAdd p.late (bit q.late) }) :=
    (SensorWork.onPoll q.entry (fun p => { p with late := satAdd p.late (bit q.late) }) fun _ => rfl).after
      (.onBus _ _ fun _ h => h)
  cases b <;> simp only [State.startPoll]
  · exact h.trans (.onBus _ _ fun _ ⟨_, h⟩ => ⟨.inr rfl, h⟩)
  · split
    · exact (State.startRecovery_work _ _ _).after ((SensorWork.onPoll _ (fun p => { p with errors := satInc p.errors })
        fun _ => rfl).after (h.trans (State.sampled_work _)))
    · exact (h.trans (State.sampled_work _)).trans (.onTwoWire _)

theorem State.startHead_work (b : Bus) : SensorWork s (s.startHead b) := by
  unfold State.startHead
  split
  · exact .refl
  · exact s.startPoll_work _ _ _

theorem State.startNext_work (b : Bus) : SensorWork s (s.startNext b) := by
  unfold State.startNext
  split
  · split
    · exact s.startRecovery_work _ _
    · split
      · exact s.startRelay_work _
      · exact s.startHead_work _
  · exact .refl

theorem State.busFree_work (b : Bus) : SensorWork s (s.busFree b) :=
  (State.startNext_work _ _).after (.onBus _ _ fun _ ⟨_, h⟩ => ⟨.inl rfl, h⟩)

theorem State.trigger_work (e : Fin 8) (t : Time) : SensorWork s (s.trigger e t) := by
  simp only [State.trigger]
  split
  · exact .refl
  · split
    · exact .onPoll _ _ fun _ => rfl
    · exact (State.startNext_work _ _).after (.onBus _ _ fun _ h => h)

theorem State.readyEntry_work (i : Fin 6) (e : Fin 8) : SensorWork s (s.readyEntry i e) := by
  simp only [State.readyEntry]
  split
  · split
    · exact (State.trigger_work _ _ _).after (.onPoll _ _ fun _ => rfl)
    · exact .onPoll _ _ fun _ => rfl
  · exact .refl

theorem State.handEdges_work (old new : BitVec 6) : SensorWork s (s.handEdges old new) := by
  refine SensorWork.foldl (fun s i => ?_) _ s
  split
  · exact SensorWork.foldl (fun s e => s.readyEntry_work i e) _ s
  · exact .refl

theorem State.unqueue_work (e : Fin 8) : SensorWork s (s.unqueue e) := by
  simp only [State.unqueue]
  exact (SensorWork.onTwoWire _).after (.onBus _ _ fun _ h => h)

theorem State.relayHandOver_work (r : Relay) : SensorWork s (s.relayHandOver r) := by
  have h : SensorWork s (s.onMou fun m => { m with relay := some r }) := .onMou ⟨fun _ => rfl, rfl, rfl, id, id, id⟩
  exact (State.startNext_work _ _).after (h.trans (.onBus _ _ fun _ h => h))

theorem State.relayAbort_work : SensorWork s s.relayAbort := by
  have h : SensorWork s (s.onMou fun m => { m with relay := none }) := .onMou ⟨fun _ => rfl, rfl, rfl, id, id, id⟩
  unfold State.relayAbort
  split
  · exact .refl
  · rename_i r _
    obtain ⟨b, d, w, n, wa, ph, we⟩ := r
    cases b <;> dsimp only <;> split
    · exact h
    · exact h.trans (State.busFree_work _ _)
    · exact (State.startNext_work _ _).after (h.trans (.onTwoWire _))
    · exact h.trans (State.startRecovery_work _ _ _)

theorem State.busRecover_work (b : Bus) : SensorWork s (s.busRecover b) := by
  cases b <;> simp only [State.busRecover]
  · exact .refl
  · split
    · exact s.startRecovery_work _ _
    · exact .onTwoWire _
    · exact .refl
    · exact s.startRecovery_work _ _

/-! ### Relay replies, records and batches -/

/-- A relay's reply stands in the place that its slot reserved (R53). -/
theorem State.slotReply_work (st : Status) (bs : List Byte) : SensorWork s (s.slotReply st bs) := by
  refine ⟨(s.slotReply_within st bs).mono (by decide), ?_, ?_, ?_, ?_, ?_⟩ <;> unfold State.slotReply <;>
    cases hs : s.mrs.slot with
    | none => first | exact .refl | exact le_rfl | exact id | rfl
    | some k => first | exact .refl | exact id | rfl | simp [State.replyLoad, hs, bit]

theorem State.relayDone_work (st : Status) (bs : List Byte) : SensorWork s (s.relayDone st bs) :=
  (State.slotReply_work _ _ _).after (.onMou ⟨fun _ => rfl, rfl, rfl, id, id, id⟩)

theorem length_markGap (xs : List SensorRec) : (markGap xs).length = xs.length := by cases xs <;> rfl

theorem State.fifoDrop_work : SensorWork s s.fifoDrop := by
  unfold State.fifoDrop
  split
  · exact .refl
  · rename_i r rest hf
    split
    · exact .refl
    · refine (SensorWork.raise _ _).after (.onMou ⟨fun _ => rfl, rfl, rfl, fun h => ?_, id, id⟩)
      rw [hf, List.length_cons] at h
      exact (length_markGap rest).trans_le (by omega)

/-- A FIFO that has made room holds fewer records than its capacity (R113). -/
theorem State.fifoDrop_room (h : s.mou.fifo.length ≤ fifoCapacity) : s.fifoDrop.mou.fifo.length < fifoCapacity := by
  unfold State.fifoDrop
  split
  · rename_i hf
    rw [hf]
    decide
  · rename_i r rest hf
    split
    · exact ‹_›
    · rw [hf, List.length_cons] at h
      exact (length_markGap rest).trans_lt (by omega)

theorem State.buildBatch_work (h : s.ltx.motion.length < motionCapacity) : SensorWork s s.buildBatch := by
  refine ⟨s.buildBatch_within.mono (by decide), ⟨fun _ => rfl, rfl, rfl, fun h => ?_, id, id⟩, le_rfl, fun _ => ?_, rfl, id⟩
  · exact (List.length_drop.trans_le (Nat.sub_le _ _)).trans h
  · simpa [State.buildBatch] using h

theorem buildBatches_work (n : Nat) : SensorWork s (buildBatches n s) := by
  induction n generalizing s with
  | zero => exact .refl
  | succ n ih =>
    unfold buildBatches
    split
    · rename_i h
      exact (s.buildBatch_work h.2.1).trans (ih _)
    · exact .refl

theorem State.judgeBatch_work : SensorWork s s.judgeBatch := buildBatches_work s _

theorem State.fifoJoin_work (r : SensorRec) : SensorWork s (s.fifoJoin r) := by
  refine SensorWork.trans (t := s.fifoDrop.onMou fun m => { m with fifo := m.fifo ++ [r], records := satInc m.records }) ?_
    (State.judgeBatch_work _)
  have h := s.fifoDrop_work
  refine ⟨h.within.andThen (State.onMou_within _ _) (by decide),
    ⟨h.mou.cfg, h.mou.sensorPower, h.mou.sensorClass, fun hf => ?_, h.mou.history, h.mou.serial⟩, h.replies, h.motion, h.voice,
    h.notices⟩
  show (s.fifoDrop.mou.fifo ++ [r]).length ≤ fifoCapacity
  rw [List.length_append]
  exact s.fifoDrop_room hf

theorem Mou.gyro_working (m : Mou) (t : Time) (big : Bool) (bs : List Byte) : Mou.Working m (m.gyro t big bs) := by
  unfold Mou.gyro
  dsimp only
  split
  · refine ⟨fun _ => rfl, rfl, rfl, id, fun h => ?_, id⟩
    show (pushHistory m.history _).length ≤ historyCapacity
    unfold pushHistory
    split
    · rw [List.length_append]
      exact ‹_›
    · rw [List.length_append, List.length_drop, List.length_singleton]
      replace h : m.history.length ≤ 64 := h
      show m.history.length - 1 + 1 ≤ 64
      omega
  · exact ⟨fun _ => rfl, rfl, rfl, id, id, id⟩

theorem State.pollGood_work (w : PollWork) (bs : List Byte) : SensorWork s (s.pollGood w bs) := by
  have h : SensorWork s (s.onPoll w.q.entry fun p => { p with samples := satInc p.samples }) := .onPoll _ _ fun _ => rfl
  have hg : ∀ (u : State) t big bs, SensorWork u (u.onMou fun m => m.gyro t big bs) := fun u t big bs =>
    .onMou (u.mou.gyro_working t big bs)
  simp only [State.pollGood]
  split <;> split
  · exact (h.trans (hg _ _ _ _)).trans (State.fifoJoin_work _ _)
  · exact h.trans (State.fifoJoin_work _ _)
  · exact h.trans (hg _ _ _ _)
  · exact h

theorem State.pollRefused_work (w : PollWork) (n : Nat) : SensorWork s (s.pollRefused w n) :=
  (SensorWork.raise _ _).after (.onPoll _ _ fun _ => rfl)

theorem State.relayToRead_work (r : Relay) : SensorWork s (s.relayToRead r) := by
  unfold State.relayToRead
  split
  · exact s.beginTransfer_work _ _
  · exact (s.relayDone_work _ _).trans (State.busFree_work _ _)

theorem State.relayWriteEnds_work (r : Relay) : SensorWork s (s.relayWriteEnds r) := by
  unfold State.relayWriteEnds
  split
  · exact .onMou ⟨fun _ => rfl, rfl, rfl, id, id, id⟩
  · exact s.relayToRead_work r

theorem State.recoveryFails_work (r : Recovery) (n : Nat) : SensorWork s (s.recoveryFails r n) := by
  have h : SensorWork s (((s.onBus .twoWire fun c =>
      { c with state := .fault, queue := [], recovery := none, retryAt := some (s.osc + retryTicks) }).onMou fun m =>
        { m with recoveryFailures := satInc m.recoveryFailures }).raise .busFault (leBytes 1 r.cause.code ++ leBytes 1 n)) :=
    (SensorWork.raise _ _).after ((SensorWork.onMou (f := fun m => { m with recoveryFailures := satInc m.recoveryFailures })
      ⟨fun _ => rfl, rfl, rfl, id, id, id⟩).after (.onTwoWire _))
  simp only [State.recoveryFails]
  split
  · exact h.trans (State.relayDone_work _ _ _)
  · exact h

theorem State.recoverySucceeds_work (r : Recovery) (n : Nat) : SensorWork s (s.recoverySucceeds r n) := by
  have h : ∀ st, SensorWork s (((s.onBus .twoWire fun c => { c with state := st, recovery := none }).onMou fun m =>
      { m with recoveries := satInc m.recoveries }).raise .busRecovered (leBytes 1 r.cause.code ++ leBytes 1 n)) := fun st =>
    (SensorWork.raise _ _).after ((SensorWork.onMou (f := fun m => { m with recoveries := satInc m.recoveries })
      ⟨fun _ => rfl, rfl, rfl, id, id, id⟩).after (.onTwoWire _))
  simp only [State.recoverySucceeds]
  split
  · exact h _
  · exact (h _).trans (State.startNext_work _ _)

theorem State.pollCompletes_work (b : Bus) (w : PollWork) (o : PollOutcome) : SensorWork s (s.pollCompletes b w o) := by
  cases o <;> simp only [State.pollCompletes] <;> split
  · exact (s.pollGood_work _ _).trans (State.busFree_work _ _)
  · exact .refl
  · exact (s.pollRefused_work _ _).trans (State.busFree_work _ _)
  · exact .refl
  · exact (s.pollRefused_work _ _).trans (State.busFree_work _ _)
  · exact .refl

theorem State.clockHold_work : SensorWork s s.clockHold := by
  unfold State.clockHold
  split
  · exact (State.startRecovery_work _ _ _).after (.onPoll _ _ fun _ => rfl)
  · split
    · exact (s.relayDone_work _ _).trans (State.startRecovery_work _ _ _)
    · exact .refl

theorem State.relayCompletes_work (r : Relay) (o : RelayOutcome) : SensorWork s (s.relayCompletes r o) := by
  cases o <;> simp only [State.relayCompletes] <;> split
  · exact (s.relayDone_work _ _).trans (State.busFree_work _ _)
  · exact .refl
  · exact (s.relayDone_work _ _).trans (State.busFree_work _ _)
  · exact .refl

theorem State.moveQueued_work (e : Fin 8) (b : Bus) : SensorWork s (s.moveQueued e b) := by
  unfold State.moveQueued
  split
  · exact .refl
  · dsimp only
    split
    · exact s.unqueue_work e
    · exact (State.startNext_work _ _).after ((s.unqueue_work e).trans (.onBus _ _ fun _ h => h))

end Sys2Proof.Machine
end

section
/-! The acts of a step composed from their parts, once for every predicate: a predicate that each part keeps is kept by the arrival
of a cell, by the loader and by every other act, and so by every step. -/

namespace Sys2Proof.Machine

open Sys2Proof

/-- The blocks that the invariants of the queues, the panels and the power manager do not look at. -/
abbrev asideParts : List Part := [.clock, .lrx, .stu, .cfl, .lsu]

/-- The predicate is kept by each part of an act. -/
structure KeptByActs (P : State → Prop) : Prop where
  aside : ∀ s t, Within asideParts s t → P s → P t
  work : ∀ s t, SensorWork s t → P s → P t
  raise : ∀ s k d, P s → P (s.raise k d)
  timer : ∀ s f, (f s.ftm).scanFrame = s.ftm.scanFrame → P s → P (s.onFtm f)
  contexts : ∀ s c, P s → P (s.onPxp fun x => { x with contexts := c })
  rebase : ∀ s d, P s → P (s.rebase d)
  pictureCell : ∀ s c, P s → P (s.pictureCell c)
  lineOut : ∀ s p, s.lineDue p = true → P s → P (s.lineOut p)
  beginStrobe : ∀ s p, s.strobeStartDue p = true → P s → P (s.beginStrobe p)
  endStrobe : ∀ s p, s.strobeEndDue p = true → P s → P (s.endStrobe p)
  frameStart : ∀ s, P s → P s.frameStart
  audioCell : ∀ s n l bs g, P s → P (s.audioCell n l bs g).refreshLoads
  request : ∀ s op table r, P s → P (s.request op table r)
  store : ∀ s t es, P s → P (s.store t es)
  loadEnd : ∀ s, P s → P s.loadEndPower
  measure : ∀ s mv ma, P s → P (s.measure mv ma)
  period : ∀ s, P s → P s.period
  output : ∀ s, P s → P (s.onAuu fun a => a.output s.pte.tone)
  idleTimer : ∀ s, P s → P (s.onAuu fun a => { a.halt with idleStops := satInc a.idleStops }).refreshLoads
  micSample : ∀ s x, P s → P (s.micSample x)
  stepEnd : ∀ s c p, s.pte.chan c = some p → P s → P (s.patternStep c p).refreshLoads
  rise : ∀ s c p, s.pte.chan c = some p → P s → P (s.onPte fun x => x.setChan c (some p.rise))
  reverse : ∀ s c p, s.pte.chan c = some p → P s → P (s.onPte fun x =>
    if c = .h then (x.setChan c (some p.reverse)).reversal s.osc else x.setChan c (some p.reverse))
  carrier : ∀ s, P s → P (s.onPte fun x => x.carrier s.osc)
  deadTimeEnd : ∀ s, P s → P (s.onPte fun x => ({ x with deadEnd := none } : Pte).drive s.osc)
  onTimeEnd : ∀ s, P s → P (s.onPte fun x => { x with hp := false, hn := false })
  pick : ∀ s, P s → P s.pick
  restart : ∀ s, P s → P s.restart
  reset : ∀ (s : State) h, P (s.resetAll h)

namespace KeptByActs

variable {P : State → Prop} (k : KeptByActs P) {s : State} (h : P s)
include k h

theorem handEdges (old new : BitVec 6) : P (s.handEdges old new) := k.work _ _ (s.handEdges_work old new) h

theorem onLrx (f : Lrx → Lrx) : P (s.onLrx f) := k.aside _ _ ((s.onLrx_within f).mono (by decide)) h

theorem onStu (f : Stu → Stu) : P (s.onStu f) := k.aside _ _ ((s.onStu_within f).mono (by decide)) h

theorem onCfl (f : Cfl → Cfl) : P (s.onCfl f) := k.aside _ _ ((s.onCfl_within f).mono (by decide)) h

theorem onStream (n : Fin 32) (f : StreamEntry → StreamEntry) : P (s.onStream n f) :=
  k.aside _ _ ((s.onStream_within n f).mono (by decide)) h

theorem trackCell (c : RxCell) : P (s.trackCell c) := k.onStream h _ _

omit h in
theorem edged {f : State → State} (h : P (f s)) : P (s.edged f) := k.handEdges h _ _

/-! ### The link receiver -/

theorem judgeHeader (b0 b1 b2 b3 : Byte) : P (s.judgeHeader b0 b1 b2 b3) := by
  have lost : ∀ u : State, P u → P u.lockLost := fun u hu =>
    k.raise _ _ _ (k.contexts _ (Vector.replicate 4 none) (k.onStu (k.onLrx hu _) _))
  have good : P (s.goodHeader b0 b1 b2) := by
    unfold State.goodHeader
    split
    · exact k.onLrx h _
    · split
      · exact k.raise _ _ _ (k.onLrx h _)
      · exact k.onLrx h _
    · exact k.onLrx h _
  have bad : P s.badHeader := by
    unfold State.badHeader
    split
    · exact k.onLrx h _
    · exact k.onLrx h _
    · split
      · exact lost _ (k.onLrx h _)
      · exact k.onLrx h _
  unfold State.judgeHeader
  split
  · exact good
  · exact bad

theorem passWindow (good : Bool) : P (s.passWindow good) := by
  have lose : ∀ u : State, P u → P u.losePass := fun u hu => k.raise _ _ _ (k.onLrx hu _)
  have check : ∀ u : State, P u → P (u.errorCheck good) := by
    intro u hu
    unfold State.errorCheck
    split
    · exact lose u hu
    · exact hu
  have judge : ∀ u : State, P u → P u.judgeWindow := by
    intro u hu
    unfold State.judgeWindow
    split
    · split
      · exact hu
      · exact k.raise _ _ _ (k.onLrx hu _)
    · split
      · exact lose u hu
      · exact hu
  have h1 := check _ (k.onLrx h fun l => l.countCell good)
  unfold State.passWindow State.windowEnd
  split
  · exact k.onLrx (judge _ h1) _
  · exact h1

theorem timeUpdate (ref : Time) : P (s.timeUpdate ref) := by
  unfold State.timeUpdate
  split
  · exact k.rebase _ _ (k.raise _ _ _ (k.onLrx h _))
  · exact k.rebase _ _ (k.raise _ _ _ (k.onLrx h _))
  · exact k.onLrx h _
  · exact k.onLrx h _
  · rename_i d _
    have h1 : P ((s.onLrx fun l => { l with faults := l.faults + 1 }).raise .timeFault (leBytesInt 4 d)) :=
      k.raise _ _ _ (k.onLrx h _)
    unfold State.timeFault
    dsimp only
    split
    · exact k.raise _ _ _ (k.onLrx h1 _)
    · exact h1

/-! ### The frame timer -/

theorem evaluate : P s.evaluate := by
  unfold State.evaluate
  split
  · exact h
  · rename_i r _
    split
    · have h1 : P ((s.onLsu fun l => l.afterEval (evalRecord r s.now s.mou.history s.lsu.written)).onFtm fun t =>
          { t with upcoming := some (evalRecord r s.now s.mou.history s.lsu.written) }) :=
        k.timer _ _ rfl (k.aside _ _ ((s.onLsu_within _).mono (by decide)) h)
      dsimp only
      split <;> split
      · exact k.raise _ _ _ (k.raise _ _ _ h1)
      · exact k.raise _ _ _ h1
      · exact k.raise _ _ _ h1
      · exact h1
    · exact h

theorem evaluateIfDue : P s.evaluateIfDue := by
  unfold State.evaluateIfDue
  split
  · exact k.evaluate h
  · exact h

theorem judgeLock (e : Int) : P (s.judgeLock e) := by
  have locks : ∀ u : State, P u → P (u.displayLocks e) := fun u hu => k.raise _ _ _ (k.timer _ _ rfl hu)
  simp only [State.judgeLock]
  split
  · exact k.timer _ _ rfl h
  · exact k.timer _ _ rfl h
  · split
    · exact locks _ (k.timer _ _ rfl h)
    · exact k.timer _ _ rfl h
  · exact k.timer _ _ rfl h
  · exact k.timer _ _ rfl h
  · split
    · exact k.raise _ _ _ (k.timer _ _ rfl (k.timer _ (fun t => { t with outCount := t.outCount + 1 }) rfl h))
    · exact k.timer _ _ rfl h
  · exact locks _ h
  · exact k.timer _ _ rfl h

theorem target (n : FrameNo) (x : Time) : P (s.target n x) := by
  unfold State.target
  split
  · exact h
  · exact k.evaluateIfDue (k.timer _ _ rfl h)
  · split
    · exact k.timer _ _ rfl h
    · exact h
  · split
    · exact h
    · split
      · exact k.timer _ _ rfl h
      · refine k.evaluateIfDue (k.judgeLock (k.timer _ _ ?_ h) _)
        simp only [Ftm.useTarget]
        split <;> rfl

theorem startPulse (g : Side) : P (s.startPulse g) := k.timer _ (fun x => { x with gens := x.gens.modify g _ }) rfl h

theorem endPulse (g : Side) : P (s.endPulse g) := by
  have gen : ∀ (u : State) g f, P u → P (u.onGen g f) := fun u g f hu =>
    k.timer _ (fun x => { x with gens := x.gens.modify g f }) rfl hu
  unfold State.endPulse
  split
  · exact gen _ _ _ (gen _ _ _ h)
  · exact gen _ _ _ h

theorem takeDue : P s.takeDue := by
  have take : ∀ {u : State} {due : State → Bool} {f : State → State}, (due u = true → P u → P (f u)) → P u →
      P (u.takeIf due f) := by
    intro u due f hf hu
    unfold State.takeIf
    split
    · exact k.edged (hf ‹_› hu)
    · exact hu
  unfold State.takeDue
  refine k.evaluateIfDue (take (fun _ => k.frameStart _) ?_)
  refine take (k.endStrobe _ _) (take (k.beginStrobe _ _) (take (k.endStrobe _ _) (take (k.beginStrobe _ _) ?_)))
  exact take (fun _ hu => k.endPulse hu _) (take (fun _ hu => k.startPulse hu _)
    (take (fun _ hu => k.endPulse hu _) (take (fun _ hu => k.startPulse hu _) h)))

/-! ### A cell's arrival -/

theorem syncCell (c : RxCell) (bytes : List Byte) : P (s.syncCell c bytes) := by
  have target : ∀ (u : State) x f, P u → P (u.syncTarget x f) := by
    intro u x f hu
    unfold State.syncTarget
    split
    · exact hu
    · split
      · exact k.onLrx hu _
      · exact k.edged (f := fun s => s.target x.frame x.start) (k.target hu _ _)
  have update : ∀ ref, P (s.edged fun s => s.timeUpdate ref) := fun ref =>
    k.edged (f := fun s => s.timeUpdate ref) (k.timeUpdate h ref)
  unfold State.syncCell
  split
  · unfold State.sync
    dsimp only
    refine target _ _ _ ?_
    split
    · exact update _
    · exact k.takeDue (update _)
  · exact k.onLrx h _

theorem steering (c : RxCell) (bytes : List Byte) : P (s.steering c bytes) := by
  have h1 : P (s.trackCell c) := k.trackCell h c
  unfold State.steering
  dsimp only
  split
  · exact k.onStream h1 _ _
  · split
    · exact k.onStream h1 _ _
    · rename_i d _
      cases d with
      | discard => exact h1
      | panelA => exact k.pictureCell _ _ h1
      | panelB => exact k.pictureCell _ _ h1
      | panelBoth => exact k.pictureCell _ _ h1
      | audio => exact k.audioCell _ _ _ _ _ h1
      | sideband => exact k.onStu h1 fun u => u.sidebandCell bytes

theorem deliver (c : RxCell) (bytes : List Byte) : P (s.deliver c bytes) := by
  unfold State.deliver
  split
  · unfold State.streamZero
    split
    · exact h
    · exact k.trackCell (k.onStream h _ _) _
    · exact k.trackCell (k.edged (f := fun s => s.request _ _ _) (k.request _ _ _ _ h)) _
    · exact k.trackCell (k.syncCell h _ _) _
    · exact k.trackCell (k.onLrx h _) _
  · exact k.edged (k.steering h _ _)

theorem badPayload (c : RxCell) (bytes : List Byte) : P (s.badPayload c bytes) := k.aside _ _ ((s.badPayload_within c bytes).mono (by decide)) h

theorem arrive (c : RxCell) (pl : List Byte) (p0 p1 : Byte) : P (s.arrive c pl p0 p1) := by
  have h1 : P ((s.onLrx fun l => { l with cell := none }).onStu fun u => { u with inForce := u.written }) :=
    k.onStu (k.onLrx h _) _
  unfold State.arrive
  dsimp only
  split
  · unfold State.lockedArrival
    dsimp only
    split
    · exact k.deliver (k.edged (f := fun s => s.passWindow _) (k.passWindow h1 _)) _ _
    · exact k.badPayload (k.edged (f := fun s => s.passWindow _) (k.passWindow h1 _)) _ _
  · exact k.onLrx h1 _

/-! ### The loader -/

theorem endLoading (st : ImageState) : P (s.endLoading st) := by
  refine k.timer _ (fun t => t.leaveIdle s.now) ?_ (k.loadEnd _ (k.raise _ _ _ (k.onCfl h fun c => { c with state := st, pass := 0 })))
  unfold Ftm.leaveIdle
  split <;> rfl

theorem imageHeader (w0 w1 : Word) : P (s.imageHeader w0 w1) := by
  have h1 : P (s.onCfl fun c => c.takeHeader w0 w1) := k.onCfl h _
  simp only [State.imageHeader]
  split
  · exact k.endLoading h1 _
  · split
    · exact k.endLoading h1 _
    · exact h1

theorem imageBody (body : List Word) : P (s.imageBody body) := by
  unfold State.imageBody
  split
  · exact k.onCfl h _
  · exact k.endLoading (k.onCfl h _) _

theorem imageRecord (w : Word) (data : List Word) : P (s.imageRecord w data) := by
  have take : ∀ (u : State) t hd pos, P u → P (u.takeRecord t hd pos data) := by
    intro u t hd pos hu
    unfold State.takeRecord
    split
    · exact k.onCfl hu _
    · split
      · exact k.onCfl hu _
      · exact k.onCfl (k.store _ _ _ hu) _
  have after : ∀ u : State, P u → P u.afterRecord := by
    intro u hu
    unfold State.afterRecord
    split
    · exact k.endLoading hu _
    · exact hu
  unfold State.imageRecord
  dsimp only
  split
  · exact k.endLoading (k.onCfl h _) _
  · split
    · exact k.endLoading (k.onCfl h _) _
    · split
      · exact after _ (take _ _ _ _ (k.onCfl h _))
      · exact h

/-! ### Every act -/

theorem pinChange (i : Fin 6) (l : Bool) : P (s.pinChange i l) := by
  unfold State.pinChange
  split
  · exact h
  · dsimp only
    split
    · exact k.raise _ _ _ (k.onStu h _)
    · exact k.onStu h _

theorem act {t : State} (a : Act s t) : P t := by
  cases a with
  | idle => exact h
  | reset r => exact k.reset s r
  | pins i l => exact k.onStu h _
  | header b0 b1 b2 b3 _ => exact k.judgeHeader h _ _ _ _
  | arrival c pl p0 p1 _ => exact k.arrive h _ _ _ _
  | slewEnd _ => exact k.onLrx h _
  | restart => exact k.pick _ (k.restart _ h)
  | pick => exact k.pick _ h
  | request op table r => exact k.request _ _ _ _ h
  | imageHeader w0 w1 _ => exact k.imageHeader h _ _
  | imageBody body _ => exact k.imageBody h _
  | imageRecord w data _ => exact k.imageRecord h _ _
  | frameStart _ => exact k.frameStart _ h
  | evaluation => exact k.evaluate h
  | pulseStart g => exact k.startPulse h g
  | pulseEnd g => exact k.endPulse h g
  | linePulseEnd => exact k.timer _ _ rfl (k.onStu h _)
  | lineOut p hd => exact k.lineOut _ _ hd h
  | strobeStart p hd => exact k.beginStrobe _ _ hd h
  | strobeEnd p hd => exact k.endStrobe _ _ hd h
  | pinChange i l => exact k.pinChange h i l
  | dueMoment e =>
    exact k.work _ _ ((SensorWork.onPoll e (fun p => p.nextMoment s.classFactor) fun _ => rfl).after (s.trigger_work e s.now)) h
  | pollEnd b w o => exact k.work _ _ (s.pollCompletes_work b w o) h
  | clockHold => exact k.work _ _ s.clockHold_work h
  | recovered r n => exact k.work _ _ (s.recoverySucceeds_work r n) h
  | unrecovered r n => exact k.work _ _ (s.recoveryFails_work r n) h
  | retry => exact k.work _ _ (s.startRecovery_work _ _) h
  | relayEnd r o => exact k.work _ _ (s.relayCompletes_work r o) h
  | relayRead r => exact k.work _ _ (s.relayToRead_work r) h
  | relayWritten r => exact k.work _ _ (s.relayWriteEnds_work r) h
  | relayTimeout => exact k.work _ _ ((s.slotReply_work _ _).trans (State.relayAbort_work _)) h
  | flush => exact k.work _ _ s.judgeBatch_work h
  | period => exact k.period _ h
  | output => exact k.output _ h
  | idleTimer => exact k.idleTimer _ h
  | micSample x => exact k.micSample _ _ h
  | stepEnd c p hc => exact k.stepEnd _ _ _ hc h
  | rise c p hc => exact k.rise _ _ _ hc h
  | reverse c p hc => exact k.reverse _ _ _ hc h
  | carrier => exact k.carrier _ h
  | deadTimeEnd => exact k.deadTimeEnd _ h
  | onTimeEnd => exact k.onTimeEnd _ h
  | measure mv ma => exact k.measure _ _ _ (k.aside _ _ ((s.onClock_within _).mono (by decide)) h)

/-- A predicate that the acts keep is kept by every step, if it does not look at the queue of commands. -/
theorem step {t : State} (hq : ∀ (s : State) q, P s → P { s with pending := q }) (hs : Machine.step s = .next t) : P t := by
  have advance : ∀ u : State, P u → P u.advance := by
    intro u hu
    refine k.aside u u.advance ?_ hu
    unfold State.advance
    dsimp only
    split <;> constructor <;> simp
  exact step_keeps hq advance (fun _ _ hu a => k.act hu a) (fun _ _ _ hu => k.handEdges hu _ _) h hs

end KeptByActs

end Sys2Proof.Machine
end

section
/-! Queues and buffers within their capacities, notices in order, audio and SERIAL4 in their ranges: what every act keeps
(R102, R116, R139, R145, R147, R168, R188). -/

namespace Sys2Proof.Machine

open Sys2Proof

/-! ### The audio unit -/

/-- The servo offset, the gain and the cap are in their ranges (R145, R147). -/
def Auu.InRange (a : Auu) : Prop :=
  -16 ≤ a.servoF ∧ a.servoF ≤ 16 ∧ -16 ≤ a.periodF ∧ a.periodF ≤ 16 ∧ a.gain ≤ 32768 ∧ a.cap ≤ 32768

/-- What the work of the audio unit keeps of the audio unit itself. -/
structure Auu.Working (a b : Auu) : Prop where
  cap : b.cap = a.cap
  ampPower : b.ampPower = a.ampPower
  buffer : a.buffer.length ≤ bufferCapacity → b.buffer.length ≤ bufferCapacity
  range : a.InRange → b.InRange

theorem Auu.Working.refl {a : Auu} : Auu.Working a a := ⟨rfl, rfl, id, id⟩

theorem Auu.Working.trans {a b c : Auu} (h : Auu.Working a b) (k : Auu.Working b c) : Auu.Working a c :=
  ⟨k.cap.trans h.cap, k.ampPower.trans h.ampPower, k.buffer ∘ h.buffer, k.range ∘ h.range⟩

/-- The work of the audio unit, with the events it raises. -/
structure AudioWork (s t : State) : Prop where
  within : Within [.auu, .evu] s t
  auu : Auu.Working s.auu t.auu
  notices : s.evu.Sound → t.evu.Sound

namespace AudioWork

variable {s t u : State}

theorem refl : AudioWork s s := ⟨.refl, .refl, id⟩

theorem trans (h : AudioWork s t) (k : AudioWork t u) : AudioWork s u :=
  ⟨h.within.trans k.within, h.auu.trans k.auu, k.notices ∘ h.notices⟩

/-- The same as `trans`, the later change named first. -/
theorem after (k : AudioWork t u) (h : AudioWork s t) : AudioWork s u := h.trans k

theorem onAuu {f : Auu → Auu} (h : Auu.Working s.auu (f s.auu)) : AudioWork s (s.onAuu f) :=
  ⟨(s.onAuu_within f).mono (by decide), h, id⟩

theorem raise (k : EventKind) (d : List Byte) : AudioWork s (s.raise k d) :=
  ⟨(s.raise_within k d).mono (by decide), .refl, fun h => h.take _ _ _ _⟩

end AudioWork

theorem Auu.judgeFill_working (a : Auu) : Auu.Working a a.judgeFill := by
  unfold Auu.judgeFill
  split
  · exact ⟨rfl, rfl, id, id⟩
  · exact .refl

variable (s : State)

/-- An appended block finds room: the oldest went from a full buffer (R139). -/
theorem State.audioAppend_work (b : Block) : AudioWork s (s.audioAppend b) := by
  unfold State.audioAppend
  split
  · rename_i hl
    refine .onAuu ⟨rfl, rfl, fun _ => ?_, id⟩
    show (s.auu.buffer ++ [b]).length ≤ bufferCapacity
    rw [List.length_append]
    exact hl
  · refine ⟨(((s.onAuu_within _).mono (by decide)).andThen (State.raise_within _ _ _) (by decide)).andThen
      (State.onAuu_within _ _) (by decide), ⟨rfl, rfl, fun h => ?_, id⟩, fun h => h.take _ _ _ _⟩
    show (s.auu.buffer.drop 1 ++ [b]).length ≤ bufferCapacity
    replace h : s.auu.buffer.length ≤ 24 := h
    rw [List.length_append, List.length_drop, List.length_singleton]
    show _ ≤ 24
    omega

theorem State.audioSilence_work (n : Nat) : AudioWork s (State.audioSilence n s) := by
  induction n generalizing s with
  | zero => exact .refl
  | succ n ih => exact (s.audioAppend_work _).trans (ih _)

/-- Counters and the judgement of the fill after a block. -/
theorem AudioWork.judged {s t : State} (h : AudioWork s t) {f : Auu → Auu} (hf : Auu.Working t.auu (f t.auu)) :
    AudioWork s (t.onAuu fun a => (f a).judgeFill) := h.trans (.onAuu (hf.trans (Auu.judgeFill_working _)))

theorem State.audioOwned_work (b : Block) (gap : Option Nat) : AudioWork s (s.audioOwned b gap) := by
  unfold State.audioOwned
  split
  · exact (s.audioAppend_work b).judged (f := fun a => { a with blocks := satInc a.blocks }) ⟨rfl, rfl, id, id⟩
  · rename_i g
    split
    · exact (AudioWork.raise _ _).after (((s.audioSilence_work g).trans (State.audioAppend_work _ b)).judged
        (f := fun a => { a with silenceBlocks := satAdd a.silenceBlocks g, blocks := satInc a.blocks }) ⟨rfl, rfl, id, id⟩)
    · split
      · refine AudioWork.judged ((State.audioAppend_work _ b).after (.onAuu ⟨rfl, rfl, fun _ => Nat.zero_le _, id⟩))
          (f := fun a => { a with gapFlushes := satInc a.gapFlushes, blocks := satInc a.blocks }) ⟨rfl, rfl, id, id⟩
      · exact .onAuu ⟨rfl, rfl, id, id⟩

theorem State.audioFirst_work (sn : Fin 32) (b : Block) : AudioWork s (s.audioFirst sn b) :=
  AudioWork.judged ((State.audioAppend_work _ b).after (.onAuu ⟨rfl, rfl, id, id⟩)) (f := fun a =>
    { a with blocks := satInc a.blocks, state := .filling, idleAt := some (s.osc + idleTicks) }) ⟨rfl, rfl, id, id⟩

theorem State.audioCell_work (sn : Fin 32) (len : Nat) (bytes : List Byte) (gap : Option Nat) :
    AudioWork s (s.audioCell sn len bytes gap) := by
  have h : AudioWork s (if len = 32 then s else s.onAuu fun a => { a with malformedBlocks := satInc a.malformedBlocks }) := by
    split
    · exact .refl
    · exact .onAuu ⟨rfl, rfl, id, id⟩
  simp only [State.audioCell]
  generalize (if len = 32 then s else s.onAuu fun a => { a with malformedBlocks := satInc a.malformedBlocks }) = s1 at h ⊢
  split
  · exact h.trans (State.audioFirst_work _ _ _)
  · split
    · exact (State.audioOwned_work _ _ _).after (h.trans (.onAuu ⟨rfl, rfl, id, id⟩))
    · exact h.trans (.onAuu ⟨rfl, rfl, id, id⟩)

theorem gainStep_le {gain target : Nat} (hg : gain ≤ 32768) (ht : target ≤ 32768) : gainStep gain target ≤ 32768 := by
  unfold gainStep
  split_ifs <;> omega

theorem servoStep_range (f : Int) (fill target : Nat) : -16 ≤ servoStep f fill target ∧ servoStep f fill target ≤ 16 := by
  simp only [servoStep, clampInt]
  omega

theorem Auu.newPeriod_working (a : Auu) : Auu.Working a a.newPeriod := by
  refine ⟨rfl, rfl, id, fun ⟨h1, h2, h3, h4, h5, h6⟩ => ⟨h1, h2, h1, h2, gainStep_le h5 ?_, h6⟩⟩
  exact (Nat.min_le_right _ _).trans h6

theorem State.period_work : AudioWork s s.period := by
  have h : AudioWork s (s.onAuu Auu.newPeriod) := .onAuu s.auu.newPeriod_working
  simp only [State.period]
  split
  · split
    · rename_i b rest hb
      refine h.trans (.onAuu ⟨rfl, rfl, fun h => ?_, fun ⟨_, _, h3, h4, h5, h6⟩ => ?_⟩)
      · rw [hb, List.length_cons] at h
        exact (Nat.le_succ _).trans h
      · obtain ⟨k1, k2⟩ := servoStep_range (s.onAuu Auu.newPeriod).auu.servoF rest.length (s.onAuu Auu.newPeriod).auu.fillTarget
        exact ⟨k1, k2, h3, h4, h5, h6⟩
    · exact (AudioWork.raise _ _).after (h.trans (.onAuu ⟨rfl, rfl, id, id⟩))
  · exact h.trans (.onAuu ⟨rfl, rfl, id, id⟩)

/-! ### The bounds -/

/-- `t` follows `s` with every capacity, order and range still met where it was met before. -/
structure BoundsKept (s t : State) : Prop where
  notices : s.evu.Sound → t.evu.Sound
  fifo : s.mou.fifo.length ≤ fifoCapacity → t.mou.fifo.length ≤ fifoCapacity
  history : s.mou.history.length ≤ historyCapacity → t.mou.history.length ≤ historyCapacity
  serial : s.serialSound → t.serialSound
  motion : s.ltx.motion.length ≤ motionCapacity → t.ltx.motion.length ≤ motionCapacity
  voice : s.ltx.voice.length ≤ voiceCapacity → t.ltx.voice.length ≤ voiceCapacity
  buffer : s.auu.buffer.length ≤ bufferCapacity → t.auu.buffer.length ≤ bufferCapacity
  audio : s.audioInRange → t.audioInRange
  window : s.pmg.window.length ≤ 8 → t.pmg.window.length ≤ 8

/-- The blocks without a capacity or a range of these. -/
abbrev unboundedParts : List Part := [.clock, .lrx, .stu, .mrs, .cfl, .ftm, .pxp, .lsu, .pte]

namespace BoundsKept

variable {s t u : State}

theorem refl : BoundsKept s s := ⟨id, id, id, id, id, id, id, id, id⟩

theorem trans (h : BoundsKept s t) (k : BoundsKept t u) : BoundsKept s u :=
  ⟨k.notices ∘ h.notices, k.fifo ∘ h.fifo, k.history ∘ h.history, k.serial ∘ h.serial, k.motion ∘ h.motion, k.voice ∘ h.voice,
    k.buffer ∘ h.buffer, k.audio ∘ h.audio, k.window ∘ h.window⟩

theorem of_within (w : Within unboundedParts s t) : BoundsKept s t := by
  have h1 := w.ltx.resolve_left (by decide)
  have h2 := w.mou.resolve_left (by decide)
  have h3 := w.auu.resolve_left (by decide)
  have h4 := w.pmg.resolve_left (by decide)
  have h5 := w.evu.resolve_left (by decide)
  constructor <;> simp only [h1, h2, h3, h4, h5, State.serialSound, State.audioInRange] <;> exact id

theorem raise (k : EventKind) (d : List Byte) : BoundsKept s (s.raise k d) :=
  ⟨fun h => h.take _ _ _ _, id, id, id, id, id, id, id, id⟩

theorem of_sensors (w : SensorWork s t) : BoundsKept s t := by
  have h3 := w.within.auu.resolve_left (by decide)
  have h4 := w.within.pmg.resolve_left (by decide)
  refine ⟨w.notices, w.mou.fifo, w.mou.history, w.mou.serial, w.motion, by rw [w.voice]; exact id, ?_, ?_, ?_⟩ <;>
    simp only [h3, h4, State.audioInRange] <;> exact id

theorem of_audio (w : AudioWork s t) : BoundsKept s t := by
  have h1 := w.within.ltx.resolve_left (by decide)
  have h2 := w.within.mou.resolve_left (by decide)
  have h4 := w.within.pmg.resolve_left (by decide)
  refine ⟨w.notices, ?_, ?_, ?_, ?_, ?_, w.auu.buffer, w.auu.range, ?_⟩ <;> simp only [h1, h2, h4, State.serialSound] <;> exact id

theorem onPte (f : Pte → Pte) : BoundsKept s (s.onPte f) := of_within ((s.onPte_within f).mono (by decide))

theorem onPxp (f : Pxp → Pxp) : BoundsKept s (s.onPxp f) := of_within ((s.onPxp_within f).mono (by decide))

theorem onPanel (p : Side) (f : PanelState → PanelState) : BoundsKept s (s.onPanel p f) := onPxp _

theorem onFtm (f : Ftm → Ftm) : BoundsKept s (s.onFtm f) := of_within ((s.onFtm_within f).mono (by decide))

end BoundsKept

/-! ### The picture path and the frame timer -/

theorem State.finishRecord_bounds : BoundsKept s s.finishRecord := by
  unfold State.finishRecord
  split
  · exact .refl
  · exact (BoundsKept.onFtm _).trans (.raise _ _)

theorem State.tryComplete_bounds (p : Side) : BoundsKept s (s.tryComplete p) := by
  have h : BoundsKept s (s.completion p) := by
    simp only [State.completion]
    split
    · split
      · exact .onFtm _
      · exact (BoundsKept.onFtm _).trans (State.finishRecord_bounds _)
    · exact .refl
  unfold State.tryComplete
  split
  · exact h
  · exact .refl

theorem State.closeScan_bounds (p : Side) (F : Option FrameNo) : BoundsKept s (s.closeScan p F) := by
  have h : ∀ u : State, BoundsKept u (u.endScan p) := by
    intro u
    unfold State.endScan
    split
    · exact .refl
    · split
      · exact (BoundsKept.onFtm _).trans (.raise _ _)
      · exact .refl
  exact (BoundsKept.onPanel p _).trans (h _)

theorem State.cutScan_bounds (p : Side) (F : Option FrameNo) : BoundsKept s (s.cutScan p F) :=
  ((BoundsKept.onPanel p _).trans (.onFtm _)).trans (State.closeScan_bounds _ p F)

theorem State.panelOff_bounds (p : Side) : BoundsKept s (s.panelOff p) := by
  have h : ∀ u : State, BoundsKept u ((u.onPanel p fun x =>
      { x with scan := .off, ring := [], lastLine := none, strobe := x.strobe.cleared }).tryComplete p) := fun u =>
    (BoundsKept.onPanel p _).trans (State.tryComplete_bounds _ p)
  simp only [State.panelOff]
  split
  · exact (s.cutScan_bounds p _).trans (h _)
  · exact h s

theorem State.lineOut_bounds (p : Side) : BoundsKept s (s.lineOut p) := by
  have h : ∀ y, BoundsKept s (s.outputLine p y) := fun y => .of_within ((s.outputLine_within p y).mono (by decide))
  simp only [State.lineOut]
  split
  · exact (h _).trans (((State.closeScan_bounds _ p _).trans (BoundsKept.onPanel p _)).trans (State.tryComplete_bounds _ p))
  · exact h _

theorem State.reportRenumber_bounds : BoundsKept s s.reportRenumber := by
  unfold State.reportRenumber
  split
  · split
    · exact .refl
    · exact .raise _ _
  · exact .refl

theorem State.lockBookkeeping_bounds : BoundsKept s s.lockBookkeeping := by
  simp only [State.lockBookkeeping]
  split
  · split
    · exact (BoundsKept.onFtm _).trans (.raise _ _)
    · exact .onFtm _
  · split
    · split
      · exact ((BoundsKept.onFtm _).trans (BoundsKept.onFtm _)).trans (.raise _ _)
      · exact .onFtm _
    · exact .refl

theorem State.cutAtStart_bounds (p : Side) (F : Option FrameNo) : BoundsKept s (s.cutAtStart p F) := by
  unfold State.cutAtStart
  split
  · exact s.cutScan_bounds p F
  · exact .refl

theorem State.evaluate_bounds : BoundsKept s s.evaluate := by
  unfold State.evaluate
  split
  · exact .refl
  · rename_i r _
    split
    · have h : BoundsKept s ((s.onLsu fun l => l.afterEval (evalRecord r s.now s.mou.history s.lsu.written)).onFtm fun t =>
          { t with upcoming := some (evalRecord r s.now s.mou.history s.lsu.written) }) :=
        .of_within (((s.onLsu_within _).mono (by decide)).andThen (State.onFtm_within _ _) (by decide))
      dsimp only
      split <;> split
      · exact (h.trans (.raise _ _)).trans (.raise _ _)
      · exact h.trans (.raise _ _)
      · exact h.trans (.raise _ _)
      · exact h
    · exact .refl

theorem State.lateEvaluate_bounds : BoundsKept s s.lateEvaluate := by
  unfold State.lateEvaluate
  split
  · split
    · exact s.evaluate_bounds.trans (.onFtm _)
    · exact .refl
  · exact .refl

theorem State.namePanels_bounds : BoundsKept s s.namePanels := by
  simp only [State.namePanels]
  split
  · exact .onFtm _
  · exact (BoundsKept.onFtm _).trans (State.finishRecord_bounds _)

theorem State.frameNumbers_bounds : BoundsKept s s.frameNumbers :=
  ((s.reportRenumber_bounds.trans (.onFtm _)).trans (State.lockBookkeeping_bounds _)).trans (.onFtm _)

theorem State.frameRecords_bounds (old : Option FrameNo) : BoundsKept s (s.frameRecords old) :=
  ((((s.cutAtStart_bounds _ _).trans (State.cutAtStart_bounds _ _ _)).trans (State.finishRecord_bounds _)).trans
    (State.lateEvaluate_bounds _)).trans (.onFtm _)

theorem State.picturesStart_bounds (old : Option FrameNo) : BoundsKept s (s.picturesStart old) := by
  have first : ∀ (u : State) p, BoundsKept u (u.firstLine p) := fun u p => .of_within ((u.firstLine_within p).mono (by decide))
  exact (((BoundsKept.of_within ((s.panelsBegin_within old).mono (by decide))).trans (State.namePanels_bounds _)).trans
    (first _ _)).trans (first _ _)

/-- A frame start before the reallocation at its end. -/
def State.framed (s : State) : State :=
  (((s.frameNumbers.frameRecords s.ftm.scanFrame).picturesStart s.ftm.scanFrame).onFtm Ftm.startGens).startPulses

theorem State.frameStart_eq : s.frameStart = s.framed.refreshLoads := rfl

theorem State.framed_bounds : BoundsKept s s.framed :=
  (((s.frameNumbers_bounds.trans (State.frameRecords_bounds _ _)).trans (State.picturesStart_bounds _ _)).trans
    (.onFtm _)).trans (.of_within ((State.startPulses_within _).mono (by decide)))

/-! ### The power manager, stores and requests -/

theorem BoundsKept.keptByPower (s : State) : KeptByPower (BoundsKept s) where
  pmg _ _ hw h := h.trans ⟨id, id, id, id, id, id, id, id, by rw [State.onPmg_pmg, hw]; exact id⟩
  cap _ _ hc h := h.trans ⟨id, id, id, id, id, id, id, fun ⟨h1, h2, h3, h4, h5, _⟩ => ⟨h1, h2, h3, h4, h5, hc⟩, id⟩
  pte _ _ h := h.trans (.onPte _)
  raise _ _ _ h := h.trans (.raise _ _)
  handClass u c h := h.trans (by
    have w := u.handClass_within c
    refine ⟨?_, ?_, ?_, ?_, ?_, ?_, ?_, ?_, ?_⟩ <;>
      simp only [w.evu.resolve_left (by decide), w.ltx.resolve_left (by decide), w.auu.resolve_left (by decide),
        w.pmg.resolve_left (by decide), State.handClass_mou, State.serialSound, State.audioInRange] <;> try exact id
    split <;> exact id)
  panelOff _ p h := h.trans (State.panelOff_bounds _ p)
  panelWake _ p h := h.trans (.onPanel p _)
  holdStrobe _ p h := h.trans ((BoundsKept.onPanel p _).trans (State.tryComplete_bounds _ p))
  releaseStrobe _ p h := h.trans (.onPanel p _)

/-- A poll entry's store, with what becomes of it in a due queue (R105 to R107). -/
theorem State.storePoll_bounds (i : Fin 8) (c : PollCfg) : BoundsKept s (s.storePoll i c) := by
  have h : BoundsKept s (s.onPoll i fun p => p.store c s.osc s.classFactor) := ⟨id, id, id, id, id, id, id, id, id⟩
  simp only [State.storePoll]
  split
  · exact h.trans (.of_sensors (State.unqueue_work _ _))
  · split
    · exact h.trans (.of_sensors (State.moveQueued_work _ _ _))
    · exact h

/-- An AUDIO store leaves the buffer, the servo and the gain alone. -/
theorem Auu.store_kept (a : Auu) (e : EntryValues) : (a.store e).buffer = a.buffer ∧ (a.store e).servoF = a.servoF
    ∧ (a.store e).periodF = a.periodF ∧ (a.store e).gain = a.gain ∧ (a.store e).cap = a.cap := by
  simp only [Auu.store, Auu.judgeFill]
  split <;> exact ⟨rfl, rfl, rfl, rfl, rfl⟩

theorem State.storeEntry_bounds (t : Table) (e : EntryValues) : BoundsKept s (s.storeEntry t e) := by
  cases t
  case poll => exact s.storePoll_bounds _ _
  case audio =>
    obtain ⟨h1, h2, h3, h4, h5⟩ := s.auu.store_kept e
    have ha : (s.storeEntry .audio e).auu = s.auu.store e := rfl
    refine ⟨id, id, id, id, id, id, ?_, ?_, id⟩
    · rw [ha, h1]; exact id
    · simp only [State.audioInRange, ha, h2, h3, h4, h5]; exact id
  case loads =>
    refine ⟨id, id, id, id, id, id, id, id, ?_⟩
    simp only [State.storeEntry, State.onPmg_pmg, Pmg.storeLoad]
    split_ifs <;> exact id
  case power => exact (BoundsKept.keptByPower s).storePower .refl _
  all_goals exact ⟨id, id, id, id, id, id, id, id, id⟩

theorem State.store_bounds (t : Table) (es : List EntryValues) : BoundsKept s (s.store t es) :=
  (BoundsKept.keptByPower s).store .refl t es (fun u e h => h.trans (u.storeEntry_bounds t e)) fun u h =>
    h.trans (.of_sensors u.judgeBatch_work)

theorem State.clearEntries_bounds (t : Table) (n i : Nat) : BoundsKept s (s.clearEntries t n i) := by
  have one : ∀ (u : State) i, BoundsKept u (u.clearEntry t i) := by
    intro u i
    cases t <;> exact ⟨id, id, id, id, id, id, id, id, id⟩
  induction n generalizing s i with
  | zero => exact .refl
  | succ n ih => exact (one s i).trans (ih _ _)

theorem State.patternStep_bounds (c : Channel) (p : Pattern) : BoundsKept s (s.patternStep c p) :=
  (BoundsKept.keptByPower s).patternStep .refl c p

theorem Effect.bounds {s : State} {op : Nat} {t : State} (e : Effect op s t) : BoundsKept s t := by
  have hp := BoundsKept.keptByPower s
  cases e with
  | none => exact .refl
  | store t es _ => exact s.store_bounds t es
  | clear t n i => exact s.clearEntries_bounds t n i
  | restart => exact .of_within ((s.onMrs_within _).mono (by decide))
  | busRecover b => exact .of_sensors (s.busRecover_work b)
  | fifoFlush => exact ⟨id, fun _ => Nat.zero_le _, id, id, id, id, id, id, id⟩
  | audioRestart => exact hp.refreshLoads (.of_audio (.onAuu ⟨rfl, rfl, fun _ => Nat.zero_le _,
      fun ⟨_, _, h⟩ => ⟨(by decide : (-16 : Int) ≤ 0), (by decide : (0 : Int) ≤ 16), h⟩⟩))
  | play c n p b => exact hp.startPlay .refl _ _ _ _
  | stop c => exact hp.refreshLoads (hp.endPattern .refl _ _)
  | testStart => exact .of_within ((s.onLrx_within _).mono (by decide))
  | testStop => exact .of_within ((s.onLrx_within _).mono (by decide))

theorem State.request_bounds (op : Nat) (table : Byte) (r : Request) : BoundsKept s (s.request op table r) :=
  State.request_keeps (P := BoundsKept s) (fun u f h => h.trans (.of_within ((u.onMrs_within f).mono (by decide))))
    (fun _ _ h => h.trans ⟨id, id, id, id, id, id, id, id, id⟩) (fun _ _ _ h => h.trans (.raise _ _))
    (fun _ _ h e => h.trans e.bounds) (fun u r h => h.trans (.of_sensors (u.relayHandOver_work r))) .refl table r

/-! ### Every act -/

theorem State.rebase_bounds (d : Int) : BoundsKept s (s.rebase d) := by
  refine ⟨id, id, ?_, id, id, id, id, id, id⟩
  show _ → (s.mou.history.map _).length ≤ historyCapacity
  rw [List.length_map]
  exact id

/-- A microphone block finds room in the VOICE queue: the oldest went from a full one (R21). -/
theorem State.micSample_bounds (x : Sample) : BoundsKept s (s.micSample x) := by
  simp only [State.micSample]
  split
  · exact .of_audio (.onAuu ⟨rfl, rfl, id, id⟩)
  · refine BoundsKept.trans (t := s.onAuu fun a => { a with micDue := false, mic := none, micBlocks := satInc a.micBlocks })
      (.of_audio (.onAuu ⟨rfl, rfl, id, id⟩)) ⟨id, id, id, id, ?_, ?_, id, id, id⟩ <;> simp only [State.onLtx_ltx, Ltx.enqueueVoice] <;> split
    · exact id
    · exact id
    · rename_i hl
      intro
      rw [List.length_append]
      exact hl
    · intro h
      replace h : s.ltx.voice.length ≤ 8 := h
      show (s.ltx.voice.drop 1 ++ [_]).length ≤ 8
      rw [List.length_append, List.length_drop, List.length_singleton]
      omega

theorem Evu.Sound.tail {e : Evu} {n : Notice} {rest : List Notice} (h : e.Sound) (hq : e.queue = n :: rest) :
    ({ e with queue := rest } : Evu).Sound := by
  obtain ⟨hl, hp⟩ := h
  rw [hq] at hl hp
  exact ⟨(Nat.le_succ _).trans hl, (List.pairwise_cons.mp hp).2⟩

theorem State.pickQueued_bounds : BoundsKept s s.pickQueued := by
  have h1 : BoundsKept s (s.onLtx fun t => { t with fairness := s.fairnessAfter }) := ⟨id, id, id, id, id, id, id, id, id⟩
  unfold State.pickQueued
  dsimp only
  refine h1.trans ?_
  generalize (s.onLtx fun t => { t with fairness := s.fairnessAfter }) = u
  split
  · refine ⟨id, id, id, id, ?_, ?_, id, id, id⟩ <;> simp only [State.onLtx_ltx, Ltx.sendReply] <;> split <;> exact id
  · unfold State.sendNotice
    split
    · exact .refl
    · exact ⟨fun h => h.tail ‹_›, id, id, id, id, id, id, id, id⟩
  · refine BoundsKept.trans ?_ (.of_sensors (State.judgeBatch_work _))
    refine ⟨id, id, id, id, ?_, ?_, id, id, id⟩ <;> simp only [State.onLtx_ltx, Ltx.sendMotion] <;> split
    · exact id
    · rename_i hm
      rw [hm, List.length_cons]
      exact (Nat.le_succ _).trans
    · exact id
    · exact id
  · refine ⟨id, id, id, id, ?_, ?_, id, id, id⟩ <;> simp only [State.onLtx_ltx, Ltx.sendVoice] <;> split
    · exact id
    · exact id
    · exact id
    · rename_i hm
      rw [hm, List.length_cons]
      exact (Nat.le_succ _).trans
  · refine ⟨id, id, id, id, ?_, ?_, id, id, id⟩ <;> simp only [State.onLtx_ltx] <;> split <;> exact id

theorem State.pick_bounds : BoundsKept s s.pick := by
  unfold State.pick
  split
  · exact ⟨id, id, id, id, id, id, id, id, id⟩
  · exact s.pickQueued_bounds

/-- A state with these blocks at their reset values meets every bound. -/
theorem BoundsKept.of_reset {s t : State} (h1 : t.evu = Evu.reset) (h2 : t.mou = { Mou.reset with lineSamples := t.mou.lineSamples })
    (h3 : t.ltx = Ltx.reset) (h4 : t.auu.buffer = [])
    (h5 : t.auu = { Auu.reset with frameIdx := t.auu.frameIdx, frameAt := t.auu.frameAt, micPhase := t.auu.micPhase }) (h6 : t.pmg = Pmg.reset) : BoundsKept s t := by
  refine ⟨fun _ => ?_, fun _ => ?_, fun _ => ?_, fun _ => ?_, fun _ => ?_, fun _ => ?_, fun _ => ?_, fun _ => ?_,
    fun _ => ?_⟩
  · rw [h1]; exact ⟨Nat.zero_le _, List.Pairwise.nil⟩
  · rw [h2]; exact Nat.zero_le _
  · rw [h2]; exact Nat.zero_le _
  · unfold State.serialSound; rw [h2]; exact ⟨.inl rfl, rfl, rfl, rfl⟩
  · rw [h3]; exact Nat.zero_le _
  · rw [h3]; exact Nat.zero_le _
  · rw [h4]; exact Nat.zero_le _
  · have : Auu.reset.InRange := by unfold Auu.InRange; decide
    unfold State.audioInRange
    rw [h5]
    exact this
  · rw [h6]; exact Nat.zero_le _

theorem State.sense_window (mv ma : Nat) : s.pmg.window.length ≤ 8 → (s.pmg.sense mv ma).window.length ≤ 8 := by
  intro h
  show ((if s.pmg.window.length < 8 then s.pmg.window else s.pmg.window.drop 1) ++ [_]).length ≤ 8
  rw [List.length_append, List.length_singleton]
  split
  · omega
  · rw [List.length_drop]
    omega

theorem BoundsKept.keptByActs (s : State) : KeptByActs (BoundsKept s) where
  aside _ _ w h := h.trans (.of_within (w.mono (by decide)))
  work _ _ w h := h.trans (.of_sensors w)
  raise _ _ _ h := h.trans (.raise _ _)
  timer _ _ _ h := h.trans (.onFtm _)
  contexts _ _ h := h.trans (.onPxp _)
  rebase u d h := h.trans (u.rebase_bounds d)
  pictureCell u c h := h.trans (.of_within ((u.pictureCell_within c).mono (by decide)))
  lineOut u p _ h := h.trans (u.lineOut_bounds p)
  beginStrobe _ p _ h := h.trans (((BoundsKept.onPanel p _).trans (.onFtm _)).trans (State.tryComplete_bounds _ p))
  endStrobe _ p _ h := h.trans ((BoundsKept.onPanel p _).trans (State.tryComplete_bounds _ p))
  frameStart u h := (BoundsKept.keptByPower s).refreshLoads (h.trans u.framed_bounds)
  audioCell u n l bs g h := (BoundsKept.keptByPower s).refreshLoads (h.trans (.of_audio (u.audioCell_work n l bs g)))
  request u op table r h := h.trans (u.request_bounds op table r)
  store u t es h := h.trans (u.store_bounds t es)
  loadEnd _ h := (BoundsKept.keptByPower s).loadEndPower h
  measure u mv ma h := (BoundsKept.keptByPower s).measure mv ma (h.trans ⟨id, id, id, id, id, id, id, id, u.sense_window mv ma⟩)
  period u h := h.trans (.of_audio u.period_work)
  output u h := h.trans (.of_audio (.onAuu ⟨rfl, rfl, id, id⟩))
  idleTimer u h := (BoundsKept.keptByPower s).refreshLoads (h.trans (.of_audio (.onAuu ⟨rfl, rfl, fun _ => Nat.zero_le _, id⟩)))
  micSample u x h := h.trans (u.micSample_bounds x)
  stepEnd u c p _ h := (BoundsKept.keptByPower s).refreshLoads (h.trans (u.patternStep_bounds c p))
  rise _ _ _ _ h := h.trans (.onPte _)
  reverse _ _ _ _ h := h.trans (.onPte _)
  carrier _ h := h.trans (.onPte _)
  deadTimeEnd _ h := h.trans (.onPte _)
  onTimeEnd _ h := h.trans (.onPte _)
  pick u h := h.trans u.pick_bounds
  restart _ _ := .of_reset rfl rfl rfl rfl rfl rfl
  reset _ _ := .of_reset rfl rfl rfl rfl rfl rfl

/-- Every step keeps the bounds. -/
theorem State.step_bounds {t : State} (hs : step s = .next t) : BoundsKept s t :=
  (BoundsKept.keptByActs s).step .refl (fun _ _ h => h.trans ⟨id, id, id, id, id, id, id, id, id⟩) hs

end Sys2Proof.Machine
end

section
/-! What the picture path keeps of the panels: a cell on a picture stream, the timed rows of a scan and a strobe, and a frame start
(chapter 5). -/

namespace Sys2Proof.Machine

open Sys2Proof

/-! ### A cell on a picture stream, for every predicate -/

/-- `y` follows `x` with at most its counters of slices changed. -/
def PanelState.Counted (x y : PanelState) : Prop :=
  y = { x with malformedSlices := y.malformedSlices, noContextSlices := y.noContextSlices, orphanCells := y.orphanCells }

/-- The predicate is kept by each thing that a picture cell's way is made of (R83 to R90). -/
structure KeptBySlices (P : State → Prop) : Prop where
  contexts : ∀ s c, P s → P (s.onPxp fun x => { x with contexts := c })
  pose : ∀ s n t, P s → P (s.writePose n t)
  counted : ∀ s p f, (∀ x, PanelState.Counted x (f x)) → P s → P (s.onPanel p f)
  offered : ∀ s p l, P s → P (s.onPanel p fun x => x.offer s.ftm.scanFrame l)

namespace KeptBySlices

variable {P : State → Prop} (k : KeptBySlices P) {s : State} (h : P s)
include k h

theorem target (t : Target) (f : PanelState → PanelState) (hf : ∀ x, PanelState.Counted x (f x)) : P (s.onTarget t f) := by
  cases t with
  | one p => exact k.counted _ _ _ hf h
  | both => exact k.counted _ _ _ hf (k.counted _ _ _ hf h)

theorem abortCtx (i : Fin 4) : P (s.abortCtx i) := by
  unfold State.abortCtx
  split
  · exact k.target (k.contexts _ _ h) _ _ fun _ => rfl
  · exact h

theorem commitLines (n : Nat) (c : SliceCtx) : P (Machine.commitLines n c s).2 := by
  induction n generalizing s c with
  | zero => exact h
  | succ n ih =>
    unfold Machine.commitLines
    split
    · refine ih ?_ _
      cases c.target with
      | one p => exact k.offered s p _ h
      | both => exact k.offered (s.onPanel .a _) .b _ (k.offered s .a _ h)
    · exact h

theorem sliceBytes (i : Fin 4) (c : SliceCtx) (bytes : List Byte) (final : Bool) : P (s.sliceBytes i c bytes final) := by
  simp only [State.sliceBytes]
  split
  · exact k.abortCtx h i
  · exact k.contexts _ _ (k.commitLines h _ _)

theorem sliceFirst (c : PicCell) : P (s.sliceFirst c) := by
  have h1 : P (s.endSlice c.sn) := by
    unfold State.endSlice
    split
    · exact k.abortCtx h _
    · exact h
  rw [State.sliceFirst_eq]
  split
  · have h2 := k.pose _ (readSlice c.bytes).frame (readSlice c.bytes).pose h1
    unfold State.beginSlice
    split
    · exact k.target h2 _ _ fun _ => rfl
    · exact k.sliceBytes (k.contexts _ _ h2) _ _ _ _
  · exact k.target h1 _ _ fun _ => rfl

theorem sliceNext (c : PicCell) : P (s.sliceNext c) := by
  unfold State.sliceNext
  split
  · exact k.target h _ _ fun _ => rfl
  · split
    · exact h
    · split
      · exact k.abortCtx h _
      · exact k.sliceBytes h _ _ _ _

theorem pictureCell (c : PicCell) : P (s.pictureCell c) := by
  unfold State.pictureCell
  split
  · exact k.sliceFirst h c
  · exact k.sliceFirst h c
  · exact k.sliceNext h c
  · exact k.sliceNext h c

theorem sweepContext (i : Fin 4) : P (s.sweepContext i) := by
  unfold State.sweepContext
  split
  · split
    · exact h
    · exact k.abortCtx h i
  · exact h

end KeptBySlices

/-! ### Tables and held strobes -/

/-- `t` follows `s` with the written values of the panels and their held strobes kept. -/
structure TablesKept (s t : State) : Prop where
  written : ∀ p, (t.panel p).written = (s.panel p).written
  strobe : ∀ p, (t.panel p).strobe = .held ↔ (s.panel p).strobe = .held

/-- The same with the values in force kept too. -/
structure PanelsKept (s t : State) : Prop extends TablesKept s t where
  inForce : ∀ p, (t.panel p).inForce = (s.panel p).inForce

namespace TablesKept

variable {s t u : State}

theorem trans (h : TablesKept s t) (k : TablesKept t u) : TablesKept s u :=
  ⟨fun p => (k.written p).trans (h.written p), fun p => (k.strobe p).trans (h.strobe p)⟩

/-- A change of one panel. -/
theorem onPanel (p : Side) (f : PanelState → PanelState) (hw : (f (s.panel p)).written = (s.panel p).written)
    (hs : (f (s.panel p)).strobe = .held ↔ (s.panel p).strobe = .held) : TablesKept s (s.onPanel p f) := by
  refine ⟨fun q => ?_, fun q => ?_⟩ <;> by_cases hq : q = p
  · subst hq; rw [State.panel_onPanel_same]; exact hw
  · rw [State.panel_onPanel_other _ _ hq]
  · subst hq; rw [State.panel_onPanel_same]; exact hs
  · rw [State.panel_onPanel_other _ _ hq]

end TablesKept

namespace PanelsKept

variable {s t u : State}

theorem refl : PanelsKept s s := ⟨⟨fun _ => rfl, fun _ => .rfl⟩, fun _ => rfl⟩

theorem trans (h : PanelsKept s t) (k : PanelsKept t u) : PanelsKept s u :=
  ⟨h.toTablesKept.trans k.toTablesKept, fun p => (k.inForce p).trans (h.inForce p)⟩

/-- The same as `trans`, the later change named first. -/
theorem after (k : PanelsKept t u) (h : PanelsKept s t) : PanelsKept s u := h.trans k

theorem of_pxp (h : t.pxp.panels = s.pxp.panels) : PanelsKept s t :=
  ⟨⟨fun p => by rw [State.panel, h]; rfl, fun p => by rw [State.panel, h]; rfl⟩, fun p => by rw [State.panel, h]; rfl⟩

theorem of_within {bs : List Part} (w : Within bs s t) (h : Part.pxp ∉ bs) : PanelsKept s t := of_pxp (by rw [w.pxp.resolve_left h])

theorem of_calm (c : Calm s t) : PanelsKept s t := ⟨⟨c.written, c.strobeHeld⟩, c.inForce⟩

/-- A change of one panel. -/
theorem onPanel (p : Side) (f : PanelState → PanelState) (hw : (f (s.panel p)).written = (s.panel p).written)
    (hi : (f (s.panel p)).inForce = (s.panel p).inForce) (hs : (f (s.panel p)).strobe = .held ↔ (s.panel p).strobe = .held) :
    PanelsKept s (s.onPanel p f) := by
  refine ⟨.onPanel p f hw hs, fun q => ?_⟩
  by_cases hq : q = p
  · subst hq; rw [State.panel_onPanel_same]; exact hi
  · rw [State.panel_onPanel_other _ _ hq]

end PanelsKept

theorem PanelState.offer_kept (x : PanelState) (F : Option FrameNo) (l : RingLine) :
    (x.offer F l).written = x.written ∧ (x.offer F l).inForce = x.inForce ∧ (x.offer F l).strobe = x.strobe := by
  unfold PanelState.offer
  split <;> exact ⟨rfl, rfl, rfl⟩

theorem PanelsKept.keptBySlices (s : State) : KeptBySlices (PanelsKept s) where
  contexts _ _ h := h.trans (.of_pxp rfl)
  pose u n t h := h.trans (.of_within (u.writePose_within n t) (by decide))
  counted _ p f hf h := h.trans (.onPanel p f (by rw [hf]) (by rw [hf]) (by rw [hf]))
  offered u p l h := by
    obtain ⟨hw, hi, hs⟩ := (u.panel p).offer_kept u.ftm.scanFrame l
    exact h.trans (.onPanel p _ hw hi (by rw [hs]))

variable (s : State)

theorem State.pictureCell_panels (c : PicCell) : PanelsKept s (s.pictureCell c) := (PanelsKept.keptBySlices s).pictureCell .refl c

theorem State.tryComplete_panels (p : Side) : PanelsKept s (s.tryComplete p) := .of_calm (s.tryComplete_calm p)

/-- A panel after the line-out of line y (R91, R95). -/
def PanelState.lineSent (x : PanelState) (F : Option FrameNo) (y : Nat) : PanelState :=
  { x.moveTo F y with
    lastLine := some ((x.moveTo F y).lineFor F y), missingLines := satAdd x.missingLines (bit ((x.moveTo F y).missingAt F y)) }

theorem State.outputLine_pxp (p : Side) (y : Nat) :
    (s.outputLine p y).pxp = (s.onPanel p fun x => x.lineSent s.ftm.scanFrame y).pxp := by
  simp only [State.outputLine]
  split <;> rfl

theorem State.outputLine_panels (p : Side) (y : Nat) : PanelsKept s (s.outputLine p y) :=
  (PanelsKept.of_pxp (congrArg Pxp.panels (s.outputLine_pxp p y))).after
    (.onPanel p (fun x => x.lineSent s.ftm.scanFrame y) rfl rfl .rfl)

theorem State.lineOut_panels (p : Side) : PanelsKept s (s.lineOut p) := by
  simp only [State.lineOut]
  split
  · refine (State.tryComplete_panels _ p).after ?_
    refine PanelsKept.trans (s.outputLine_panels p ((s.panel p).pos + 1)) ?_
    exact (PanelsKept.onPanel p (fun x => { x with scan := .blank }) rfl rfl .rfl).after (.of_calm (State.closeScan_calm _ p _))
  · exact s.outputLine_panels p _

theorem State.beginStrobe_panels {s : State} {p : Side} (h : s.strobeStartDue p = true) : PanelsKept s (s.beginStrobe p) := by
  have hp : (s.panel p).strobe = .pending := by
    simp only [State.strobeStartDue, Bool.and_eq_true, decide_eq_true_eq] at h
    exact h.1
  refine (State.tryComplete_panels _ _).after (PanelsKept.trans (t := s.onPanel p _) (.onPanel p _ ?_ ?_ ?_) (.of_pxp rfl))
  · split <;> rfl
  · split <;> rfl
  · rw [hp]; split <;> simp

theorem State.endStrobe_panels {s : State} {p : Side} (h : s.strobeEndDue p = true) : PanelsKept s (s.endStrobe p) := by
  have hp : (s.panel p).strobe = .on := by
    simp only [State.strobeEndDue, Bool.and_eq_true, decide_eq_true_eq] at h
    exact h.1
  exact (State.tryComplete_panels _ _).after (.onPanel p (fun x => { x with strobe := .idle }) rfl rfl (by simp [hp]))

theorem State.rebase_panels (d : Int) : PanelsKept s (s.rebase d) := by
  have one : ∀ x : PanelState, (x.rebaseStrobe d).written = x.written ∧ (x.rebaseStrobe d).inForce = x.inForce
      ∧ (x.rebaseStrobe d).strobe = x.strobe := by
    intro x
    unfold PanelState.rebaseStrobe
    split <;> exact ⟨rfl, rfl, rfl⟩
  have get : ∀ p, (s.rebase d).panel p = (s.panel p).rebaseStrobe d := by
    intro p
    cases p <;> rfl
  exact ⟨⟨fun p => by rw [get]; exact (one _).1, fun p => by rw [get, (one _).2.2]⟩, fun p => by rw [get]; exact (one _).2.1⟩

/-! ### A frame start -/

theorem State.cutAtStart_panels (p : Side) (F : Option FrameNo) : PanelsKept s (s.cutAtStart p F) := by
  unfold State.cutAtStart
  split
  · exact .of_calm (s.cutScan_calm p F)
  · exact .refl

theorem State.panelInForce_tables (p : Side) : TablesKept s (s.panelInForce p) := by
  simp only [State.panelInForce]
  split
  · have drop : ∀ u : State, PanelsKept u (u.onPxp fun y => y.dropContexts p) := fun u => .of_pxp rfl
    exact (TablesKept.onPanel p (fun x => { x with inForce := x.written, ring := [] }) rfl .rfl).trans (drop _).toTablesKept
  · exact .onPanel p (fun x => { x with inForce := x.written }) rfl .rfl

theorem StrobeState.cleared_held (x : StrobeState) : x.cleared = .held ↔ x = .held := by cases x <;> simp [StrobeState.cleared]

theorem PanelState.scheduleStrobe_kept (x : PanelState) (c : Nat) (sF sNext : Time) :
    (x.scheduleStrobe c sF sNext).written = x.written ∧ ((x.scheduleStrobe c sF sNext).strobe = .held ↔ x.strobe = .held) := by
  unfold PanelState.scheduleStrobe
  dsimp only
  split
  · exact ⟨rfl, .rfl⟩
  · rename_i h
    split
    · exact ⟨rfl, iff_of_false (by simp) h⟩
    · exact ⟨rfl, .rfl⟩

theorem State.panelStart_tables (p : Side) (old : Option FrameNo) : TablesKept s (s.panelStart p old) := by
  simp only [State.panelStart]
  refine .onPanel p _ ?_ ?_
  · split
    · exact (PanelState.scheduleStrobe_kept _ _ _ _).1
    · rfl
  · split
    · exact (PanelState.scheduleStrobe_kept _ _ _ _).2.trans (StrobeState.cleared_held _)
    · exact StrobeState.cleared_held _

theorem State.sweepContexts_panels (xs : List (Fin 4)) : PanelsKept s (xs.foldl State.sweepContext s) := by
  induction xs generalizing s with
  | nil => exact .refl
  | cons i xs ih => exact ((PanelsKept.keptBySlices s).sweepContext .refl i).trans (ih _)

theorem State.firstLine_panels (p : Side) : PanelsKept s (s.firstLine p) := by
  unfold State.firstLine
  split
  · exact s.outputLine_panels p 0
  · exact .refl

theorem State.frameRecords_panels (old : Option FrameNo) : PanelsKept s (s.frameRecords old) :=
  ((((s.cutAtStart_panels _ _).trans (State.cutAtStart_panels _ _ _)).trans (.of_calm (State.finishRecord_calm _))).trans
    (.of_within (State.lateEvaluate_within _) (by decide))).trans (.of_within (State.onFtm_within _ _) (by decide))

theorem State.picturesStart_tables (old : Option FrameNo) : TablesKept s (s.picturesStart old) := by
  have begin := (((s.panelInForce_tables .a).trans (State.panelInForce_tables _ .b)).trans
    (State.sweepContexts_panels _ [0, 1, 2, 3]).toTablesKept).trans (State.panelStart_tables _ .a old)
  have named := (begin.trans (State.panelStart_tables _ .b old)).trans
    (PanelsKept.of_within (State.namePanels_within _) (by decide)).toTablesKept
  exact (named.trans (State.firstLine_panels _ .a).toTablesKept).trans (State.firstLine_panels _ .b).toTablesKept

theorem State.framed_tables : TablesKept s s.framed :=
  (((((PanelsKept.of_within s.frameNumbers_within (by decide)).toTablesKept.trans
    (State.frameRecords_panels _ _).toTablesKept).trans (State.picturesStart_tables _ _)).trans
      (PanelsKept.of_within (State.onFtm_within _ _) (by decide)).toTablesKept).trans
        (PanelsKept.of_within (State.startPulses_within _) (by decide)).toTablesKept)

theorem State.framed_within : Within [.lsu, .stu, .pxp, .ftm, .evu] s s.framed :=
  ((((s.frameNumbers_within.mono (by decide)).andThen (State.frameRecords_within _ _) (by decide)).andThen
    (State.picturesStart_within _ _) (by decide)).andThen (State.onFtm_within _ _) (by decide)).andThen
      (State.startPulses_within _) (by decide)

end Sys2Proof.Machine
end

section
/-! Strobes and bridge are held exactly in TRIP, and HP and HN are never high together: what every act keeps (R100, R164, R166). -/

namespace Sys2Proof.Machine

open Sys2Proof

/-! ### The bridge -/

/-- The bridge is what a power state and channel H give, its outputs are low unless it drives, and never both high (R164, R166). -/
structure Pte.Fits (x : Pte) (st : PowerState) : Prop where
  bridge : x.bridge = if st = .trip then .held else if x.chanH.isSome then .driving else .idle
  low : x.bridge ≠ .driving → x.hp = false ∧ x.hn = false
  apart : ¬ (x.hp = true ∧ x.hn = true)

namespace Pte.Fits

variable {x y : Pte} {st : PowerState}

/-- A change that leaves the bridge, its outputs and whether channel H plays. -/
theorem congr (h : x.Fits st) (hb : y.bridge = x.bridge) (hc : y.chanH.isSome = x.chanH.isSome) (hp : y.hp = x.hp)
    (hn : y.hn = x.hn) : y.Fits st :=
  ⟨by rw [hb, hc]; exact h.bridge, by rw [hb, hp, hn]; exact h.low, by rw [hp, hn]; exact h.apart⟩

/-- A bridge with both outputs low. -/
theorem of_low (hb : y.bridge = if st = .trip then .held else if y.chanH.isSome then .driving else .idle) (hp : y.hp = false)
    (hn : y.hn = false) : y.Fits st := ⟨hb, fun _ => ⟨hp, hn⟩, by simp [hp]⟩

theorem setChan (h : x.Fits st) {c : Channel} {p : Pattern} (hc : x.chan c = some p) (q : Pattern) : (x.setChan c (some q)).Fits st := by
  cases c with
  | t => exact h.congr rfl rfl rfl rfl
  | h => exact h.congr rfl (by rw [show x.chanH = some p from hc]; rfl) rfl rfl

theorem reversal (h : x.Fits st) (osc : Nat) : (x.reversal osc).Fits st := .of_low h.bridge rfl rfl

theorem turned (h : x.Fits st) (c : Channel) (neg : Bool) (osc : Nat) : (x.turned c neg osc).Fits st := by
  unfold Pte.turned
  split
  · exact h.reversal osc
  · exact h

theorem drive (h : x.Fits st) (osc : Nat) : (x.drive osc).Fits st := by
  refine ⟨h.bridge, fun hb => ?_, ?_⟩
  · have hb' : ¬ x.bridge = .driving := hb
    simp [Pte.drive, hb']
  · simp only [Pte.drive]
    cases x.negative <;> simp

theorem carrier (h : x.Fits st) (osc : Nat) : (x.carrier osc).Fits st := by
  simp only [Pte.carrier]
  split
  · exact .of_low h.bridge rfl rfl
  · refine Pte.Fits.drive ?_ osc
    exact h.congr rfl rfl rfl rfl

theorem endChan (h : x.Fits st) (c : Channel) (r : EndReason) : (x.endChan c r).Fits st := by
  cases c with
  | t => exact h.congr rfl rfl rfl rfl
  | h =>
    refine .of_low ?_ rfl rfl
    show x.bridge.stopped = if st = .trip then .held else .idle
    rw [h.bridge]
    split_ifs <;> rfl

theorem play (h : x.Fits st) (c : Channel) (n : Fin 48) (priority budget : Nat) (neg : Bool) (osc : Nat) :
    (x.play c n priority budget neg osc).Fits st := by
  cases c with
  | t => exact h.congr rfl rfl rfl rfl
  | h =>
    refine Pte.Fits.turned ?_ _ _ _
    have hb : x.bridge.started = if st = .trip then .held else .driving := by
      rw [h.bridge]
      split_ifs <;> rfl
    refine ⟨hb, fun hd => ?_, h.apart⟩
    replace hd : x.bridge.started ≠ .driving := hd
    by_cases ht : st = .trip
    · exact h.low (by simp [h.bridge, ht])
    · simp [hb, ht] at hd

end Pte.Fits

/-! ### The invariant -/

/-- A panel's strobe is held exactly in TRIP (R100). -/
def State.StrobesFit (s : State) : Prop := ∀ p, (s.panel p).strobe = .held ↔ s.pmg.state = .trip

/-- Strobes and bridge agree with the power state (R100, R164, R166). -/
def State.TripSafe (s : State) : Prop := s.StrobesFit ∧ s.pte.Fits s.pmg.state

theorem State.tripSafe_iff (s : State) : s.TripSafe ↔ s.tripHolds := by
  have two : s.StrobesFit ↔ ((s.panel .a).strobe = .held ↔ s.pmg.state = .trip) ∧ ((s.panel .b).strobe = .held ↔ s.pmg.state = .trip) :=
    ⟨fun h => ⟨h .a, h .b⟩, fun ⟨ha, hb⟩ p => by cases p <;> assumption⟩
  unfold State.TripSafe
  rw [two]
  constructor
  · rintro ⟨⟨ha, hb⟩, h1, h2, h3⟩
    exact ⟨ha, hb, h1, h2, h3⟩
  · rintro ⟨ha, hb, h1, h2, h3⟩
    exact ⟨⟨ha, hb⟩, h1, h2, h3⟩

/-- `t` follows `s` with the power state, the held strobes and the fit of the bridge kept. -/
structure TripKept (s t : State) : Prop where
  strobe : ∀ p, (t.panel p).strobe = .held ↔ (s.panel p).strobe = .held
  state : t.pmg.state = s.pmg.state
  pte : ∀ st, s.pte.Fits st → t.pte.Fits st

namespace TripKept

variable {s t u : State}

theorem refl : TripKept s s := ⟨fun _ => .rfl, rfl, fun _ => id⟩

theorem trans (h : TripKept s t) (k : TripKept t u) : TripKept s u :=
  ⟨fun p => (k.strobe p).trans (h.strobe p), k.state.trans h.state, fun st => k.pte st ∘ h.pte st⟩

/-- The same as `trans`, the later change named first. -/
theorem after (k : TripKept t u) (h : TripKept s t) : TripKept s u := h.trans k

theorem holds (k : TripKept s t) (h : s.TripSafe) : t.TripSafe := by
  exact ⟨fun p => by rw [k.strobe p, k.state]; exact h.1 p, by rw [k.state]; exact k.pte _ h.2⟩

theorem of_within {bs : List Part} (w : Within bs s t) (h1 : Part.pxp ∉ bs) (h2 : Part.pmg ∉ bs) (h3 : Part.pte ∉ bs) :
    TripKept s t := by
  have e1 := w.pxp.resolve_left h1
  have e2 := w.pmg.resolve_left h2
  have e3 := w.pte.resolve_left h3
  exact ⟨fun p => by simp only [State.panel, e1], by rw [e2], fun st => by rw [e3]; exact id⟩

theorem of_calm {bs : List Part} (c : Calm s t) (w : Within bs s t) (h2 : Part.pmg ∉ bs) (h3 : Part.pte ∉ bs) : TripKept s t :=
  ⟨c.strobeHeld, by rw [w.pmg.resolve_left h2], fun st => by rw [w.pte.resolve_left h3]; exact id⟩

theorem onPanel (p : Side) (f : PanelState → PanelState) (h : (f (s.panel p)).strobe = .held ↔ (s.panel p).strobe = .held) :
    TripKept s (s.onPanel p f) := by
  refine ⟨fun q => ?_, rfl, fun _ => id⟩
  by_cases hq : q = p
  · subst hq; rw [State.panel_onPanel_same]; exact h
  · rw [State.panel_onPanel_other _ _ hq]

/-- A change of every panel that keeps its strobe. -/
theorem onPxp (f : Pxp → Pxp) (h : ∀ p, ((f s.pxp).panels.get p).strobe = (s.panel p).strobe) : TripKept s (s.onPxp f) :=
  ⟨fun p => by rw [← h p]; rfl, rfl, fun _ => id⟩

theorem onFtm (f : Ftm → Ftm) : TripKept s (s.onFtm f) := of_within (s.onFtm_within f) (by decide) (by decide) (by decide)

theorem onPte (f : Pte → Pte) (h : ∀ st, s.pte.Fits st → (f s.pte).Fits st) : TripKept s (s.onPte f) := ⟨fun _ => .rfl, rfl, h⟩

theorem onPmg (f : Pmg → Pmg) (h : (f s.pmg).state = s.pmg.state) : TripKept s (s.onPmg f) := ⟨fun _ => .rfl, h, fun _ => id⟩

theorem raise (k : EventKind) (d : List Byte) : TripKept s (s.raise k d) :=
  of_within (s.raise_within k d) (by decide) (by decide) (by decide)

end TripKept

variable (s : State)

/-! ### The power manager -/

theorem State.allocate_trip : TripKept s s.allocate := by
  obtain ⟨c, hp, -, hq, -⟩ := s.allocate_spec
  exact ⟨c.strobeHeld, by rw [hp], fun st h => by rw [hq]; exact h.congr rfl rfl rfl rfl⟩

theorem State.refreshLoads_trip : TripKept s s.refreshLoads := by
  unfold State.refreshLoads
  split
  · exact s.allocate_trip
  · exact .refl

theorem State.budgetAndAllocate_trip : TripKept s s.budgetAndAllocate :=
  (TripKept.onPmg (fun p => { p with budget := budgetOf p.cfg p.state }) rfl).trans (State.allocate_trip _)

theorem State.endPattern_trip (c : Channel) (r : EndReason) : TripKept s (s.endPattern c r) := by
  unfold State.endPattern
  split
  · exact .refl
  · exact (TripKept.onPte _ fun _ h => h.endChan c r).trans (.raise _ _)

theorem State.holdStrobe_panel (p q : Side) :
    ((s.holdStrobe p).panel q).strobe = if q = p then .held else (s.panel q).strobe := by
  have hp : (s.holdStrobe p).panel q = (s.onPanel p fun x => { x with strobe := .held }).panel q := by
    simp only [State.panel, State.holdStrobe, (State.tryComplete_within _ p).pxp.resolve_left (by decide)]
  rw [hp]
  split
  · rename_i h
    subst h
    rw [State.panel_onPanel_same]
  · rename_i h
    rw [State.panel_onPanel_other _ _ h]

/-- Entry to TRIP holds both strobes and the bridge (R100, R166). -/
theorem State.enterTrip_holds (h : s.pmg.state = .trip) : (((s.holdStrobe .a).holdStrobe .b).patternTrip).TripSafe := by
  have wp := ((s.holdStrobe .a).holdStrobe .b).patternTrip_within
  have hpmg : (((s.holdStrobe .a).holdStrobe .b).patternTrip).pmg = s.pmg := by
    rw [wp.pmg.resolve_left (by decide), (State.holdStrobe_within _ _).pmg.resolve_left (by decide),
      (State.holdStrobe_within _ _).pmg.resolve_left (by decide)]
  refine ⟨fun p => ?_, ?_⟩
  · rw [hpmg, h, State.panel, wp.pxp.resolve_left (by decide), ← State.panel, State.holdStrobe_panel, State.holdStrobe_panel]
    cases p <;> simp
  · rw [hpmg, h]
    exact .of_low (by simp [State.patternTrip]) rfl rfl

theorem State.releaseStrobe_free (p q : Side) (h : q = p ∨ (s.panel q).strobe ≠ .held) :
    ((s.releaseStrobe p).panel q).strobe ≠ .held := by
  unfold State.releaseStrobe
  by_cases hq : q = p
  · subst hq
    rw [State.panel_onPanel_same]
    split
    · simp
    · assumption
  · rw [State.panel_onPanel_other _ _ hq]
    exact h.resolve_left hq

/-- Leaving TRIP releases what it held (R100, R166). -/
theorem State.leaveTrip_holds (h : s.pte.Fits .trip) (hs : s.pmg.state ≠ .trip) :
    (((s.releaseStrobe .a).releaseStrobe .b).onPte Pte.leaveTrip).TripSafe := by
  refine ⟨fun p => iff_of_false ?_ hs, ?_⟩
  · refine State.releaseStrobe_free _ .b p ?_
    cases p with
    | a => exact .inr (s.releaseStrobe_free .a .a (.inl rfl))
    | b => exact .inl rfl
  · obtain ⟨hp, hn⟩ := h.low (by simp [h.bridge])
    refine .of_low ?_ hp hn
    have hst : (((s.releaseStrobe .a).releaseStrobe .b).onPte Pte.leaveTrip).pmg.state ≠ .trip := hs
    rw [if_neg hst]
    rfl

/-- A change of the power state moves strobes and bridge with it (R100, R166, R175). -/
theorem State.moveState_trip {s : State} (h : s.TripSafe) (new : PowerState) (c : PowerCause) : (s.moveState new c).TripSafe := by
  have hpte := h.2
  have hu : ∀ u : State, u.pxp = s.pxp → u.pte = s.pte → u.pmg.state = new → (u.handTrip s.pmg.state new).TripSafe := by
    intro u e1 e2 e3
    unfold State.handTrip
    split
    · exact u.enterTrip_holds (e3.trans ‹_›)
    · rename_i hnew
      split
      · rename_i hold
        exact u.leaveTrip_holds (by rw [e2, ← hold]; exact hpte) (by rw [e3]; exact hnew)
      · rename_i hold
        refine ⟨fun p => iff_of_false ?_ (by rw [e3]; exact hnew), ?_⟩
        · rw [State.panel, e1]
          exact mt (h.1 p).mp hold
        · rw [e2, e3]
          refine ⟨?_, hpte.low, hpte.apart⟩
          rw [hpte.bridge, if_neg hold, if_neg hnew]
  exact hu _ rfl rfl rfl

theorem State.powerTo_trip {s : State} (h : s.TripSafe) (new : PowerState) (c : PowerCause) : (s.powerTo new c).TripSafe := by
  unfold State.powerTo
  split
  · exact h
  · exact (State.budgetAndAllocate_trip _).holds (State.moveState_trip h new c)

theorem tripSafe_keptByMeasure : KeptByMeasure State.TripSafe where
  counts _ f hc h := (TripKept.onPmg f hc.state).holds h
  powerTo _ new c h := State.powerTo_trip h new c

/-! ### Stores and requests -/

theorem State.storePower_trip {s : State} (h : s.TripSafe) (c : PowerCfg) : (s.storePower c).TripSafe := by
  have h1 : (s.onPmg fun p => { p with cfg := c }).TripSafe := (TripKept.onPmg (s := s) (fun p => { p with cfg := c }) rfl).holds h
  simp only [State.storePower]
  refine (State.budgetAndAllocate_trip _).holds ?_
  split
  · exact h1
  · exact State.moveState_trip h1 _ _

theorem State.storeEntry_trip {s : State} (h : s.TripSafe) (t : Table) (e : EntryValues) : (s.storeEntry t e).TripSafe := by
  cases t
  case power => exact State.storePower_trip h _
  case panel => exact (TripKept.onPanel (s := s) _ (fun x => { x with written := e.panelCfg }) .rfl).holds h
  case poll => exact (TripKept.of_within (s.storePoll_within _ _) (by decide) (by decide) (by decide)).holds h
  case pattern =>
    refine (TripKept.onPte (s := s) _ fun st hf => ?_).holds h
    simp only [Pte.store]
    split <;> exact hf.congr rfl rfl rfl rfl
  case loads =>
    refine (TripKept.onPmg (s := s) _ ?_).holds h
    unfold Pmg.storeLoad
    split_ifs <;> rfl
  all_goals exact h

theorem State.reallocate_trip (old : List Nat) : TripKept s (s.reallocate old) := by
  unfold State.reallocate
  split
  · exact s.refreshLoads_trip
  · exact s.allocate_trip

theorem State.store_trip {s : State} (h : s.TripSafe) (t : Table) (es : List EntryValues) : (s.store t es).TripSafe := by
  have hfold : ∀ u : State, u.TripSafe → (es.foldl (fun s e => s.storeEntry t e) u).TripSafe := by
    induction es with
    | nil => exact fun _ h => h
    | cons e es ih => exact fun u hu => ih _ (State.storeEntry_trip hu t e)
  have hafter : ∀ (u : State) old, TripKept u (u.afterStore t old) := by
    intro u old
    unfold State.afterStore
    split
    · exact u.allocate_trip
    · exact u.reallocate_trip _
    · exact u.refreshLoads_trip
    · exact u.reallocate_trip _
    · exact u.reallocate_trip _
    · exact u.refreshLoads_trip.trans (.of_within (State.judgeBatch_within _) (by decide) (by decide) (by decide))
    · exact .refl
  exact (hafter _ _).holds (hfold _ h)

theorem State.clearEntries_trip (t : Table) (n i : Nat) : TripKept s (s.clearEntries t n i) := by
  have one : ∀ (u : State) i, TripKept u (u.clearEntry t i) := by
    intro u i
    cases t
    case panel => exact .onPanel _ _ .rfl
    case power => exact .onPmg (fun p => { p with trips := 0, currentHolds := 0, stateChanges := 0 }) rfl
    case loads => exact .onPmg (fun p => { p with loads := tabMod p.loads (Fin.ofNat 8 i) fun l => { l with sheds := 0 } }) rfl
    all_goals exact ⟨fun _ => .rfl, rfl, fun _ => id⟩
  induction n generalizing s i with
  | zero => exact .refl
  | succ n ih => exact (one s i).trans (ih _ _)

theorem State.startPlay_trip (c : Channel) (n : Fin 48) (p b : Nat) : TripKept s (s.startPlay c n p b) := by
  refine TripKept.trans ?_ (State.refreshLoads_trip _)
  exact (TripKept.onPte _ fun _ h => h.play c n p b _ _).after (s.endPattern_trip c .preempted)

theorem Effect.trip {s : State} {op : Nat} {t : State} (e : Effect op s t) (h : s.TripSafe) : t.TripSafe := by
  cases e with
  | none => exact h
  | store t es _ => exact State.store_trip h t es
  | clear t n i => exact (s.clearEntries_trip t n i).holds h
  | restart => exact h
  | busRecover b => exact (TripKept.of_within (s.busRecover_within b) (by decide) (by decide) (by decide)).holds h
  | fifoFlush => exact h
  | audioRestart => exact (State.refreshLoads_trip _).holds (s := s.onAuu _) h
  | play c n p b => exact (s.startPlay_trip c n p b).holds h
  | stop c => exact ((s.endPattern_trip c .stopped).trans (State.refreshLoads_trip _)).holds h
  | testStart => exact h
  | testStop => exact h

theorem State.request_trip {s : State} (h : s.TripSafe) (op : Nat) (table : Byte) (r : Request) : (s.request op table r).TripSafe :=
  State.request_keeps (fun _ _ h => h) (fun _ _ h => h) (fun _ _ _ h => h) (fun _ _ h e => e.trip h)
    (fun s r h => (TripKept.of_within (s.relayHandOver_within r) (by decide) (by decide) (by decide)).holds h) h table r

/-! ### Every act -/

/-- The picture path's own work: the panels' tables and held strobes stay, channels and power state are not touched. -/
theorem TripKept.of_tables {s t : State} {bs : List Part} (k : TablesKept s t) (w : Within bs s t) (h2 : Part.pmg ∉ bs)
    (h3 : Part.pte ∉ bs) : TripKept s t :=
  ⟨k.strobe, by rw [w.pmg.resolve_left h2], fun st => by rw [w.pte.resolve_left h3]; exact id⟩

theorem State.patternStep_trip {s : State} {c : Channel} {p : Pattern} (hc : s.pte.chan c = some p) :
    TripKept s (s.patternStep c p) := by
  unfold State.patternStep
  split
  · exact s.endPattern_trip c .done
  · split
    · exact s.endPattern_trip c .budget
    · exact .onPte _ fun _ h => (h.setChan hc _).turned _ _ _

/-- Reset values with a power state of HELD hold nothing (R100, R166). -/
theorem tripSafe_reset {t : State} (h1 : t.pxp = Pxp.reset) (h2 : t.pmg = Pmg.reset)
    (h3 : t.pte = { Pte.reset with carrierAt := t.pte.carrierAt, periodStart := t.pte.periodStart }) : t.TripSafe := by
  refine ⟨fun p => ?_, ?_⟩
  · rw [State.panel, h1, h2]
    cases p <;> decide
  · rw [h2, h3]
    exact .of_low rfl rfl rfl

theorem tripSafe_keptByActs : KeptByActs State.TripSafe where
  aside _ _ w h := (TripKept.of_within w (by decide) (by decide) (by decide)).holds h
  work _ _ w h := (TripKept.of_within w.within (by decide) (by decide) (by decide)).holds h
  raise _ _ _ h := (TripKept.raise _ _).holds h
  timer _ f _ h := (TripKept.onFtm f).holds h
  contexts _ _ h := (TripKept.onPxp _ fun _ => rfl).holds h
  rebase u d h := (TripKept.of_tables (u.rebase_panels d).toTablesKept (u.rebase_within d) (by decide) (by decide)).holds h
  pictureCell u c h :=
    (TripKept.of_tables (u.pictureCell_panels c).toTablesKept (u.pictureCell_within c) (by decide) (by decide)).holds h
  lineOut u p _ h := (TripKept.of_tables (u.lineOut_panels p).toTablesKept (u.lineOut_within p) (by decide) (by decide)).holds h
  beginStrobe u p hd h :=
    (TripKept.of_tables (State.beginStrobe_panels hd).toTablesKept (u.beginStrobe_within p) (by decide) (by decide)).holds h
  endStrobe u p hd h :=
    (TripKept.of_tables (State.endStrobe_panels hd).toTablesKept (u.endStrobe_within p) (by decide) (by decide)).holds h
  frameStart u h := ((TripKept.of_tables u.framed_tables u.framed_within (by decide) (by decide)).trans
    (State.refreshLoads_trip _)).holds h
  audioCell u n l bs g h := ((TripKept.of_within (u.audioCell_within n l bs g) (by decide) (by decide) (by decide)).trans
    (State.refreshLoads_trip _)).holds h
  request _ op table r h := State.request_trip h op table r
  store _ t es h := State.store_trip h t es
  loadEnd _ h := tripSafe_keptByMeasure.loadEndPower h
  measure _ mv ma h := tripSafe_keptByMeasure.measure mv ma h
  period u h := (TripKept.of_within u.period_within (by decide) (by decide) (by decide)).holds h
  output u h := (TripKept.of_within (u.onAuu_within _) (by decide) (by decide) (by decide)).holds h
  idleTimer u h := ((TripKept.of_within (u.onAuu_within _) (by decide) (by decide) (by decide)).trans
    (State.refreshLoads_trip _)).holds h
  micSample u x h := (TripKept.of_within (u.micSample_within x) (by decide) (by decide) (by decide)).holds h
  stepEnd u c p hc h := ((State.patternStep_trip hc).trans (State.refreshLoads_trip _)).holds h
  rise u c p hc h := (TripKept.onPte (s := u) (fun x => x.setChan c (some p.rise)) fun _ h => h.setChan hc _).holds h
  reverse u c p hc h := by
    refine (TripKept.onPte (s := u) _ fun _ h => ?_).holds h
    split
    · exact (h.setChan hc _).reversal _
    · exact h.setChan hc _
  carrier u h := (TripKept.onPte (s := u) (fun x => x.carrier u.osc) fun _ h => h.carrier _).holds h
  deadTimeEnd u h := by
    refine (TripKept.onPte (s := u) (fun x => ({ x with deadEnd := none } : Pte).drive u.osc) fun st h => ?_).holds h
    have h1 : ({ u.pte with deadEnd := none } : Pte).Fits st := h.congr rfl rfl rfl rfl
    exact h1.drive _
  onTimeEnd u h := (TripKept.onPte (s := u) (fun x => { x with hp := false, hn := false }) fun _ h => .of_low h.bridge rfl rfl).holds h
  pick u h := (TripKept.of_within u.pick_within (by decide) (by decide) (by decide)).holds h
  restart _ _ := tripSafe_reset rfl rfl rfl
  reset _ _ := tripSafe_reset rfl rfl rfl

/-- Settles O58, over every act of a step. -/
theorem stepKeepsOutputsSafe : Obligations.StepKeepsOutputsSafe := by
  rintro s t ⟨hTrip, hAudio, hSerial⟩ hs
  have b := s.step_bounds hs
  have trip := tripSafe_keptByActs.step ((State.tripSafe_iff s).mpr hTrip) (fun _ _ h => h) hs
  exact ⟨(State.tripSafe_iff t).mp trip, b.audio hAudio, b.serial hSerial⟩

end Sys2Proof.Machine
end

section
/-! The power manager's figures agree at every step: an allocation within its budget makes them agree, and every act either leaves
them and the owners' requests alone or ends with one (R176 to R183). -/

namespace Sys2Proof.Machine

open Sys2Proof

/-! ### An allocation stays within its budget -/

/-- What has been granted so far. -/
def Alloc.total (a : Alloc) : Nat := (allLoads.map fun i => a.grants[i]).sum

/-- The remainder and the grants together are a budget. -/
def Alloc.Spends (a : Alloc) (budget : Nat) : Prop := a.rest + a.total = budget

theorem Alloc.give_total (a : Alloc) (i : Fin 8) (n : Nat) : (a.give i n).total = a.total + n := by
  have get : ∀ j : Fin 8, (a.give i n).grants[j] = if i = j then a.grants[j] + n else a.grants[j] := by
    intro j
    split
    · rename_i h
      subst h
      exact tabMod_same _ _ _
    · exact tabMod_other _ _ ‹_›
  simp only [Alloc.total, allLoads, List.map_cons, List.map_nil, get, List.sum_cons, List.sum_nil]
  fin_cases i <;> simp <;> omega

theorem Alloc.Spends.give {a : Alloc} {budget : Nat} (h : a.Spends budget) (i : Fin 8) {n : Nat} (hn : n ≤ a.rest) :
    (a.give i n).Spends budget := by
  unfold Alloc.Spends at *
  rw [Alloc.give_total]
  show a.rest - n + (a.total + n) = budget
  omega

theorem Alloc.Spends.pass1 {a : Alloc} {budget : Nat} (h : a.Spends budget) (v : Vector Load 8) (i : Fin 8) :
    (a.pass1 v i).Spends budget := by
  unfold Alloc.pass1
  split
  · exact h.give i ‹_›
  · exact h

/-- The backlight pair takes no more than is left (R180). -/
theorem pairTake_le (rest topA topB : Nat) : (pairTake rest topA topB).1 + (pairTake rest topA topB).2 ≤ rest := by
  simp only [pairTake]
  omega

theorem Alloc.Spends.pass2 {a : Alloc} {budget : Nat} (h : a.Spends budget) (v : Vector Load 8) (i : Fin 8) :
    (a.pass2 v i).Spends budget := by
  unfold Alloc.pass2
  split
  · exact h
  · exact h
  · have hp := pairTake_le a.rest (a.top v 2) (a.top v 3)
    refine (h.give 2 (by omega)).give 3 ?_
    show _ ≤ a.rest - (pairTake a.rest (a.top v 2) (a.top v 3)).1
    omega
  · exact h
  · exact h.give 4 (Nat.min_le_right _ _)
  · exact h.give 5 (Nat.min_le_right _ _)
  · split
    · exact h.give 6 ‹_›
    · exact h
  · exact h

theorem Alloc.Spends.foldl {f : Alloc → Fin 8 → Alloc} {budget : Nat} (hf : ∀ a i, a.Spends budget → (f a i).Spends budget)
    (xs : List (Fin 8)) {a : Alloc} (h : a.Spends budget) : (xs.foldl f a).Spends budget := by
  induction xs generalizing a with
  | nil => exact h
  | cons i xs ih => exact ih (hf a i h)

/-- The grants are together within the budget (R181). -/
theorem grantsOf_sum_le (v : Vector Load 8) (budget : Nat) : (allLoads.map fun i => (grantsOf v budget)[i]).sum ≤ budget := by
  have start : ({ rest := budget, grants := Vector.replicate 8 0, eligible := Vector.replicate 8 true } : Alloc).Spends budget := by
    simp [Alloc.Spends, Alloc.total, allLoads]
  have h := Alloc.Spends.foldl (fun a i ha => ha.pass2 v i) (loadOrder v)
    (Alloc.Spends.foldl (fun a i ha => ha.pass1 v i) (loadOrder v) start)
  exact Nat.le_of_add_left_le h.le

theorem allocated_sum_le (v : Vector Load 8) (st : PowerState) (budget : Nat) : grantSum (allocated v st budget) ≤ budget := by
  simp only [grantSum, allocated_get, Load.granted]
  split
  · simp [allLoads]
  · exact grantsOf_sum_le v budget

/-! ### The invariant without the requests -/

/-- The figures of the power manager agree with each other and with the values handed out; that the requests are what their owners
want is not asked (R176 to R183). -/
structure State.PowerSettled (s : State) : Prop where
  states : ∀ i : Fin 8, s.pmg.loads[i].state = loadState s.pmg.loads[i].request s.pmg.loads[i].grant
  budget : s.pmg.budget = budgetOf s.pmg.cfg s.pmg.state
  within : grantSum s.pmg.loads ≤ s.pmg.budget
  none : s.pmg.state.grantsNone = true → (∀ i : Fin 8, s.pmg.loads[i].grant = 0) ∧ s.pmg.ceilings = ⟨0, 0⟩ ∧ s.auu.cap = 0
    ∧ s.pte.capHanded = 0 ∧ s.mou.sensorClass = .suspended
  ceilings : s.pmg.ceilings = ⟨derived s.pmg.state s.pmg.loads[2].grant (s.panel .a).written.fullPower 1023,
    derived s.pmg.state s.pmg.loads[3].grant (s.panel .b).written.fullPower 1023⟩
  cap : s.auu.cap = derived s.pmg.state s.pmg.loads[4].grant s.auu.ampPower 32768
  capHanded : s.pte.capHanded = derived s.pmg.state s.pmg.loads[5].grant s.pte.hapticPower 255
  sensorClass : s.mou.sensorClass = classOf s.pmg.state s.pmg.loads[6]

theorem State.powerConsistent_iff (s : State) :
    s.powerConsistent ↔ (∀ i : Fin 8, s.pmg.loads[i].request = s.wanted i) ∧ s.PowerSettled :=
  ⟨fun ⟨h1, h2, h3, h4, h5, h6, h7, h8, h9⟩ => ⟨h1, h2, h3, h4, h5, h6, h7, h8, h9⟩,
    fun ⟨h1, h2, h3, h4, h5, h6, h7, h8, h9⟩ => ⟨h1, h2, h3, h4, h5, h6, h7, h8, h9⟩⟩

/-- An allocation of the power state's budget makes the figures agree (R179 to R183). -/
theorem State.allocate_consistent {s : State} (h : s.pmg.budget = budgetOf s.pmg.cfg s.pmg.state) : s.allocate.powerConsistent := by
  obtain ⟨c, hp, ha, hq, hm⟩ := s.allocate_spec
  refine (State.powerConsistent_iff _).mpr ⟨s.allocate_request, ?_⟩
  constructor
  · intro i
    rw [hp]
    dsimp only
    rw [allocated_get]
    rfl
  · rw [hp]; exact h
  · rw [hp]; exact allocated_sum_le _ _ _
  · intro hn
    have hn' : s.pmg.state.grantsNone = true := by rw [hp] at hn; exact hn
    refine ⟨fun i => ?_, ?_, ?_, ?_, ?_⟩
    · rw [hp]
      dsimp only
      rw [allocated_get, if_pos hn']
      rfl
    · rw [hp]; simp [derived, hn']
    · rw [ha]; simp [derived, hn']
    · rw [hq]; simp [derived, hn']
    · rw [hm]; simp [classOf, hn']
  · rw [c.written .a, c.written .b, hp]
  · rw [ha, hp]
  · rw [hq, hp]
  · rw [hm, hp]

theorem State.budgetAndAllocate_consistent (s : State) : s.budgetAndAllocate.powerConsistent := State.allocate_consistent rfl

/-- Settled figures agree with the owners' requests too once the requests are brought up to date (R178). -/
theorem State.refreshLoads_consistent {s : State} (h : s.PowerSettled) : s.refreshLoads.powerConsistent := by
  unfold State.refreshLoads
  split
  · exact State.allocate_consistent h.budget
  · rename_i hn
    exact (State.powerConsistent_iff s).mpr ⟨s.requestChanged_iff.mp (by simpa using hn), h⟩

/-! ### What leaves the figures alone -/

/-- `t` follows `s` with the power manager's figures and what it has handed out kept. -/
structure HandedKept (s t : State) : Prop where
  cfg : t.pmg.cfg = s.pmg.cfg
  state : t.pmg.state = s.pmg.state
  budget : t.pmg.budget = s.pmg.budget
  loads : t.pmg.loads = s.pmg.loads
  ceilings : t.pmg.ceilings = s.pmg.ceilings
  cap : t.auu.cap = s.auu.cap
  capHanded : t.pte.capHanded = s.pte.capHanded
  sensorClass : t.mou.sensorClass = s.mou.sensorClass

/-- The same with the powers that the derived values are formed with kept too (R182). -/
structure PowerKept (s t : State) : Prop extends HandedKept s t where
  powers : t.powers = s.powers

/-- The same with everything kept that the owners' requests depend on (R178). -/
structure OwnersKept (s t : State) : Prop extends HandedKept s t where
  written : ∀ p, (t.panel p).written = (s.panel p).written
  inForce : ∀ p, (t.panel p).inForce = (s.panel p).inForce
  stopped : t.auu.state = .stopped ↔ s.auu.state = .stopped
  ampPower : t.auu.ampPower = s.auu.ampPower
  playing : t.pte.chanH.isSome = s.pte.chanH.isSome
  hapticPower : t.pte.hapticPower = s.pte.hapticPower
  cfgs : ∀ e : Fin 8, t.mou.poll[e].cfg = s.mou.poll[e].cfg
  sensorPower : t.mou.sensorPower = s.mou.sensorPower

section

variable {s t u : State}

theorem HandedKept.refl : HandedKept s s := ⟨rfl, rfl, rfl, rfl, rfl, rfl, rfl, rfl⟩

theorem HandedKept.trans (h : HandedKept s t) (k : HandedKept t u) : HandedKept s u :=
  ⟨k.cfg.trans h.cfg, k.state.trans h.state, k.budget.trans h.budget, k.loads.trans h.loads, k.ceilings.trans h.ceilings,
    k.cap.trans h.cap, k.capHanded.trans h.capHanded, k.sensorClass.trans h.sensorClass⟩

theorem HandedKept.budgeted (h : HandedKept s t) (hb : s.pmg.budget = budgetOf s.pmg.cfg s.pmg.state) :
    t.pmg.budget = budgetOf t.pmg.cfg t.pmg.state := by rw [h.budget, h.cfg, h.state]; exact hb

/-- The four powers, one by one. -/
theorem State.powers_eq_iff : t.powers = s.powers ↔ (t.panel .a).written.fullPower = (s.panel .a).written.fullPower
    ∧ (t.panel .b).written.fullPower = (s.panel .b).written.fullPower ∧ t.auu.ampPower = s.auu.ampPower
    ∧ t.pte.hapticPower = s.pte.hapticPower := by simp [State.powers]

theorem PowerKept.settled (k : PowerKept s t) (h : s.PowerSettled) : t.PowerSettled := by
  obtain ⟨pa, pb, pm, ph⟩ := State.powers_eq_iff.mp k.powers
  obtain ⟨h1, h2, h3, h4, h5, h6, h7, h8⟩ := h
  constructor
  · rw [k.loads]; exact h1
  · exact k.budgeted h2
  · rw [k.loads, k.budget]; exact h3
  · rw [k.state, k.loads, k.ceilings, k.cap, k.capHanded, k.sensorClass]; exact h4
  · rw [k.ceilings, k.state, k.loads, pa, pb]; exact h5
  · rw [k.cap, k.state, k.loads, pm]; exact h6
  · rw [k.capHanded, k.state, k.loads, ph]; exact h7
  · rw [k.sensorClass, k.state, k.loads]; exact h8

theorem OwnersKept.powerKept (k : OwnersKept s t) : PowerKept s t :=
  ⟨k.toHandedKept, State.powers_eq_iff.mpr ⟨by rw [k.written], by rw [k.written], k.ampPower, k.hapticPower⟩⟩

theorem OwnersKept.anyEnabled (k : OwnersKept s t) : t.mou.anyEnabled = s.mou.anyEnabled := by
  simp only [Mou.anyEnabled, k.cfgs]

theorem OwnersKept.wanted (k : OwnersKept s t) (i : Fin 8) : t.wanted i = s.wanted i := by
  unfold State.wanted
  split
  · simp only [panelRequest, k.written, k.inForce, k.loads]
  · simp only [panelRequest, k.written, k.inForce, k.loads]
  · simp only [backlightRequest, k.written]
  · simp only [backlightRequest, k.written]
  · simp only [k.stopped, k.ampPower]
  · simp only [k.playing, k.hapticPower]
  · simp only [k.anyEnabled, k.sensorPower]
  · simp only [k.loads]

/-- The figures and the owners' requests go on agreeing. -/
theorem OwnersKept.consistent (k : OwnersKept s t) (h : s.powerConsistent) : t.powerConsistent := by
  rw [State.powerConsistent_iff] at h ⊢
  exact ⟨fun i => by rw [k.loads, k.wanted]; exact h.1 i, k.powerKept.settled h.2⟩

/-- Requests brought up to date after a change that leaves the figures and the powers alone. -/
theorem PowerKept.refreshed (k : PowerKept s t) (h : s.powerConsistent) : t.refreshLoads.powerConsistent :=
  State.refreshLoads_consistent (k.settled ((State.powerConsistent_iff s).mp h).2)

theorem OwnersKept.refl : OwnersKept s s := ⟨.refl, fun _ => rfl, fun _ => rfl, .rfl, rfl, rfl, rfl, fun _ => rfl, rfl⟩

/-- A change of the panels' other values, the blocks of the requests' other owners left alone. -/
theorem OwnersKept.of_panels {bs : List Part} (k : PanelsKept s t) (w : Within bs s t) (h1 : Part.pmg ∉ bs) (h2 : Part.auu ∉ bs)
    (h3 : Part.pte ∉ bs) (h4 : Part.mou ∉ bs) : OwnersKept s t := by
  have e1 := w.pmg.resolve_left h1
  have e2 := w.auu.resolve_left h2
  have e3 := w.pte.resolve_left h3
  have e4 := w.mou.resolve_left h4
  exact ⟨⟨by rw [e1], by rw [e1], by rw [e1], by rw [e1], by rw [e1], by rw [e2], by rw [e3], by rw [e4]⟩, k.written, k.inForce,
    by rw [e2], by rw [e2], by rw [e3], by rw [e3], fun e => by rw [e4], by rw [e4]⟩

theorem OwnersKept.of_within {bs : List Part} (w : Within bs s t) (h0 : Part.pxp ∉ bs) (h1 : Part.pmg ∉ bs) (h2 : Part.auu ∉ bs)
    (h3 : Part.pte ∉ bs) (h4 : Part.mou ∉ bs) : OwnersKept s t := .of_panels (.of_within w h0) w h1 h2 h3 h4

theorem OwnersKept.of_sensors (w : SensorWork s t) : OwnersKept s t := by
  have e0 := w.within.pxp.resolve_left (by decide)
  have e1 := w.within.pmg.resolve_left (by decide)
  have e2 := w.within.auu.resolve_left (by decide)
  have e3 := w.within.pte.resolve_left (by decide)
  exact ⟨⟨by rw [e1], by rw [e1], by rw [e1], by rw [e1], by rw [e1], by rw [e2], by rw [e3], w.mou.sensorClass⟩,
    fun p => by rw [State.panel, e0]; rfl, fun p => by rw [State.panel, e0]; rfl, by rw [e2], by rw [e2], by rw [e3], by rw [e3],
    w.mou.cfg, w.mou.sensorPower⟩

/-- The audio unit's work leaves the powers; whether audio is stopped is asked apart. -/
theorem PowerKept.of_audio (w : AudioWork s t) : PowerKept s t := by
  have e0 := w.within.pxp.resolve_left (by decide)
  have e1 := w.within.pmg.resolve_left (by decide)
  have e3 := w.within.pte.resolve_left (by decide)
  have e4 := w.within.mou.resolve_left (by decide)
  have ep : ∀ p, t.panel p = s.panel p := fun p => by rw [State.panel, e0]; rfl
  exact ⟨⟨by rw [e1], by rw [e1], by rw [e1], by rw [e1], by rw [e1], w.auu.cap, by rw [e3], by rw [e4]⟩,
    State.powers_eq_iff.mpr ⟨by rw [ep], by rw [ep], w.auu.ampPower, by rw [e3]⟩⟩

theorem OwnersKept.of_audio (w : AudioWork s t) (h : t.auu.state = .stopped ↔ s.auu.state = .stopped) : OwnersKept s t := by
  have e0 := w.within.pxp.resolve_left (by decide)
  have e3 := w.within.pte.resolve_left (by decide)
  have e4 := w.within.mou.resolve_left (by decide)
  exact ⟨(PowerKept.of_audio w).toHandedKept, fun p => by rw [State.panel, e0]; rfl, fun p => by rw [State.panel, e0]; rfl, h,
    w.auu.ampPower, by rw [e3], by rw [e3], fun e => by rw [e4], by rw [e4]⟩

theorem OwnersKept.onPte (f : Pte → Pte) (h1 : (f s.pte).capHanded = s.pte.capHanded)
    (h2 : (f s.pte).chanH.isSome = s.pte.chanH.isSome) (h3 : (f s.pte).hapticPower = s.pte.hapticPower) :
    OwnersKept s (s.onPte f) :=
  ⟨⟨rfl, rfl, rfl, rfl, rfl, rfl, h1, rfl⟩, fun _ => rfl, fun _ => rfl, .rfl, rfl, h2, h3, fun _ => rfl, rfl⟩

theorem OwnersKept.onPmg (f : Pmg → Pmg) (h : Pmg.Counted s.pmg (f s.pmg)) : OwnersKept s (s.onPmg f) :=
  ⟨⟨h.cfg, h.state, h.budget, h.loads, h.ceilings, rfl, rfl, rfl⟩, fun _ => rfl, fun _ => rfl, .rfl, rfl, rfl, rfl, fun _ => rfl, rfl⟩

theorem OwnersKept.raise (k : EventKind) (d : List Byte) : OwnersKept s (s.raise k d) := .of_sensors (.raise k d)

end

end Sys2Proof.Machine
end

section
/-! The power manager's figures agree over every act of a step (R176 to R183). -/

namespace Sys2Proof.Machine

open Sys2Proof

variable {s t u : State}

theorem PowerKept.refl : PowerKept s s := ⟨.refl, rfl⟩

theorem PowerKept.trans (h : PowerKept s t) (k : PowerKept t u) : PowerKept s u :=
  ⟨h.toHandedKept.trans k.toHandedKept, k.powers.trans h.powers⟩

theorem OwnersKept.trans (h : OwnersKept s t) (k : OwnersKept t u) : OwnersKept s u :=
  ⟨h.toHandedKept.trans k.toHandedKept, fun p => (k.written p).trans (h.written p), fun p => (k.inForce p).trans (h.inForce p),
    k.stopped.trans h.stopped, k.ampPower.trans h.ampPower, k.playing.trans h.playing, k.hapticPower.trans h.hapticPower,
    fun e => (k.cfgs e).trans (h.cfgs e), k.sensorPower.trans h.sensorPower⟩

/-- A relation that holds of each step of a fold holds of the fold. -/
theorem foldl_related {α : Type} {R : State → State → Prop} (hr : ∀ s, R s s) (ht : ∀ s t u, R s t → R t u → R s u)
    {f : State → α → State} (h : ∀ s a, R s (f s a)) (xs : List α) (s : State) : R s (xs.foldl f s) := by
  induction xs generalizing s with
  | nil => exact hr s
  | cons x xs ih => exact ht _ _ _ (h s x) (ih _)

/-! ### Patterns -/

/-- A change of the pattern engine that keeps the cap handed and the haptic power. -/
theorem PowerKept.onPte (f : Pte → Pte) (h1 : (f s.pte).capHanded = s.pte.capHanded)
    (h2 : (f s.pte).hapticPower = s.pte.hapticPower) : PowerKept s (s.onPte f) :=
  ⟨⟨rfl, rfl, rfl, rfl, rfl, rfl, h1, rfl⟩, State.powers_eq_iff.mpr ⟨rfl, rfl, rfl, h2⟩⟩

theorem Pte.turned_kept (x : Pte) (c : Channel) (neg : Bool) (osc : Nat) : (x.turned c neg osc).capHanded = x.capHanded
    ∧ (x.turned c neg osc).hapticPower = x.hapticPower ∧ (x.turned c neg osc).chanH = x.chanH := by
  unfold Pte.turned
  split <;> exact ⟨rfl, rfl, rfl⟩

theorem Pte.setChan_kept (x : Pte) (c : Channel) (p : Option Pattern) :
    (x.setChan c p).capHanded = x.capHanded ∧ (x.setChan c p).hapticPower = x.hapticPower := by cases c <;> exact ⟨rfl, rfl⟩

/-- A channel that goes on playing. -/
theorem Pte.setChan_playing {x : Pte} {c : Channel} {p : Pattern} (hc : x.chan c = some p) (q : Pattern) :
    (x.setChan c (some q)).chanH.isSome = x.chanH.isSome := by
  cases c with
  | t => rfl
  | h => rw [show x.chanH = some p from hc]; rfl

theorem State.endPattern_power (s : State) (c : Channel) (r : EndReason) : PowerKept s (s.endPattern c r) := by
  unfold State.endPattern
  split
  · exact .refl
  · exact (PowerKept.onPte (fun x => x.endChan c r) (by cases c <;> rfl) (by cases c <;> rfl)).trans
      (OwnersKept.raise _ _).powerKept

theorem State.patternStep_power (s : State) (c : Channel) (p : Pattern) : PowerKept s (s.patternStep c p) := by
  unfold State.patternStep
  split
  · exact s.endPattern_power _ _
  · split
    · exact s.endPattern_power _ _
    · refine .onPte _ ?_ ?_
      · exact (Pte.turned_kept _ _ _ _).1.trans (Pte.setChan_kept _ _ _).1
      · exact (Pte.turned_kept _ _ _ _).2.1.trans (Pte.setChan_kept _ _ _).2

theorem Pte.play_kept (x : Pte) (c : Channel) (n : Fin 48) (p b : Nat) (neg : Bool) (osc : Nat) :
    (x.play c n p b neg osc).capHanded = x.capHanded ∧ (x.play c n p b neg osc).hapticPower = x.hapticPower := by
  cases c with
  | t => exact ⟨rfl, rfl⟩
  | h => exact ⟨(Pte.turned_kept _ _ _ _).1, (Pte.turned_kept _ _ _ _).2.1⟩

/-! ### The power state -/

theorem State.powerTo_consistent (h : s.powerConsistent) (new : PowerState) (c : PowerCause) : (s.powerTo new c).powerConsistent := by
  unfold State.powerTo
  split
  · exact h
  · exact State.budgetAndAllocate_consistent _

theorem powerConsistent_keptByMeasure : KeptByMeasure State.powerConsistent where
  counts _ f hc h := (OwnersKept.onPmg f hc).consistent h
  powerTo _ new c h := State.powerTo_consistent h new c

theorem State.sense_consistent (h : s.powerConsistent) (mv ma : Nat) : (s.onPmg fun p => p.sense mv ma).powerConsistent :=
  OwnersKept.consistent (t := s.onPmg fun p => p.sense mv ma) ⟨⟨rfl, rfl, rfl, rfl, rfl, rfl, rfl, rfl⟩, fun _ => rfl, fun _ => rfl,
    .rfl, rfl, rfl, rfl, fun _ => rfl, rfl⟩ h

/-! ### Stores -/

theorem State.storePoll_handed (s : State) (i : Fin 8) (c : PollCfg) : PowerKept s (s.storePoll i c) := by
  have h : PowerKept s (s.onPoll i fun p => p.store c s.osc s.classFactor) := ⟨⟨rfl, rfl, rfl, rfl, rfl, rfl, rfl, rfl⟩, rfl⟩
  simp only [State.storePoll]
  split
  · exact h.trans (OwnersKept.of_sensors (State.unqueue_work _ _)).powerKept
  · split
    · exact h.trans (OwnersKept.of_sensors (State.moveQueued_work _ _ _)).powerKept
    · exact h

theorem Pte.store_capHanded (x : Pte) (e : EntryValues) : (x.store e).capHanded = x.capHanded := by
  simp only [Pte.store]
  split <;> rfl

/-- A store of any table but POWER and LOADS leaves the figures of the power manager (R174, R177). -/
theorem State.storeEntry_handed (s : State) {t : Table} (ht : t ≠ .power) (hl : t ≠ .loads) (e : EntryValues) :
    HandedKept s (s.storeEntry t e) := by
  cases t
  case power => exact absurd rfl ht
  case loads => exact absurd rfl hl
  case poll => exact (s.storePoll_handed _ _).toHandedKept
  case audio => exact ⟨rfl, rfl, rfl, rfl, rfl, (s.auu.store_kept e).2.2.2.2, rfl, rfl⟩
  case pattern => exact ⟨rfl, rfl, rfl, rfl, rfl, rfl, s.pte.store_capHanded e, rfl⟩
  all_goals exact ⟨rfl, rfl, rfl, rfl, rfl, rfl, rfl, rfl⟩

/-- The tables whose store changes no power and no owner's request. -/
def Table.powerless : Table → Bool
  | .panel => false
  | .poll => false
  | .motion => false
  | .audio => false
  | .pattern => false
  | .loads => false
  | .power => false
  | _ => true

theorem State.storeEntry_owners (s : State) {t : Table} (h : t.powerless = true) (e : EntryValues) :
    OwnersKept s (s.storeEntry t e) := by
  cases t <;> simp only [Table.powerless, Bool.false_eq_true] at h
  all_goals exact ⟨⟨rfl, rfl, rfl, rfl, rfl, rfl, rfl, rfl⟩, fun _ => rfl, fun _ => rfl, .rfl, rfl, rfl, rfl, fun _ => rfl, rfl⟩

/-- A store of a table that names a power: an allocation forms the derived values afresh where a power changed (R182). -/
theorem State.reallocate_consistent {s t : State} (h : s.powerConsistent) (k : HandedKept s t) : (t.reallocate s.powers).powerConsistent := by
  have hs := ((State.powerConsistent_iff s).mp h).2
  unfold State.reallocate
  split
  · exact State.refreshLoads_consistent (PowerKept.settled ⟨k, ‹_›⟩ hs)
  · exact State.allocate_consistent (k.budgeted hs.budget)

theorem State.storeLoads_budgeted (es : List EntryValues) (hb : s.pmg.budget = budgetOf s.pmg.cfg s.pmg.state) :
    let t := es.foldl (fun s e => s.storeEntry .loads e) s
    t.pmg.budget = budgetOf t.pmg.cfg t.pmg.state := by
  induction es generalizing s with
  | nil => exact hb
  | cons e es ih =>
    refine ih ?_
    simp only [State.storeEntry, State.onPmg_pmg, Pmg.storeLoad]
    split_ifs <;> exact hb

theorem State.storePower_fold (h : s.powerConsistent) (es : List EntryValues) :
    (es.foldl (fun s e => s.storeEntry .power e) s).powerConsistent := by
  induction es generalizing s with
  | nil => exact h
  | cons e es ih => exact ih (State.budgetAndAllocate_consistent _)

theorem State.store_consistent (h : s.powerConsistent) (t : Table) (es : List EntryValues) : (s.store t es).powerConsistent := by
  have hs := ((State.powerConsistent_iff s).mp h).2
  have handed : ∀ {t : Table}, t ≠ .power → t ≠ .loads → HandedKept s (es.foldl (fun s e => s.storeEntry t e) s) := fun hp hl =>
    foldl_related (fun _ => .refl) (fun _ _ _ h k => h.trans k) (fun s e => s.storeEntry_handed hp hl e) es s
  have owners : ∀ {t : Table}, t.powerless = true → (es.foldl (fun s e => s.storeEntry t e) s).powerConsistent := fun ht =>
    (foldl_related (fun _ => .refl) (fun _ _ _ h k => h.trans k) (fun s e => s.storeEntry_owners ht e) es s :
      OwnersKept s _).consistent h
  have motion : PowerKept s (es.foldl (fun s e => s.storeEntry .motion e) s) :=
    foldl_related (fun _ => .refl) (fun _ _ _ h k => h.trans k) (fun s e => ⟨s.storeEntry_handed (by decide) (by decide) e, rfl⟩) es s
  unfold State.store State.afterStore
  cases t
  case panel => exact State.reallocate_consistent h (handed (by decide) (by decide))
  case audio => exact State.reallocate_consistent h (handed (by decide) (by decide))
  case pattern => exact State.reallocate_consistent h (handed (by decide) (by decide))
  case poll =>
    exact PowerKept.refreshed (foldl_related (fun _ => .refl) (fun _ _ _ h k => h.trans k)
      (fun s e => s.storePoll_handed _ _) es s) h
  case motion => exact (OwnersKept.of_sensors (State.judgeBatch_work _)).consistent (motion.refreshed h)
  case loads => exact State.allocate_consistent (State.storeLoads_budgeted es hs.budget)
  case power => exact State.storePower_fold h es
  all_goals exact owners rfl

/-! ### Requests -/

/-- The figures with other shed counters: no rule of the power manager reads them. -/
theorem State.shedCounts_consistent {v : Vector Load 8} (load : ∀ j : Fin 8, ∃ n, v[j] = { s.pmg.loads[j] with sheds := n })
    (h : s.powerConsistent) : ({ s with pmg := { s.pmg with loads := v } } : State).powerConsistent := by
  have grant : ∀ j : Fin 8, v[j].grant = s.pmg.loads[j].grant := fun j => by
    obtain ⟨n, hn⟩ := load j; rw [hn]
  have floor : ∀ j : Fin 8, v[j].floor = s.pmg.loads[j].floor := fun j => by
    obtain ⟨n, hn⟩ := load j; rw [hn]
  have switch : ∀ j : Fin 8, v[j].switch = s.pmg.loads[j].switch := fun j => by
    obtain ⟨n, hn⟩ := load j; rw [hn]
  have request : ∀ j : Fin 8, v[j].request = s.pmg.loads[j].request := fun j => by
    obtain ⟨n, hn⟩ := load j; rw [hn]
  have wanted : ∀ j : Fin 8, ({ s with pmg := { s.pmg with loads := v } } : State).wanted j = s.wanted j := fun j =>
    State.wanted_congr j (fun _ => rfl) (fun _ => rfl) rfl rfl rfl rfl rfl rfl floor (switch 7)
  obtain ⟨hr, h1, h2, h3, h4, h5, hc, hh, hk⟩ := (State.powerConsistent_iff s).mp h
  refine (State.powerConsistent_iff _).mpr ⟨fun j => ?_, fun j => ?_, h2, ?_, fun hn => ⟨fun j => ?_, (h4 hn).2⟩, ?_, ?_, ?_, ?_⟩
  · rw [wanted]
    exact (request j).trans (hr j)
  · have hj := h1 j
    obtain ⟨n, hn⟩ := load j
    show v[j].state = loadState v[j].request v[j].grant
    rw [hn]
    exact hj
  · have he : grantSum v = grantSum s.pmg.loads := by simp only [grantSum, grant]
    exact he.le.trans h3
  · exact (grant j).trans ((h4 hn).1 j)
  · exact h5.trans (congrArg₂ (fun g k => Duo.mk (derived _ g _ _) (derived _ k _ _)) (grant 2).symm (grant 3).symm)
  · exact hc.trans (congrArg (fun g => derived _ g _ _) (grant 4).symm)
  · exact hh.trans (congrArg (fun g => derived _ g _ _) (grant 5).symm)
  · obtain ⟨n, hn⟩ := load 6
    exact hk.trans (congrArg (classOf _) (show v[6] = _ from hn)).symm

/-- The figures with the shed counter of a load at 0. -/
theorem State.clearLoads_consistent (h : s.powerConsistent) (i : Fin 8) : (s.onPmg fun p =>
    { p with loads := tabMod p.loads i fun l => { l with sheds := 0 } }).powerConsistent := by
  refine State.shedCounts_consistent (fun j => ?_) h
  by_cases hj : i = j
  · subst hj
    exact ⟨0, tabMod_same _ _ _⟩
  · exact ⟨_, tabMod_other _ _ hj⟩

theorem State.clearEntries_consistent (h : s.powerConsistent) (t : Table) (n i : Nat) : (s.clearEntries t n i).powerConsistent := by
  have keep : ∀ {u v : State}, u.powerConsistent → OwnersKept u v → v.powerConsistent := fun h k => k.consistent h
  have one : ∀ (u : State) i, u.powerConsistent → (u.clearEntry t i).powerConsistent := by
    intro u i hu
    cases t
    case loads => exact State.clearLoads_consistent hu _
    case panel =>
      exact keep hu (.of_panels (.onPanel _ PanelState.cleared rfl rfl .rfl) (u.onPanel_within _ _) (by decide) (by decide) (by decide)
        (by decide))
    case poll => exact keep hu (.of_sensors (.onPoll _ _ fun _ => rfl))
    all_goals exact keep hu ⟨⟨rfl, rfl, rfl, rfl, rfl, rfl, rfl, rfl⟩, fun _ => rfl, fun _ => rfl, .rfl, rfl, rfl, rfl, fun _ => rfl, rfl⟩
  induction n generalizing s i with
  | zero => exact h
  | succ n ih => exact ih (one s i h) _

theorem PowerKept.startPlay (s : State) (c : Channel) (n : Fin 48) (p b : Nat) : PowerKept s ((s.endPattern c .preempted).onPte fun x =>
    x.play c n p b s.pte.negative s.osc) :=
  (s.endPattern_power c .preempted).trans (.onPte _ (Pte.play_kept _ _ _ _ _ _ _).1 (Pte.play_kept _ _ _ _ _ _ _).2)

theorem Effect.power {op : Nat} (e : Effect op s t) (h : s.powerConsistent) : t.powerConsistent := by
  have keep : ∀ {v : State}, OwnersKept s v → v.powerConsistent := fun k => k.consistent h
  cases e with
  | none => exact h
  | store t es _ => exact State.store_consistent h t es
  | clear t n i => exact State.clearEntries_consistent h t n i
  | restart => exact keep (.of_within (s.onMrs_within _) (by decide) (by decide) (by decide) (by decide) (by decide))
  | busRecover b => exact keep (.of_sensors (s.busRecover_work b))
  | fifoFlush => exact keep ⟨⟨rfl, rfl, rfl, rfl, rfl, rfl, rfl, rfl⟩, fun _ => rfl, fun _ => rfl, .rfl, rfl, rfl, rfl, fun _ => rfl, rfl⟩
  | audioRestart => exact PowerKept.refreshed (s := s) ⟨⟨rfl, rfl, rfl, rfl, rfl, rfl, rfl, rfl⟩, rfl⟩ h
  | play c n p b => exact (PowerKept.startPlay s c n p b).refreshed h
  | stop c => exact (s.endPattern_power c .stopped).refreshed h
  | testStart => exact keep (.of_within (s.onLrx_within _) (by decide) (by decide) (by decide) (by decide) (by decide))
  | testStop => exact keep (.of_within (s.onLrx_within _) (by decide) (by decide) (by decide) (by decide) (by decide))

theorem State.request_consistent (h : s.powerConsistent) (op : Nat) (table : Byte) (r : Request) :
    (s.request op table r).powerConsistent :=
  State.request_keeps
    (fun u _ h => (OwnersKept.of_within (u.onMrs_within _) (by decide) (by decide) (by decide) (by decide) (by decide)).consistent h)
    (fun u _ h => (OwnersKept.of_within (u.placeReply_within _) (by decide) (by decide) (by decide) (by decide) (by decide)).consistent h)
    (fun _ _ _ h => (OwnersKept.raise _ _).consistent h) (fun _ _ h e => e.power h)
    (fun u r h => (OwnersKept.of_sensors (u.relayHandOver_work r)).consistent h) h table r

/-! ### Every act -/

theorem Auu.judgeFill_stopped (a : Auu) : a.judgeFill.state = .stopped ↔ a.state = .stopped := by
  unfold Auu.judgeFill
  split
  · rename_i h
    simp [h.1]
  · rfl

theorem State.period_stopped (s : State) : s.period.auu.state = .stopped ↔ s.auu.state = .stopped := by
  simp only [State.period]
  split
  · rename_i h
    replace h : s.auu.state = .playing := h
    split <;> simp [h, Auu.newPeriod]
  · rfl

theorem State.framed_power (s : State) : PowerKept s s.framed := by
  have w := s.framed_within
  have e1 := w.pmg.resolve_left (by decide)
  have e2 := w.auu.resolve_left (by decide)
  have e3 := w.pte.resolve_left (by decide)
  have e4 := w.mou.resolve_left (by decide)
  have k := s.framed_tables
  exact ⟨⟨by rw [e1], by rw [e1], by rw [e1], by rw [e1], by rw [e1], by rw [e2], by rw [e3], by rw [e4]⟩,
    State.powers_eq_iff.mpr ⟨by rw [k.written], by rw [k.written], by rw [e2], by rw [e3]⟩⟩

theorem State.reset_consistent : State.reset.powerConsistent := by
  obtain ⟨_, _, _, h, _⟩ := resetStateIsSafe
  exact h

theorem powerConsistent_reset {t : State} (h : OwnersKept State.reset t) : t.powerConsistent := h.consistent State.reset_consistent

theorem State.rebase_owners (s : State) (d : Int) : OwnersKept s (s.rebase d) := by
  have k := s.rebase_panels d
  exact ⟨⟨rfl, rfl, rfl, rfl, rfl, rfl, rfl, rfl⟩, k.written, k.inForce, .rfl, rfl, rfl, rfl, fun _ => rfl, rfl⟩

/-- A cell boundary leaves the power manager and what it is asked for (R22). -/
theorem State.pick_owners (s : State) : OwnersKept s s.pick := by
  have ltx : ∀ (u : State) f, OwnersKept u (u.onLtx f) := fun u f =>
    .of_within (u.onLtx_within f) (by decide) (by decide) (by decide) (by decide) (by decide)
  unfold State.pick
  split
  · exact ltx _ _
  · unfold State.pickQueued
    dsimp only
    refine (ltx s fun t => { t with fairness := s.fairnessAfter }).trans ?_
    split
    · exact ltx _ _
    · unfold State.sendNotice
      split
      · exact ⟨.refl, fun _ => rfl, fun _ => rfl, .rfl, rfl, rfl, rfl, fun _ => rfl, rfl⟩
      · rename_i n rest _
        exact (OwnersKept.of_within (State.onEvu_within _ fun e => { e with queue := rest }) (by decide) (by decide) (by decide)
          (by decide) (by decide)).trans (ltx _ _)
    · exact (ltx _ _).trans (.of_sensors (State.judgeBatch_work _))
    · exact ltx _ _
    · exact ltx _ _

/-- The figures agree, as one predicate that the rule over the acts can take. -/
def State.PowerAgrees (s : State) : Prop := s.powerConsistent

theorem powerAgrees_keptByActs : KeptByActs State.PowerAgrees where
  aside _ _ w h := (OwnersKept.of_within w (by decide) (by decide) (by decide) (by decide) (by decide)).consistent h
  work _ _ w h := (OwnersKept.of_sensors w).consistent h
  raise _ _ _ h := (OwnersKept.raise _ _).consistent h
  timer u f _ h := (OwnersKept.of_within (u.onFtm_within f) (by decide) (by decide) (by decide) (by decide) (by decide)).consistent h
  contexts u c h := OwnersKept.consistent (s := u)
    ⟨⟨rfl, rfl, rfl, rfl, rfl, rfl, rfl, rfl⟩, fun _ => rfl, fun _ => rfl, .rfl, rfl, rfl, rfl, fun _ => rfl, rfl⟩ h
  rebase u d h := (u.rebase_owners d).consistent h
  pictureCell u c h :=
    (OwnersKept.of_panels (u.pictureCell_panels c) (u.pictureCell_within c) (by decide) (by decide) (by decide) (by decide)).consistent h
  lineOut u p _ h :=
    (OwnersKept.of_panels (u.lineOut_panels p) (u.lineOut_within p) (by decide) (by decide) (by decide) (by decide)).consistent h
  beginStrobe u p hd h := (OwnersKept.of_panels (State.beginStrobe_panels hd) (u.beginStrobe_within p) (by decide) (by decide)
    (by decide) (by decide)).consistent h
  endStrobe u p hd h := (OwnersKept.of_panels (State.endStrobe_panels hd) (u.endStrobe_within p) (by decide) (by decide) (by decide)
    (by decide)).consistent h
  frameStart u h := by
    rw [State.PowerAgrees, State.frameStart_eq]
    exact u.framed_power.refreshed h
  audioCell u n l bs g h := (PowerKept.of_audio (u.audioCell_work n l bs g)).refreshed h
  request _ op table r h := State.request_consistent h op table r
  store _ t es h := State.store_consistent h t es
  loadEnd _ h := powerConsistent_keptByMeasure.loadEndPower h
  measure _ mv ma h := powerConsistent_keptByMeasure.measure mv ma (State.sense_consistent h mv ma)
  period u h := (OwnersKept.of_audio u.period_work u.period_stopped).consistent h
  output u h := (OwnersKept.of_audio (s := u) (.onAuu ⟨rfl, rfl, id, id⟩) .rfl).consistent h
  idleTimer u h := PowerKept.refreshed (s := u) ⟨⟨rfl, rfl, rfl, rfl, rfl, rfl, rfl, rfl⟩, rfl⟩ h
  micSample u x h := by
    refine OwnersKept.consistent (s := u) ?_ h
    simp only [State.micSample]
    split <;>
      exact ⟨⟨rfl, rfl, rfl, rfl, rfl, rfl, rfl, rfl⟩, fun _ => rfl, fun _ => rfl, .rfl, rfl, rfl, rfl, fun _ => rfl, rfl⟩
  stepEnd u c p _ h := (u.patternStep_power c p).refreshed h
  rise u c p hc h := (OwnersKept.onPte (s := u) (fun x => x.setChan c (some p.rise)) (Pte.setChan_kept _ _ _).1
    (Pte.setChan_playing hc _) (Pte.setChan_kept _ _ _).2).consistent h
  reverse u c p hc h := by
    refine (OwnersKept.onPte (s := u) _ ?_ ?_ ?_).consistent h <;> split
    · exact (Pte.setChan_kept _ _ _).1
    · exact (Pte.setChan_kept _ _ _).1
    · exact Pte.setChan_playing hc _
    · exact Pte.setChan_playing hc _
    · exact (Pte.setChan_kept _ _ _).2
    · exact (Pte.setChan_kept _ _ _).2
  carrier u h := by
    refine (OwnersKept.onPte (s := u) (fun x => x.carrier u.osc) ?_ ?_ ?_).consistent h <;> simp only [Pte.carrier] <;> split <;> rfl
  deadTimeEnd u h := (OwnersKept.onPte (s := u) (fun x => ({ x with deadEnd := none } : Pte).drive u.osc) rfl rfl rfl).consistent h
  onTimeEnd u h := (OwnersKept.onPte (s := u) (fun x => { x with hp := false, hn := false }) rfl rfl rfl).consistent h
  pick u h := u.pick_owners.consistent h
  restart u _ := powerConsistent_reset
    ⟨⟨rfl, rfl, rfl, rfl, rfl, rfl, rfl, rfl⟩, fun _ => rfl, fun _ => rfl, .rfl, rfl, rfl, rfl, fun _ => rfl, rfl⟩
  reset u _ := powerConsistent_reset
    ⟨⟨rfl, rfl, rfl, rfl, rfl, rfl, rfl, rfl⟩, fun _ => rfl, fun _ => rfl, .rfl, rfl, rfl, rfl, fun _ => rfl, rfl⟩

/-- Settles O57, over every act of a step. -/
theorem stepKeepsPowerConsistent : Obligations.StepKeepsPowerConsistent := fun _ _ h hs =>
  powerAgrees_keptByActs.step h (fun _ _ h => h) hs

end Sys2Proof.Machine
end

section
/-! The line rings stay in their slots and their window over every act of a step (R88 to R92). -/

namespace Sys2Proof.Machine

open Sys2Proof

/-! ### One ring -/

/-- A panel's ring with scan frame `F`: empty without a scan, and else lines of the window, each in a position of its own. -/
def PanelState.RingFits (F : Option FrameNo) (x : PanelState) : Prop :=
  (x.scan = .off ∨ F = none → x.ring = []) ∧ x.ring.length ≤ ringSlots
    ∧ ∀ G, F = some G →
      (∀ r ∈ x.ring, (r.frame - G).toNat ≤ 1 ∧ x.pos ≤ linePos G r.frame x.inForce.height r.line + 16
          ∧ linePos G r.frame x.inForce.height r.line ≤ x.pos + 79)
        ∧ x.ring.Pairwise fun q r => linePos G q.frame x.inForce.height q.line ≠ linePos G r.frame x.inForce.height r.line

namespace PanelState.RingFits

variable {F : Option FrameNo} {x y : PanelState}

theorem congr (h : x.RingFits F) (hr : y.ring = x.ring) (hp : y.pos = x.pos) (hi : y.inForce = x.inForce)
    (hs : y.scan = .off → x.scan = .off) : y.RingFits F := by
  obtain ⟨h1, h2, h3⟩ := h
  refine ⟨fun hn => hr.trans (h1 (hn.imp_left hs)), hr ▸ h2, ?_⟩
  rw [hr, hp, hi]
  exact h3

theorem of_empty (h : x.ring = []) : x.RingFits F :=
  ⟨fun _ => h, by rw [h]; exact Nat.zero_le _, fun _ _ => by rw [h]; exact ⟨fun _ hr => (List.not_mem_nil hr).elim, .nil⟩⟩

/-- Distinct positions of a window of 96 are at most 96. -/
theorem length_le {α : Type} {f : α → Nat} {xs : List α} {p : Nat} (hw : ∀ r ∈ xs, p ≤ f r + 16 ∧ f r ≤ p + 79)
    (hd : xs.Pairwise fun q r => f q ≠ f r) : xs.length ≤ ringSlots := by
  have nodup : (xs.map fun r => f r + 16).Nodup :=
    List.pairwise_map.mpr (hd.imp fun h e => h (Nat.add_right_cancel e))
  have sub : (xs.map fun r => f r + 16).toFinset ⊆ Finset.Ico p (p + 96) := by
    intro n hn
    obtain ⟨r, hr, rfl⟩ := List.mem_map.mp (List.mem_toFinset.mp hn)
    have := hw r hr
    exact Finset.mem_Ico.mpr ⟨this.1, by omega⟩
  have card := Finset.card_le_card sub
  rw [List.toFinset_card_of_nodup nodup, List.length_map, Nat.card_Ico] at card
  unfold ringSlots
  omega

/-- A ring with some of its lines gone, its window moved up or not. -/
theorem shrink (h : x.RingFits F) (hr : y.ring.Sublist x.ring) (hi : y.inForce = x.inForce) (hs : y.scan = .off → x.scan = .off)
    (hp : x.pos ≤ y.pos) (hlow : ∀ G, F = some G → ∀ r ∈ y.ring, y.pos ≤ linePos G r.frame x.inForce.height r.line + 16) :
    y.RingFits F := by
  obtain ⟨h1, h2, h3⟩ := h
  refine ⟨fun hn => ?_, hr.length_le.trans h2, fun G hG => ?_⟩
  · have he := h1 (hn.imp_left hs)
    rw [he] at hr
    exact List.sublist_nil.mp hr
  · obtain ⟨hw, hd⟩ := h3 G hG
    rw [hi]
    refine ⟨fun r hm => ?_, hd.sublist hr⟩
    obtain ⟨h4, -, h6⟩ := hw r (hr.subset hm)
    exact ⟨h4, hlow G hG r hm, h6.trans (Nat.add_le_add_right hp _)⟩

theorem moveTo (h : x.RingFits F) {n : Nat} (hn : x.pos ≤ n) : (x.moveTo F n).RingFits F := by
  refine h.shrink ?_ rfl id hn fun G hG r hm => ?_
  · unfold PanelState.moveTo
    split
    · exact List.filter_sublist
    · exact .refl _
  · subst hG
    exact of_decide_eq_true (List.mem_filter.mp hm).2

/-- A line taken into its slot replaces the one line that has that slot, so that the positions stay distinct (R90). -/
theorem place {G : FrameNo} {l : RingLine} (h : x.RingFits (some G)) (hs : x.scan ≠ .off) (hf : (l.frame - G).toNat ≤ 1)
    (hlo : x.pos ≤ linePos G l.frame x.inForce.height l.line + 16)
    (hhi : linePos G l.frame x.inForce.height l.line ≤ x.pos + 79) :
    ({ x with ring := placeLine G x.inForce.height l x.ring } : PanelState).RingFits (some G) := by
  obtain ⟨-, -, h3⟩ := h
  obtain ⟨hw, hd⟩ := h3 G rfl
  have window : ∀ r ∈ placeLine G x.inForce.height l x.ring, (r.frame - G).toNat ≤ 1
      ∧ x.pos ≤ linePos G r.frame x.inForce.height r.line + 16 ∧ linePos G r.frame x.inForce.height r.line ≤ x.pos + 79 := by
    intro r hr
    rcases List.mem_append.mp hr with hr | hr
    · exact hw r (List.mem_of_mem_filter hr)
    · obtain rfl := List.mem_singleton.mp hr
      exact ⟨hf, hlo, hhi⟩
  have distinct : (placeLine G x.inForce.height l x.ring).Pairwise fun q r =>
      linePos G q.frame x.inForce.height q.line ≠ linePos G r.frame x.inForce.height r.line := by
    refine List.pairwise_append.mpr ⟨hd.sublist List.filter_sublist, List.pairwise_singleton _ _, fun q hq r hr => ?_⟩
    obtain rfl := List.mem_singleton.mp hr
    have hslot : ringSlot G x.inForce.height q ≠ ringSlot G x.inForce.height r := of_decide_eq_true (List.mem_filter.mp hq).2
    exact fun e => hslot (congrArg (· % ringSlots) e)
  refine ⟨fun hn => (hn.elim hs nofun).elim, length_le (fun r hr => (window r hr).2) distinct, fun G' hG => ?_⟩
  obtain rfl := Option.some.inj hG
  exact ⟨window, distinct⟩

theorem offer (h : x.RingFits F) (l : RingLine) : (x.offer F l).RingFits F := by
  unfold PanelState.offer
  split
  · exact h.congr rfl rfl rfl id
  · exact h.congr rfl rfl rfl id
  · exact h.congr rfl rfl rfl id
  · rename_i hj
    cases F with
    | none => simp [judgeLine] at hj
    | some G =>
      simp only [judgeLine] at hj
      split_ifs at hj with hs hf hlo hhi
      exact h.place hs hf (Nat.le_of_not_lt hlo) (Nat.le_of_not_lt hhi)

end PanelState.RingFits

/-- Lines of a ring that are no two of one frame and number, as any sound ring's. -/
def PanelState.RingDistinct (x : PanelState) : Prop :=
  x.ring.length ≤ ringSlots ∧ x.ring.Pairwise fun q r => q.frame = r.frame → q.line ≠ r.line

theorem PanelState.RingFits.distinct {F : Option FrameNo} {x : PanelState} (h : x.RingFits F) : x.RingDistinct := by
  obtain ⟨h1, h2, h3⟩ := h
  refine ⟨h2, ?_⟩
  cases F with
  | none => rw [h1 (.inr rfl)]; exact .nil
  | some G => exact (h3 G rfl).2.imp fun h hf hl => h (by rw [hf, hl])

theorem PanelState.RingDistinct.sublist {x y : PanelState} (h : x.RingDistinct) (hr : y.ring.Sublist x.ring) : y.RingDistinct :=
  ⟨hr.length_le.trans h.1, h.2.sublist hr⟩

/-- A ring re-based to a new scan frame fits it at pos 0 (R92). -/
theorem PanelState.RingDistinct.rebase {x y : PanelState} (h : x.RingDistinct) (F : FrameNo) (hs : y.scan ≠ .off) (hp : y.pos = 0)
    (hr : y.ring = x.ring.filter fun r => decide (r.frame = F ∧ r.line ≤ lastFirstLine)) : y.RingFits (some F) := by
  have hf : ∀ r ∈ y.ring, r.frame = F ∧ r.line ≤ 79 := fun r hm => by
    rw [hr] at hm
    exact of_decide_eq_true (List.mem_filter.mp hm).2
  have hsub : y.ring.Sublist x.ring := hr ▸ List.filter_sublist
  have line : ∀ r ∈ y.ring, linePos F r.frame y.inForce.height r.line = r.line := fun r hm => by
    simp [linePos, (hf r hm).1]
  refine ⟨fun hn => (hn.elim hs nofun).elim, hsub.length_le.trans h.1, fun G hG => ?_⟩
  obtain rfl := Option.some.inj hG
  refine ⟨fun r hm => ?_, ?_⟩
  · rw [line r hm, hp, (hf r hm).1]
    simp [(hf r hm).2]
  · refine (h.2.sublist hsub).imp_of_mem fun {q r} hq hm hne => ?_
    rw [line q hq, line r hm]
    exact hne ((hf q hq).1.trans (hf r hm).1.symm)

/-! ### Both rings -/

/-- Both rings fit the scan frame. -/
def State.RingsFit (s : State) : Prop := ∀ p, (s.panel p).RingFits s.ftm.scanFrame

theorem State.ringsSound_iff (s : State) : s.ringsSound ↔ s.RingsFit :=
  ⟨fun ⟨ha, hb⟩ p => by cases p <;> assumption, fun h => ⟨h .a, h .b⟩⟩

namespace State.RingsFit

variable {s t : State}

theorem of_same (h : s.RingsFit) (hp : t.pxp.panels = s.pxp.panels) (hF : t.ftm.scanFrame = s.ftm.scanFrame) : t.RingsFit := by
  intro p
  rw [hF, State.panel, hp]
  exact h p

/-- A change outside the panels and the frame timer. -/
theorem of_within {bs : List Part} (w : Within bs s t) (h : s.RingsFit) (h1 : Part.pxp ∉ bs) (h2 : Part.ftm ∉ bs) : t.RingsFit :=
  h.of_same (by rw [w.pxp.resolve_left h1]) (by rw [w.ftm.resolve_left h2])

/-- A change of one panel; the other panel's ring fits as before. -/
theorem panel {p : Side} {f : PanelState → PanelState} (hp : (f (s.panel p)).RingFits s.ftm.scanFrame)
    (ho : ∀ q, q ≠ p → (s.panel q).RingFits s.ftm.scanFrame) : (s.onPanel p f).RingsFit := by
  intro q
  by_cases hq : q = p
  · subst hq; rw [State.panel_onPanel_same]; exact hp
  · rw [State.panel_onPanel_other _ _ hq]; exact ho q hq

theorem onPanel (h : s.RingsFit) (p : Side) (f : PanelState → PanelState)
    (hp : ∀ x : PanelState, x.RingFits s.ftm.scanFrame → (f x).RingFits s.ftm.scanFrame) : (s.onPanel p f).RingsFit :=
  panel (hp _ (h p)) fun q _ => h q

theorem tryComplete (h : s.RingsFit) (p : Side) : (s.tryComplete p).RingsFit :=
  h.of_same (by rw [(s.tryComplete_within p).pxp.resolve_left (by decide)]) (s.tryComplete_recorded p).scanFrame

theorem outputLine (h : s.RingsFit) (p : Side) {y : Nat} (hy : (s.panel p).pos ≤ y) : (s.outputLine p y).RingsFit := by
  have h1 : (s.onPanel p fun x => x.lineSent s.ftm.scanFrame y).RingsFit :=
    panel (((h p).moveTo hy).congr rfl rfl rfl id) fun q _ => h q
  exact h1.of_same (congrArg Pxp.panels (s.outputLine_pxp p y)) (s.outputLine_recorded p y).scanFrame

end State.RingsFit

theorem State.endScan_pxp (s : State) (p : Side) : (s.endScan p).pxp = s.pxp := (s.endScan_within p).pxp.resolve_left (by decide)

/-- A cut scan leaves the other panel alone (R97). -/
theorem State.cutScan_other (s : State) {p q : Side} (F : Option FrameNo) (h : q ≠ p) : (s.cutScan p F).panel q = s.panel q := by
  have hx : (s.cutScan p F).pxp = ((s.onPanel p fun x => { x with cutLines := satAdd x.cutLines (x.inForce.height - 1 - x.pos) }).onPanel
      p fun x => x.moveTo F x.inForce.height).pxp := State.endScan_pxp _ _
  rw [State.panel, hx]
  exact (State.panel_onPanel_other _ _ h).trans (State.panel_onPanel_other _ _ h)

/-! ### Power and pictures -/

theorem State.panelOff_rings {s : State} (h : s.RingsFit) (p : Side) : (s.panelOff p).RingsFit := by
  have empty : ∀ u : State, (∀ q, q ≠ p → (u.panel q).RingFits u.ftm.scanFrame) → ((u.onPanel p fun x =>
      { x with scan := .off, ring := [], lastLine := none, strobe := x.strobe.cleared }).tryComplete p).RingsFit := fun u ho =>
    (State.RingsFit.panel (.of_empty rfl) ho).tryComplete p
  simp only [State.panelOff]
  split
  · refine empty _ fun q hq => ?_
    rw [State.cutScan_other _ _ hq, (s.cutScan_recorded p _).scanFrame]
    exact h q
  · exact empty s fun q _ => h q

theorem ringsFit_keptByPower : KeptByPower State.RingsFit where
  pmg _ f _ h := h.of_within (State.onPmg_within _ f) (by decide) (by decide)
  cap _ _ _ h := h.of_within (State.onAuu_within _ _) (by decide) (by decide)
  pte _ f h := h.of_within (State.onPte_within _ f) (by decide) (by decide)
  raise u k d h := h.of_within (u.raise_within k d) (by decide) (by decide)
  handClass u c h := h.of_within (u.handClass_within c) (by decide) (by decide)
  panelOff _ p h := State.panelOff_rings h p
  panelWake u p h := by
    refine h.onPanel p _ fun x hx => ?_
    split
    · rename_i hw
      exact .of_empty (hx.1 (.inl hw.1))
    · exact hx
  holdStrobe u p h := State.RingsFit.tryComplete (h.onPanel p (fun x => { x with strobe := .held }) fun x hx => hx.congr rfl rfl rfl id) p
  releaseStrobe u p h := h.onPanel p _ fun x hx => by
    split
    · exact hx.congr rfl rfl rfl id
    · exact hx

theorem ringsFit_keptBySlices : KeptBySlices State.RingsFit where
  contexts _ _ h := h.of_same rfl rfl
  pose u n t h := h.of_same rfl rfl
  counted u p f hf h := h.onPanel p f fun x hx => by
    rw [hf x]
    exact hx.congr rfl rfl rfl id
  offered u p l h := h.onPanel p _ fun x hx => hx.offer l

theorem State.lineOut_rings {s : State} (h : s.RingsFit) (p : Side) : (s.lineOut p).RingsFit := by
  have h1 : (s.outputLine p ((s.panel p).pos + 1)).RingsFit := h.outputLine p (Nat.le_succ _)
  have hx : ((s.outputLine p ((s.panel p).pos + 1)).panel p) = (s.panel p).lineSent s.ftm.scanFrame ((s.panel p).pos + 1) := by
    rw [State.panel, s.outputLine_pxp]
    exact State.panel_onPanel_same _ _ _
  have hF := (s.outputLine_recorded p ((s.panel p).pos + 1)).scanFrame
  simp only [State.lineOut]
  split
  · rename_i hy
    refine State.RingsFit.tryComplete ?_ p
    generalize s.outputLine p ((s.panel p).pos + 1) = u at h1 hx hF
    have hm : (u.onPanel p fun x => x.moveTo u.ftm.scanFrame x.inForce.height).RingsFit := by
      refine State.RingsFit.panel ((h1 p).moveTo ?_) fun q _ => h1 q
      rw [hx]
      exact (Nat.le_succ _).trans hy.le
    have hc : (u.closeScan p u.ftm.scanFrame).RingsFit :=
      hm.of_same (by rw [State.closeScan, State.endScan_pxp]) (State.endScan_recorded _ p).scanFrame
    exact hc.onPanel p (fun x => { x with scan := .blank }) fun x hx => by
      by_cases he : x.scan = .off
      · exact .of_empty (hx.1 (.inl he))
      · exact hx.congr rfl rfl rfl nofun
  · exact h1

/-! ### A frame start -/

/-- Each panel's ring in `t` is that in `s` with some lines gone. -/
def RingsWithin (s t : State) : Prop := ∀ p, (t.panel p).ring.Sublist (s.panel p).ring

namespace RingsWithin

variable {s t u : State}

theorem of_panels (h : t.pxp.panels = s.pxp.panels) : RingsWithin s t := fun p => by rw [State.panel, h]; exact .refl _

theorem trans (h : RingsWithin s t) (k : RingsWithin t u) : RingsWithin s u := fun p => (k p).trans (h p)

theorem onPanel (s : State) (p : Side) (f : PanelState → PanelState) (hf : ∀ x, (f x).ring.Sublist x.ring) : RingsWithin s (s.onPanel p f) := by
  intro q
  by_cases hq : q = p
  · subst hq; rw [State.panel_onPanel_same]; exact hf _
  · rw [State.panel_onPanel_other _ _ hq]

theorem of_within {bs : List Part} (w : Within bs s t) (h : Part.pxp ∉ bs) : RingsWithin s t := of_panels (by rw [w.pxp.resolve_left h])

end RingsWithin

section
variable (s : State)

theorem State.cutAtStart_rings (p : Side) (F : Option FrameNo) : RingsWithin s (s.cutAtStart p F) := by
  have hm : ∀ (x : PanelState) n, (x.moveTo F n).ring.Sublist x.ring := by
    intro x n
    unfold PanelState.moveTo
    split
    · exact List.filter_sublist
    · exact .refl _
  unfold State.cutAtStart
  split
  · have close : ∀ u : State, RingsWithin u (u.closeScan p F) := fun u =>
      (RingsWithin.onPanel u p (fun x => x.moveTo F x.inForce.height) fun x => hm x _).trans
        (.of_panels (congrArg Pxp.panels (State.endScan_pxp _ p)))
    exact (RingsWithin.onPanel s p (fun x => { x with cutLines := satAdd x.cutLines (x.inForce.height - 1 - x.pos) }) fun x => .refl _).trans
      (RingsWithin.trans (.of_panels rfl) (close _))
  · exact .of_panels rfl

theorem State.panelInForce_rings (p : Side) : RingsWithin s (s.panelInForce p) := by
  simp only [State.panelInForce]
  split
  · exact (RingsWithin.onPanel s p (fun x => { x with inForce := x.written, ring := [] }) fun _ => List.nil_sublist _).trans (.of_panels rfl)
  · exact RingsWithin.onPanel s p (fun x => { x with inForce := x.written }) fun _ => .refl _

theorem State.sweepContext_rings (i : Fin 4) : RingsWithin s (s.sweepContext i) := by
  have count : ∀ u : State, ∀ t, RingsWithin u (u.countMalformed t) := by
    intro u t
    cases t with
    | one p => exact .onPanel u p _ fun _ => .refl _
    | both =>
      have one : ∀ v : State, ∀ p, RingsWithin v (v.onPanel p fun x => { x with malformedSlices := satInc x.malformedSlices }) :=
        fun v p => .onPanel v p _ fun _ => .refl _
      exact (one u .a).trans (one _ .b)
  unfold State.sweepContext
  split
  · split
    · exact .of_panels rfl
    · unfold State.abortCtx
      split
      · exact RingsWithin.trans (t := s.setCtx i none) (.of_panels rfl) (count _ _)
      · exact .of_panels rfl
  · exact .of_panels rfl

theorem State.sweepContexts_rings (xs : List (Fin 4)) : RingsWithin s (xs.foldl State.sweepContext s) :=
  foldl_related (fun _ => .of_panels rfl) (fun _ _ _ h k => h.trans k) (fun s i => s.sweepContext_rings i) xs s

theorem State.frameRecords_rings (old : Option FrameNo) : RingsWithin s (s.frameRecords old) :=
  ((((s.cutAtStart_rings _ _).trans (State.cutAtStart_rings _ _ _)).trans (.of_within (State.finishRecord_within _) (by decide))).trans
    (.of_within (State.lateEvaluate_within _) (by decide))).trans (.of_within (State.onFtm_within _ _) (by decide))

/-- The frame that starts is in force when the panels begin (R62). -/
theorem State.frameRecords_scanFrame (old : Option FrameNo) : (s.frameRecords old).ftm.scanFrame = s.ftm.scanFrame :=
  (s.recordsCut_moving old).scanFrame

/-- A panel at a frame start has its ring in the window of the new frame, with pos 0 where it scans (R81, R92, R94). -/
theorem State.panelStart_fits {F : FrameNo} (hF : s.ftm.scanFrame = some F) (p : Side) (old : Option FrameNo)
    (h : (s.panel p).RingDistinct) :
    let x := (s.panelStart p old).panel p
    x.RingFits (some F) ∧ (x.scan = .active → x.pos = 0) := by
  have hg : s.ftm.F = F := by rw [Ftm.F, hF]; rfl
  simp only [State.panelStart]
  rw [State.panel_onPanel_same]
  split
  · have key : ∀ (x : PanelState) c a b, (x.scheduleStrobe c a b).ring = x.ring ∧ (x.scheduleStrobe c a b).pos = x.pos
        ∧ (x.scheduleStrobe c a b).scan = x.scan := by
      intro x c a b
      unfold PanelState.scheduleStrobe
      dsimp only
      split_ifs <;> exact ⟨rfl, rfl, rfl⟩
    rw [PanelState.beginScan]
    obtain ⟨k1, k2, k3⟩ := key { { (s.panel p).rebase old s.ftm.F with strobe := (s.panel p).strobe.cleared } with
      scan := .active, pos := 0, scanStart := s.osc
      shift := (s.ftm.scanning.map fun r => r.shiftOr0 p).getD ⟨0, 0⟩ } (s.pmg.ceilings.get p) s.ftm.sF s.ftm.sNext
    refine ⟨h.rebase F (by rw [k3]; simp) k2 (k1.trans ?_), fun _ => k2⟩
    rw [← hg]
    rfl
  · exact ⟨.of_empty rfl, fun ha => nomatch ha⟩

theorem State.panelStart_other {p q : Side} (old : Option FrameNo) (h : q ≠ p) : (s.panelStart p old).panel q = s.panel q :=
  State.panel_onPanel_other _ _ h

theorem State.firstLine_rings {s : State} (h : s.RingsFit) (p : Side) (hp : (s.panel p).scan = .active → (s.panel p).pos = 0) :
    (s.firstLine p).RingsFit := by
  unfold State.firstLine
  split
  · exact h.outputLine p (hp ‹_›).le
  · exact h

theorem State.firstLine_other {p q : Side} (h : q ≠ p) : (s.firstLine p).panel q = s.panel q := by
  unfold State.firstLine
  split
  · rw [State.panel, s.outputLine_pxp]
    exact State.panel_onPanel_other _ _ h
  · rfl

theorem State.picturesStart_rings {F : FrameNo} (hF : s.ftm.scanFrame = some F) (old : Option FrameNo)
    (h : ∀ p, (s.panel p).RingDistinct) : (s.picturesStart old).RingsFit := by
  have w : RingsWithin s (([0, 1, 2, 3] : List (Fin 4)).foldl State.sweepContext ((s.panelInForce .a).panelInForce .b)) :=
    ((s.panelInForce_rings .a).trans (State.panelInForce_rings _ .b)).trans (State.sweepContexts_rings _ _)
  have hw := ((s.panelInForce_within .a).trans (State.panelInForce_within _ .b)).trans
    (Within.foldl (fun (u : State) i => u.sweepContext_within i) ([0, 1, 2, 3] : List (Fin 4)) _)
  unfold State.picturesStart
  dsimp only
  generalize ([0, 1, 2, 3] : List (Fin 4)).foldl State.sweepContext ((s.panelInForce .a).panelInForce .b) = u at w hw
  have hu : u.ftm.scanFrame = some F := by rw [hw.ftm.resolve_left (by decide)]; exact hF
  have ha := u.panelStart_fits hu .a old ((h .a).sublist (w .a))
  have hua : (u.panelStart .a old).ftm.scanFrame = some F := hu
  have hb := (u.panelStart .a old).panelStart_fits hua .b old (by
    rw [u.panelStart_other old (by decide)]
    exact (h .b).sublist (w .b))
  have hv : ∀ p, (((u.panelStart .a old).panelStart .b old).panel p).RingFits (some F)
      ∧ ((((u.panelStart .a old).panelStart .b old).panel p).scan = .active →
        (((u.panelStart .a old).panelStart .b old).panel p).pos = 0) := by
    intro p
    cases p with
    | a => rw [State.panelStart_other _ old (by decide)]; exact ha
    | b => exact hb
  have hvF : ((u.panelStart .a old).panelStart .b old).ftm.scanFrame = some F := hu
  generalize (u.panelStart .a old).panelStart .b old = v at hv hvF
  have hp : v.namePanels.pxp = v.pxp := v.namePanels_within.pxp.resolve_left (by decide)
  have hn : v.namePanels.ftm.scanFrame = v.ftm.scanFrame := by
    simp only [State.namePanels]
    split
    · rfl
    · exact (State.finishRecord_recorded _).scanFrame
  have hpos : ∀ p, (v.namePanels.panel p).scan = .active → (v.namePanels.panel p).pos = 0 := by
    intro p
    rw [State.panel, hp]
    exact (hv p).2
  have fits : v.namePanels.RingsFit := by
    intro p
    rw [State.panel, hp, hn, hvF]
    exact (hv p).1
  refine State.firstLine_rings (State.firstLine_rings fits .a (hpos .a)) .b ?_
  rw [State.firstLine_other _ (by decide)]
  exact hpos .b

theorem State.frameStart_rings {s : State} (h : s.RingsFit) : s.frameStart.RingsFit := by
  have hw : RingsWithin s (s.frameNumbers.frameRecords s.ftm.scanFrame) :=
    (RingsWithin.of_within s.frameNumbers_within (by decide)).trans (State.frameRecords_rings _ _)
  obtain ⟨-, -, hF, -⟩ := s.frameNumbers_running
  have hp := State.picturesStart_rings (s.frameNumbers.frameRecords s.ftm.scanFrame)
    ((State.frameRecords_scanFrame _ _).trans hF) s.ftm.scanFrame fun p => (h p).distinct.sublist (hw p)
  rw [State.frameStart_eq, State.framed]
  generalize (s.frameNumbers.frameRecords s.ftm.scanFrame).picturesStart s.ftm.scanFrame = u at hp
  exact ringsFit_keptByPower.refreshLoads (hp.of_same rfl rfl)

end

/-! ### Requests -/

theorem State.storeEntry_rings {s : State} (h : s.RingsFit) (t : Table) (e : EntryValues) : (s.storeEntry t e).RingsFit := by
  cases t
  case power => exact ringsFit_keptByPower.storePower h _
  case poll => exact h.of_within (s.storePoll_within _ _) (by decide) (by decide)
  case panel => exact h.onPanel _ _ fun x hx => hx.congr rfl rfl rfl id
  case frameTimer =>
    refine h.of_same rfl ?_
    simp only [State.storeEntry, State.onFtm_ftm, Ftm.store]
    split <;> rfl
  all_goals exact h.of_same rfl rfl

theorem State.store_rings {s : State} (h : s.RingsFit) (t : Table) (es : List EntryValues) : (s.store t es).RingsFit :=
  ringsFit_keptByPower.store h t es (fun _ e hu => State.storeEntry_rings hu t e) fun u hu =>
    hu.of_within u.judgeBatch_within (by decide) (by decide)

theorem State.clearEntries_rings {s : State} (h : s.RingsFit) (t : Table) (n i : Nat) : (s.clearEntries t n i).RingsFit := by
  have one : ∀ (u : State) i, u.RingsFit → (u.clearEntry t i).RingsFit := by
    intro u i hu
    cases t
    case panel => exact hu.onPanel _ _ fun x hx => hx.congr rfl rfl rfl id
    all_goals exact hu.of_same rfl rfl
  induction n generalizing s i with
  | zero => exact h
  | succ n ih => exact ih (one s i h) _

theorem Effect.rings {s : State} {op : Nat} {t : State} (e : Effect op s t) (h : s.RingsFit) : t.RingsFit := by
  cases e with
  | none => exact h
  | store t es _ => exact State.store_rings h t es
  | clear t n i => exact State.clearEntries_rings h t n i
  | restart => exact h.of_same rfl rfl
  | busRecover b => exact h.of_within (s.busRecover_within b) (by decide) (by decide)
  | fifoFlush => exact h.of_same rfl rfl
  | audioRestart => exact ringsFit_keptByPower.refreshLoads (h.of_same rfl rfl)
  | play c n p b => exact ringsFit_keptByPower.startPlay h c n p b
  | stop c => exact ringsFit_keptByPower.refreshLoads (ringsFit_keptByPower.endPattern h c .stopped)
  | testStart => exact h.of_same rfl rfl
  | testStop => exact h.of_same rfl rfl

theorem State.request_rings {s : State} (h : s.RingsFit) (op : Nat) (table : Byte) (r : Request) : (s.request op table r).RingsFit :=
  State.request_keeps (fun _ _ h => h.of_same rfl rfl) (fun _ _ h => h.of_same rfl rfl) (fun _ _ _ h => h.of_same rfl rfl)
    (fun _ _ h e => e.rings h) (fun s r h => h.of_within (s.relayHandOver_within r) (by decide) (by decide)) h table r

/-! ### Every act -/

theorem State.beginStrobe_rings {s : State} (h : s.RingsFit) (p : Side) : (s.beginStrobe p).RingsFit := by
  have h1 : (s.onPanel p fun x => if 0 < strobeWidthAt (s.panel p) s.ftm.sNext
      then { x with strobe := .on, strobeEnd := x.strobeAt + BitVec.ofNat 32 (strobeWidthAt (s.panel p) s.ftm.sNext) }
      else { x with strobe := .idle }).RingsFit := by
    refine h.onPanel p _ fun x hx => ?_
    split <;> exact hx.congr rfl rfl rfl id
  have h2 := h1.of_same (t := State.onScanning _ fun r => r.takeStrobe p (strobeWidthAt (s.panel p) s.ftm.sNext)) rfl rfl
  exact h2.tryComplete p

theorem State.rebase_rings {s : State} (h : s.RingsFit) (d : Int) : (s.rebase d).RingsFit := by
  have one : ∀ x : PanelState, x.RingFits s.ftm.scanFrame → (x.rebaseStrobe d).RingFits s.ftm.scanFrame := by
    intro x hx
    unfold PanelState.rebaseStrobe
    split
    · exact hx.congr rfl rfl rfl id
    · exact hx.congr rfl rfl rfl id
    · exact hx
    · exact hx
  intro p
  have := one _ (h p)
  cases p <;> exact this

theorem ringsFit_keptByActs : KeptByActs State.RingsFit where
  aside _ _ w h := h.of_within w (by decide) (by decide)
  work _ _ w h := h.of_within w.within (by decide) (by decide)
  raise u k d h := h.of_within (u.raise_within k d) (by decide) (by decide)
  timer _ f hf h := h.of_same rfl hf
  contexts _ _ h := h.of_same rfl rfl
  rebase _ d h := State.rebase_rings h d
  pictureCell _ c h := ringsFit_keptBySlices.pictureCell h c
  lineOut _ p _ h := State.lineOut_rings h p
  beginStrobe _ p _ h := State.beginStrobe_rings h p
  endStrobe _ p _ h := State.RingsFit.tryComplete (h.onPanel p (fun x => { x with strobe := .idle }) fun x hx => hx.congr rfl rfl rfl id) p
  frameStart _ h := State.frameStart_rings h
  audioCell u n l bs g h := ringsFit_keptByPower.refreshLoads (h.of_within (u.audioCell_within n l bs g) (by decide) (by decide))
  request _ op table r h := State.request_rings h op table r
  store _ t es h := State.store_rings h t es
  loadEnd _ h := ringsFit_keptByPower.loadEndPower h
  measure u mv ma h := ringsFit_keptByPower.measure mv ma (h.of_within (u.onPmg_within _) (by decide) (by decide))
  period u h := h.of_within u.period_within (by decide) (by decide)
  output _ h := h.of_same rfl rfl
  idleTimer _ h := ringsFit_keptByPower.refreshLoads (h.of_same rfl rfl)
  micSample u x h := h.of_within (u.micSample_within x) (by decide) (by decide)
  stepEnd _ c p _ h := ringsFit_keptByPower.refreshLoads (ringsFit_keptByPower.patternStep h c p)
  rise _ _ _ _ h := h.of_same rfl rfl
  reverse _ _ _ _ h := h.of_same rfl rfl
  carrier _ h := h.of_same rfl rfl
  deadTimeEnd _ h := h.of_same rfl rfl
  onTimeEnd _ h := h.of_same rfl rfl
  pick u h := h.of_within u.pick_within (by decide) (by decide)
  restart _ _ := fun p => by cases p <;> exact .of_empty rfl
  reset _ _ := fun p => by cases p <;> exact .of_empty rfl

end Sys2Proof.Machine
end

section
/-! Replies and the relay's reserved place fill at most the REPLY queue at every step (R41), and with it every capacity (R20 and on). -/

namespace Sys2Proof.Machine

open Sys2Proof

/-- The replies and the place reserved for a relay fit the REPLY queue (R41). -/
def State.RepliesFit (s : State) : Prop := s.replyLoad ≤ 4

variable {s t : State}

/-- A change outside the link transmitter and the responder. -/
theorem State.RepliesFit.of_within {bs : List Part} (w : Within bs s t) (h : s.RepliesFit) (h1 : Part.ltx ∉ bs) (h2 : Part.mrs ∉ bs) :
    t.RepliesFit := by
  unfold State.RepliesFit State.replyLoad
  rw [w.ltx.resolve_left h1, w.mrs.resolve_left h2]
  exact h

theorem State.RepliesFit.of_queues (h : s.RepliesFit) (q : QueuesKept s t) (hm : t.mrs.slot = s.mrs.slot) : t.RepliesFit := by
  unfold State.RepliesFit State.replyLoad
  rw [q.1, hm]
  exact h

/-- Two changes, one after the other, with the blocks of either. -/
theorem Within.also {bs cs : List Part} {u : State} (w : Within bs s t) (v : Within cs t u) : Within (bs ++ cs) s u :=
  (w.mono fun _ h => List.mem_append_left _ h).andThen v fun _ h => List.mem_append_right _ h

/-- An effect of a request keeps the replies and the slot. -/
theorem Effect.replies {op : Nat} (e : Effect op s t) : t.replyLoad ≤ s.replyLoad := by
  have away : ∀ {u : State} {bs : List Part}, Within bs s u → Part.ltx ∉ bs → Part.mrs ∉ bs → u.replyLoad ≤ s.replyLoad := by
    intro u bs w h1 h2
    rw [State.replyLoad, w.ltx.resolve_left h1, w.mrs.resolve_left h2]
    exact le_rfl
  cases e with
  | none => exact le_rfl
  | store t es _ =>
    have q := s.store_queuesKept t es
    rw [State.replyLoad, q.1, (s.store_within t es).mrs.resolve_left t.responder_not_stored]
    exact le_rfl
  | clear t n i =>
    have one : ∀ (u : State) i, (u.clearEntry t i).replyLoad = u.replyLoad := by
      intro u i
      cases t <;> rfl
    clear away
    induction n generalizing s i with
    | zero => exact le_rfl
    | succ n ih => exact (ih (s := s.clearEntry t i) _).trans (one s i).le
  | restart => exact le_rfl
  | busRecover b => exact (s.busRecover_work b).replies
  | fifoFlush => exact le_rfl
  | audioRestart => exact away ((s.onAuu_within _).also (State.refreshLoads_within _)) (by decide) (by decide)
  | play c n p b => exact away (s.startPlay_within c n p b) (by decide) (by decide)
  | stop c => exact away ((s.endPattern_within c .stopped).also (State.refreshLoads_within _)) (by decide) (by decide)
  | testStart => exact le_rfl
  | testStop => exact le_rfl

/-- A request is taken with room for its reply, or for the relay's (R41). -/
theorem State.request_replies (h : s.RepliesFit) (op : Nat) (table : Byte) (r : Request) : (s.request op table r).RepliesFit := by
  rcases s.request_cases op table r with e | e | ⟨hr, t, e, a⟩
  · rw [e]; exact h
  · rw [e]; exact h
  · have room : s.replyLoad + 1 ≤ 4 := by
      unfold State.room at hr
      unfold State.replyLoad
      omega
    rw [e]
    cases a with
    | @reply u he p =>
      have hu : u.replyLoad ≤ s.replyLoad := he.replies
      unfold State.RepliesFit
      have hp : (u.placeReply p).replyLoad = u.replyLoad + 1 := by
        show (u.ltx.reply ++ [p]).length + bit u.mrs.slot.isSome = u.ltx.reply.length + bit u.mrs.slot.isSome + 1
        rw [List.length_append, List.length_singleton]
        omega
      have hs : s.countTaken.replyLoad = s.replyLoad := rfl
      omega
    | relay k r hk =>
      refine (State.relayHandOver_work _ r).replies.trans ?_
      have hs : s.mrs.slot = none := hk
      have hl : (s.countTaken.onMrs fun m => { m with slot := some k }).replyLoad = s.replyLoad + 1 := by
        simp only [State.replyLoad, hs]
        rfl
      omega

theorem State.pick_replies (h : s.RepliesFit) : s.pick.RepliesFit := by
  have drop : ∀ (u : State) f, (f u.ltx).reply.length ≤ u.ltx.reply.length → u.RepliesFit → (u.onLtx f).RepliesFit :=
    fun u f hf hu => (Nat.add_le_add_right hf _).trans hu
  unfold State.pick
  split
  · exact h
  · unfold State.pickQueued
    dsimp only
    have h1 : (s.onLtx fun t => { t with fairness := s.fairnessAfter }).RepliesFit := h
    generalize (s.onLtx fun t => { t with fairness := s.fairnessAfter }) = u at h1
    split
    · refine drop u _ ?_ h1
      unfold Ltx.sendReply
      split
      · exact le_rfl
      · rename_i hr
        rw [hr, List.length_cons]
        exact Nat.le_succ _
    · unfold State.sendNotice
      split <;> exact h1
    · refine (State.judgeBatch_work _).replies.trans (drop u _ ?_ h1)
      unfold Ltx.sendMotion
      split <;> exact le_rfl
    · refine drop u _ ?_ h1
      unfold Ltx.sendVoice
      split <;> exact le_rfl
    · refine drop u _ ?_ h1
      split <;> exact le_rfl

theorem State.micSample_replies (h : s.RepliesFit) (x : Sample) : (s.micSample x).RepliesFit := by
  have hq : ∀ (l : Ltx) payload, (l.enqueueVoice payload).reply = l.reply := by
    intro l payload
    unfold Ltx.enqueueVoice
    split <;> rfl
  simp only [State.micSample]
  split
  · exact h
  · refine h.trans' ?_
    simp only [State.replyLoad, State.onLtx_ltx, hq]
    exact le_rfl

theorem repliesFit_keptByActs : KeptByActs State.RepliesFit where
  aside _ _ w h := h.of_within w (by decide) (by decide)
  work _ _ w h := w.replies.trans h
  raise _ _ _ h := h
  timer _ _ _ h := h
  contexts _ _ h := h
  rebase _ _ h := h
  pictureCell u c h := h.of_within (u.pictureCell_within c) (by decide) (by decide)
  lineOut u p _ h := h.of_within (u.lineOut_within p) (by decide) (by decide)
  beginStrobe u p _ h := h.of_within (u.beginStrobe_within p) (by decide) (by decide)
  endStrobe u p _ h := h.of_within (u.endStrobe_within p) (by decide) (by decide)
  frameStart u h := h.of_within u.frameStart_within (by decide) (by decide)
  audioCell u n l bs g h := h.of_within ((u.audioCell_within n l bs g).also (State.refreshLoads_within _)) (by decide) (by decide)
  request _ op table r h := State.request_replies h op table r
  store u t es h := h.of_queues (u.store_queuesKept t es) (by rw [(u.store_within t es).mrs.resolve_left t.responder_not_stored])
  loadEnd u h := h.of_within u.loadEndPower_within (by decide) (by decide)
  measure u mv ma h := h.of_within (u.measure_within mv ma) (by decide) (by decide)
  period u h := h.of_within u.period_within (by decide) (by decide)
  output _ h := h
  idleTimer u h := h.of_within ((u.onAuu_within _).also (State.refreshLoads_within _)) (by decide) (by decide)
  micSample _ x h := State.micSample_replies h x
  stepEnd u c p _ h := h.of_within ((u.patternStep_within c p).also (State.refreshLoads_within _)) (by decide) (by decide)
  rise _ _ _ _ h := h
  reverse _ _ _ _ h := h
  carrier _ h := h
  deadTimeEnd _ h := h
  onTimeEnd _ h := h
  pick _ h := State.pick_replies h
  restart _ _ := Nat.zero_le _
  reset _ _ := Nat.zero_le _

/-- Settles O56: the bounds of the queues (`BoundsKept`), the REPLY queue's room, and the rings, over every act of a step. -/
theorem stepKeepsCapacities : Obligations.StepKeepsCapacities := by
  rintro s t ⟨⟨hReply, hMotion, hVoice, hNotices, hFifo, hHistory, hBuffer, hWindow⟩, hOrder, hRings⟩ hs
  have b := s.step_bounds hs
  obtain ⟨kNotices, kOrder⟩ := b.notices ⟨hNotices, hOrder⟩
  have rings := ringsFit_keptByActs.step ((State.ringsSound_iff s).mp hRings) (fun _ _ h => h) hs
  exact ⟨⟨repliesFit_keptByActs.step hReply (fun _ _ h => h) hs, b.motion hMotion, b.voice hVoice, kNotices, b.fifo hFifo,
    b.history hHistory, b.buffer hBuffer, b.window hWindow⟩, kOrder, (State.ringsSound_iff t).mpr rings⟩

end Sys2Proof.Machine
end

section
/-! The rows of the pattern engine and the haptic bridge (chapter 9), and the event unit (chapter 11). -/

namespace Sys2Proof.Machine

open Sys2Proof

variable {s t : State}

theorem OwnersKept.requestChanged (k : OwnersKept s t) (h : s.requestChanged = false) : t.requestChanged = false := by
  rw [State.requestChanged_iff] at h ⊢
  intro i
  rw [k.loads, k.wanted]
  exact h i

/-! ### Patterns (R156 to R160) -/

section
variable {c : Channel} {p : Pattern}

theorem exec_stepEnd (hh : s.held = false) (hc : s.pte.chan c = some p) (hd : p.stepEndDue s.osc = true) :
    exec (.stepEnd c) s = .next (s.patternStep c p).refreshLoads := by
  show Host.Outcome.next (s.live _) = _
  rw [State.live_of_free _ hh, hc]
  dsimp only
  rw [if_pos hd]

theorem exec_elapsedRise (hh : s.held = false) (hc : s.pte.chan c = some p) (hd : p.elapsedDue s.osc = true) :
    exec (.elapsedRise c) s = .next (s.onPte fun x => x.setChan c (some p.rise)) := by
  show Host.Outcome.next (s.live _) = _
  rw [State.live_of_free _ hh, hc]
  dsimp only
  rw [if_pos hd]

theorem exec_polarityReversal (hh : s.held = false) (hc : s.pte.chan c = some p) (hd : p.reversalDue s.osc = true) :
    exec (.polarityReversal c) s = .next (s.onPte fun x =>
      if c = .h then (x.setChan c (some p.reverse)).reversal s.osc else x.setChan c (some p.reverse)) := by
  show Host.Outcome.next (s.live _) = _
  rw [State.live_of_free _ hh, hc]
  dsimp only
  rw [if_pos hd]

/-- The pattern ends where its step has no next one, or none is left to it (R156). -/
theorem State.patternStep_ends (s : State) (c : Channel) (h : p.copy.next = none ∨ p.budgetLeft = 0) :
    s.patternStep c p = s.endPattern c (if p.copy.next = none then .done else .budget) := by
  unfold State.patternStep
  cases hn : p.copy.next with
  | none => rfl
  | some n => exact if_pos (h.resolve_left (by simp [hn]))

/-- Settles O49. -/
theorem patternRunsItsSteps : Obligations.PatternRunsItsSteps := by
  intro s c p hh hc formed low fresh turned
  refine ⟨fun hd => ?_, fun hd ht => ?_, fun hd ht => ?_, fun n hd hn hb hq => ?_, fun hd he => ?_⟩
  · rw [exec_elapsedRise hh hc hd]
    rfl
  · subst ht
    rw [exec_polarityReversal hh hc hd]
    rfl
  · subst ht
    rw [exec_polarityReversal hh hc hd]
    rfl
  · have step : s.patternStep c p = s.onPte fun x => (x.setChan c (some (fresh n))).turned c p.negative s.osc := by
      rw [State.patternStep, hn]
      exact if_neg hb
    have owners : OwnersKept s (s.patternStep c p) := by
      rw [step]
      exact .onPte _ ((Pte.turned_kept _ _ _ _).1.trans (Pte.setChan_kept _ _ _).1)
        ((congrArg Option.isSome (Pte.turned_kept _ _ _ _).2.2).trans (Pte.setChan_playing hc _))
        ((Pte.turned_kept _ _ _ _).2.1.trans (Pte.setChan_kept _ _ _).2)
    rw [exec_stepEnd hh hc hd, State.refreshLoads_of_unchanged (owners.requestChanged hq), step]
    rfl
  intro why
  refine ⟨fun ht hq => ?_, fun ht => ?_⟩
  · subst ht
    have ends : s.patternStep .t p = { s with
        pte := { s.pte with chanT := none }
        evu := s.evu.take .patternDone (patternDetail .t why p) s.now s.timeUnset } := by
      rw [State.patternStep_ends s .t he, State.endPattern, hc]
      rfl
    rw [exec_stepEnd hh hc hd, ends, State.refreshLoads_of_unchanged]
    exact hq
  · subst ht
    intro ended
    have ends : s.patternStep .h p = ended := by
      rw [State.patternStep_ends s .h he, State.endPattern, hc]
      have hl : (if why = EndReason.preempted then s.pte.onLevel else 0) = 0 := by
        refine if_neg ?_
        show ¬ (if p.copy.next = none then EndReason.done else EndReason.budget) = _
        split <;> decide
      simp only [ended, ← BridgeState.stopped_eq]
      rw [← hl]
      rfl
    rw [exec_stepEnd hh hc hd, ends]
    exact ⟨rfl, ended.refreshLoads_requestChanged⟩

end

/-- Settles O50. -/
theorem hapticOutputsFollowCarrier : Obligations.HapticOutputsFollowCarrier := by
  intro s hh x negative level period on rest
  have carrier : s.carrierDue = true → exec .carrierPeriodStart s = .next { s with
      pte := if period.deadEnd.isSome then { period with hp := false, hn := false } else period.drive s.osc } := fun hd => by
    show Host.Outcome.next (s.live _) = _
    rw [State.live_of_free _ hh, if_pos hd]
    rfl
  refine ⟨fun hd hn => ?_, fun hd hn => ?_, fun hd => ?_, fun hd => ?_⟩
  · have hon : (period.onAt s.osc && decide (period.bridge = .driving)) = on := by
      by_cases hb : x.bridge = .driving
      · rw [decide_eq_true (p := period.bridge = .driving) hb, Bool.and_true]
        rfl
      · have hl : level = 0 := if_neg hb
        simp only [on, hl]
        simp [show ¬ period.bridge = .driving from hb]
    have hdrive : period.drive s.osc = { period with hp := on && !negative, hn := on && negative } := by
      rw [← hon]
      rfl
    rw [carrier hd, if_neg (by rw [show period.deadEnd = none from hn]; decide), hdrive]
  · rw [carrier hd, if_pos (Option.isSome_iff_ne_none.mpr hn)]
  · show Host.Outcome.next (s.live _) = _
    rw [State.live_of_free _ hh, if_pos hd]
    rfl
  · show Host.Outcome.next (s.live _) = _
    rw [State.live_of_free _ hh, if_pos hd]
    rfl

/-! ### The event unit (R185, R188, R189) -/

/-- A notice enters behind those of its priority or higher and ahead of every lower one (R188). -/
theorem insertNotice_between {n : Notice} {l r : List Notice} (hl : ∀ m ∈ l, n.priority ≤ m.priority)
    (hr : ∀ m ∈ r, m.priority < n.priority) : insertNotice n (l ++ r) = l ++ n :: r := by
  induction l with
  | nil =>
    cases r with
    | nil => rfl
    | cons m r => exact if_pos (hr m List.mem_cons_self)
  | cons m l ih =>
    have hm := hl m List.mem_cons_self
    show (if m.priority < n.priority then _ else m :: insertNotice n (l ++ r)) = _
    rw [if_neg (not_lt.mpr hm), ih fun y hy => hl y (List.mem_cons_of_mem _ hy)]
    rfl

/-- The first notice of a kind takes the occurrence (R185). -/
theorem foldNotice_first {k : EventKind} {l r : List Notice} {m : Notice} (hm : m.kind = k) (hl : ∀ y ∈ l, y.kind ≠ k) :
    foldNotice k (l ++ m :: r) = l ++ { m with count := min (m.count + 1) 255 } :: r := by
  induction l with
  | nil => exact if_pos hm
  | cons y l ih =>
    show (if y.kind = k then _ else y :: foldNotice k (l ++ m :: r)) = _
    rw [if_neg (hl y List.mem_cons_self), ih fun z hz => hl z (List.mem_cons_of_mem _ hz)]
    rfl

theorem hasNotice_iff {k : EventKind} {q : List Notice} : hasNotice k q = true ↔ ∃ m ∈ q, m.kind = k := by
  simp [hasNotice]

/-- A kind that builds a notice offers it (R185). -/
theorem Evu.take_builds {e : Evu} {k : EventKind} (detail : List Byte) (time : Time) (unset : Bool) (he : e.table[k.code].enable = true)
    (hb : e.table[k.code].coalesce = false ∨ ∀ m ∈ e.queue, m.kind ≠ k) :
    e.take k detail time unset =
      ({ e with table := tabMod e.table k.code fun y => { y with occurrences := satInc y.occurrences } } : Evu).offerNotice
        { kind := k, priority := e.table[k.code].priority, count := 1, timeUnset := unset, time := time, detail := detail } := by
  have hc : ¬ (e.table[k.code].coalesce && hasNotice k e.queue) = true := by
    rw [Bool.and_eq_true, hasNotice_iff]
    rintro ⟨hc, m, hm, hk⟩
    rcases hb with hb | hb
    · exact Bool.false_ne_true (hb.symm.trans hc)
    · exact hb m hm hk
  unfold Evu.take
  dsimp only
  rw [if_neg (by rw [he]; decide), if_neg hc]

/-- Settles O54. -/
theorem eventIsTakenByUnit : Obligations.EventIsTakenByUnit := by
  intro e k detail time unset x counted n t builds between
  have built : builds → t = (⟨counted, e.queue⟩ : Evu).offerNotice n := fun ⟨he, hb⟩ => Evu.take_builds detail time unset he hb
  refine ⟨fun he => ?_, fun l m r he hc hq hm hl => ?_, fun l r hb hn hq hlr => ?_, fun q m hb hn hq hm => ?_,
    fun l r m hb hn hq hm hlr => ?_⟩
  · have he' : (!e.table[k.code].enable) = true := by
      show (!x.enable) = true
      rw [he]; rfl
    exact if_pos he'
  · have he' : ¬ (!e.table[k.code].enable) = true := by
      show ¬ (!x.enable) = true
      rw [he]; decide
    have hc' : (e.table[k.code].coalesce && hasNotice k e.queue) = true := by
      refine (Bool.and_eq_true _ _).mpr ⟨hc, hasNotice_iff.mpr ⟨m, ?_, hm⟩⟩
      rw [hq]
      exact List.mem_append_right _ List.mem_cons_self
    refine (if_neg he').trans ((if_pos hc').trans ?_)
    rw [hq, foldNotice_first hm hl]
  · refine (built hb).trans ((if_pos hn).trans ?_)
    rw [hq]
    exact congrArg (Evu.mk counted) (insertNotice_between hlr.1 hlr.2)
  · have hlast : e.queue.getLast? = some m := by rw [hq]; exact List.getLast?_concat
    refine (built hb).trans ((if_neg (not_lt.mpr hn)).trans ?_)
    rw [hlast]
    exact if_neg (not_lt.mpr hm)
  · have hlast : e.queue.getLast? = some m := by rw [hq]; exact List.getLast?_concat
    refine (built hb).trans ((if_neg (not_lt.mpr hn)).trans ?_)
    rw [hlast]
    refine (if_pos hm).trans ?_
    show Evu.mk _ (insertNotice n e.queue.dropLast) = _
    rw [hq, List.dropLast_concat, insertNotice_between hlr.1 hlr.2]
    rfl

end Sys2Proof.Machine
end

section
/-! The exposure pulses, the strobes and the line-out (4.5, 5.5, 5.6), with what the end of a scan and a completion do. -/

namespace Sys2Proof.Machine

open Sys2Proof

variable {s : State}

/-! ### Exposure pulses (R76, R77) -/

theorem exec_pulseStart {g : Side} (hh : s.held = false) (hd : s.expStartDue g = true) :
    exec (.exposurePulseStart g) s = .next (s.edged fun s => s.startPulse g) := by
  show Host.Outcome.next (s.live _) = _
  rw [State.live_of_free _ hh, if_pos hd]

theorem exec_pulseEnd {g : Side} (hh : s.held = false) (hd : s.expEndDue g = true) :
    exec (.exposurePulseEnd g) s = .next (s.edged fun s => s.endPulse g) := by
  show Host.Outcome.next (s.live _) = _
  rw [State.live_of_free _ hh, if_pos hd]

theorem not_before_iff {a b : Time} : (!before a b) = true ↔ (b - a).toInt ≤ 0 := by
  simp [before, tdiff]

/-- The generators at the end of A's pulse: B acts on A as it was (R77). -/
theorem State.endPulse_a (s : State) : s.endPulse .a = { s with ftm := { s.ftm with
    gens := ⟨{ s.ftm.gens.a with state := .idle }, s.ftm.gens.b.follow s.ftm.gens.a s.ftm.sNext⟩ } } := rfl

/-- Settles O38. -/
theorem exposurePulsesStartAndEnd : Obligations.ExposurePulsesStartAndEnd := by
  intro s hh a b goes at_ follows suppresses
  have suppress_iff : (a.crossed || !before at_ s.ftm.sNext || decide (b.state ≠ .idle)) = true ↔ suppresses := by
    rw [Bool.or_eq_true, Bool.or_eq_true, not_before_iff, decide_eq_true_eq, or_assoc]
  have ends : s.expEndDue .a = true → ∀ d, b.follow a s.ftm.sNext = d →
      goes (.exposurePulseEnd .a) ⟨{ a with state := .idle }, d⟩ := by
    intro hd d he
    refine (exec_pulseEnd hh hd).trans ?_
    rw [State.edged, State.endPulse_a]
    subst he
    rfl
  refine ⟨fun g hd => (exec_pulseStart hh hd).trans rfl, fun hd => (exec_pulseEnd hh hd).trans rfl, fun hd hf => ends hd _ ?_,
    fun hd hf hs => ends hd _ ?_, fun hd hf hs => ends hd _ ?_⟩
  · exact if_neg hf
  · exact (if_pos hf).trans (if_pos (suppress_iff.mpr hs))
  · exact (if_pos hf).trans (if_neg fun h => hs (suppress_iff.mp h))

/-! ### Completions (R70, R72, R96, R101) -/

theorem State.endScan_none {p : Side} (h : s.ftm.scanning = none) : s.endScan p = s := by
  rw [State.endScan, h]

/-- The end-of-scan judgement on a live SCANNING record (R96). -/
theorem State.endScan_some {p : Side} {r : FrameRec} (h : s.ftm.scanning = some r) : s.endScan p = { s with
    ftm := { s.ftm with scanning := some { r with flags := { r.flags with
      incomplete := r.flags.incomplete || decide (0 < r.missing.get p) } } }
    evu := if 0 < r.missing.get p then s.evu.take .missingLines
        (leBytes 1 (if p = .a then 0 else 1) ++ leBytes 2 r.number.toNat ++ leBytes 2 (r.missing.get p)) s.now s.timeUnset
      else s.evu } := by
  have hf : s.ftm = { s.ftm with scanning := some r } := by rw [← h]
  have hc : Side.code p = if p = .a then 0 else 1 := by cases p <;> rfl
  rw [State.endScan, h]
  dsimp only
  split
  · rename_i hm
    rw [decide_eq_true hm, Bool.or_true, ← hc]
    simp only [State.onScanning, State.onFtm, h]
    rfl
  · rename_i hm
    rw [decide_eq_false hm, Bool.or_false]
    exact congrArg (fun f : Ftm => ({ s with ftm := f } : State)) hf

/-- A completion that the frame timer does not await (R72). -/
theorem State.completion_ignored {p : Side} (h : s.ftm.scanning = none ∨ s.ftm.pendingPanels.get p = false) : s.completion p = s := by
  unfold State.completion
  refine if_neg ?_
  rcases h with h | h <;> simp [h]

/-- A completion while the other panel is awaited, and the last one (R72). -/
theorem State.completion_awaited {p : Side} {r : FrameRec} (h : s.ftm.scanning = some r) (hp : s.ftm.pendingPanels.get p = true) :
    s.completion p =
      if (if p = .a then s.ftm.pendingPanels.b else s.ftm.pendingPanels.a) = true then
        { s with ftm := { s.ftm with pendingPanels := if p = .a then ⟨false, true⟩ else ⟨true, false⟩ } }
      else { s with
        ftm := { s.ftm with scanning := none, done := some { r with state := .done }, pendingPanels := ⟨false, false⟩ }
        evu := s.evu.take .frameReport ({ r with state := .done } : FrameRec).report s.now s.timeUnset } := by
  have hl : s.ftm.pendingPanels.set p false = if p = .a then ⟨false, s.ftm.pendingPanels.b⟩ else ⟨s.ftm.pendingPanels.a, false⟩ := by
    cases p <;> rfl
  unfold State.completion
  rw [if_pos (by simp [h, hp]), hl]
  cases p with
  | a =>
    cases hb : s.ftm.pendingPanels.b with
    | true => rfl
    | false => simp [State.finishRecord, h, State.raise, State.onFtm, State.onEvu, State.now, State.timeUnset]
  | b =>
    cases ha : s.ftm.pendingPanels.a with
    | true => rfl
    | false => simp [State.finishRecord, h, State.raise, State.onFtm, State.onEvu, State.now, State.timeUnset]

theorem State.tryComplete_waits {p : Side}
    (h : (s.panel p).scan = .active ∨ (s.panel p).strobe = .pending ∨ (s.panel p).strobe = .on) : s.tryComplete p = s := by
  refine if_neg ?_
  rintro ⟨h1, h2, h3⟩
  rcases h with h | h | h
  · exact h1 h
  · exact h2 h
  · exact h3 h

theorem State.tryComplete_completes {p : Side} (h1 : (s.panel p).scan ≠ .active) (h2 : (s.panel p).strobe ≠ .pending)
    (h3 : (s.panel p).strobe ≠ .on) : s.tryComplete p = s.completion p := if_pos ⟨h1, h2, h3⟩

theorem State.tryComplete_pxp (s : State) (p : Side) : (s.tryComplete p).pxp = s.pxp :=
  (s.tryComplete_within p).pxp.resolve_left (by decide)

/-! ### Strobes (R99) -/

theorem exec_strobeStart {p : Side} (hh : s.held = false) (hd : s.strobeStartDue p = true) :
    exec (.strobeStart p) s = .next (s.edged fun s => s.beginStrobe p) := by
  show Host.Outcome.next (s.live _) = _
  rw [State.live_of_free _ hh, if_pos hd]

theorem exec_strobeEnd {p : Side} (hh : s.held = false) (hd : s.strobeEndDue p = true) :
    exec (.strobeEnd p) s = .next (s.edged fun s => s.endStrobe p) := by
  show Host.Outcome.next (s.live _) = _
  rw [State.live_of_free _ hh, if_pos hd]

theorem State.onPanel_congr {p : Side} {f g : PanelState → PanelState} (h : f (s.panel p) = g (s.panel p)) :
    s.onPanel p f = s.onPanel p g := by
  have hm : s.pxp.panels.modify p f = s.pxp.panels.modify p g := congrArg (s.pxp.panels.set p) h
  exact congrArg (fun d => ({ s with pxp := { s.pxp with panels := d } } : State)) hm

/-- A strobe's start before the completion that a width of 0 may bring (R99). -/
theorem State.beginStrobe_eq {p : Side} {w : Nat} (hw : strobeWidthAt (s.panel p) s.ftm.sNext = w) (f : PanelState → PanelState)
    (hf : f (s.panel p) = if 0 < w
      then { s.panel p with strobe := .on, strobeEnd := (s.panel p).strobeAt + BitVec.ofNat 32 w }
      else { s.panel p with strobe := .idle }) :
    s.beginStrobe p = (({ s with
      pxp := { s.pxp with panels := s.pxp.panels.modify p f }
      ftm := { s.ftm with
        scanning := s.ftm.scanning.map fun r =>
          if r.strobe.get p = none then { r with strobe := r.strobe.set p (some w) } else r } } : State).tryComplete p) := by
  have hr : (fun r : FrameRec => r.takeStrobe p w) = fun r =>
      if r.strobe.get p = none then { r with strobe := r.strobe.set p (some w) } else r := by
    funext r
    simp only [FrameRec.takeStrobe, Option.isNone_iff_eq_none]
  have hp : (s.onPanel p fun x => if 0 < w then { x with strobe := .on, strobeEnd := x.strobeAt + BitVec.ofNat 32 w }
      else { x with strobe := .idle }) = s.onPanel p f := State.onPanel_congr hf.symm
  unfold State.beginStrobe
  dsimp only
  rw [hw, hp, hr]
  rfl

/-- Settles O41. -/
theorem strobeStartsAndEnds : Obligations.StrobeStartsAndEnds := by
  intro s p hh x w goes record idle
  refine ⟨fun hd hw => ?_, fun hd hw ha => ?_, fun hd ha => ?_, fun r hd ha hr hp => ?_⟩
  · refine (exec_strobeStart hh hd).trans ?_
    rw [State.edged, State.beginStrobe_eq (w := w) rfl (fun x => { x with strobe := .on, strobeEnd := x.strobeAt + BitVec.ofNat 32 w })
      (if_pos hw).symm, State.tryComplete_waits]
    exact .inr (.inr (congrArg PanelState.strobe (State.panel_onPanel_same s p _)))
  · refine (exec_strobeStart hh hd).trans ?_
    rw [State.edged, State.beginStrobe_eq (w := w) rfl idle (if_neg hw.not_gt).symm, State.tryComplete_waits]
    exact .inl ((congrArg PanelState.scan (State.panel_onPanel_same s p _)).trans ha)
  · refine (exec_strobeEnd hh hd).trans ?_
    have he : s.endStrobe p = s.onPanel p idle :=
      State.tryComplete_waits (.inl ((congrArg PanelState.scan (State.panel_onPanel_same s p _)).trans ha))
    rw [State.edged, he]
    rfl
  · refine (exec_strobeEnd hh hd).trans ?_
    have hx : (s.onPanel p idle).panel p = idle x := State.panel_onPanel_same s p _
    have hget : s.ftm.pendingPanels.get p = true := by rw [hp]; cases p <;> rfl
    have hother : ¬ (if p = .a then s.ftm.pendingPanels.b else s.ftm.pendingPanels.a) = true := by rw [hp]; cases p <;> decide
    have he : s.endStrobe p = { s.onPanel p idle with
        ftm := { s.ftm with scanning := none, done := some { r with state := .done }, pendingPanels := ⟨false, false⟩ }
        evu := s.evu.take .frameReport ({ r with state := .done } : FrameRec).report s.now s.timeUnset } := by
      refine (State.tryComplete_completes ?_ ?_ ?_).trans ((State.completion_awaited (s := s.onPanel p idle) hr hget).trans (if_neg hother))
      · rw [hx]; exact ha
      · rw [hx]; exact nofun
      · rw [hx]; exact nofun
    rw [State.edged, he]
    rfl

/-! ### The line-out (R91, R95, R96) -/

theorem exec_lineOut {p : Side} (hh : s.held = false) (hd : s.lineDue p = true) : exec (.lineOut p) s = .next (s.lineOut p) := by
  show Host.Outcome.next (s.live _) = _
  rw [State.live_of_free _ hh, if_pos hd]

/-- A line-out changes its panel, and counts a missing line in the SCANNING record (R95). -/
theorem State.outputLine_eq (s : State) (p : Side) (y : Nat) : s.outputLine p y =
    (s.onPanel p fun x => x.lineSent s.ftm.scanFrame y).onScanning fun r =>
      if ((s.panel p).moveTo s.ftm.scanFrame y).missingAt s.ftm.scanFrame y = true then r.addMissing p else r := by
  unfold State.outputLine
  dsimp only
  split
  · rfl
  · simp only [State.onScanning, State.onFtm, Option.map_id']
    rfl

/-- A panel after its scan's last line-out (R96). -/
def PanelState.scanEnded (x : PanelState) (F : Option FrameNo) : PanelState :=
  { x.moveTo F x.inForce.height with scan := .blank }

/-- The end of a scan: the panel is BLANK at its height, the missing lines are judged, and the panel completes (R96, R101). -/
theorem State.scanEnds_eq (s : State) (p : Side) : s.scanEnds p =
    ((s.endScan p).onPanel p fun x => x.scanEnded s.ftm.scanFrame).tryComplete p := by
  have hcomm : ∀ u : State, ∀ f, (u.onPanel p f).endScan p = (u.endScan p).onPanel p f := by
    intro u f
    cases h : u.ftm.scanning with
    | none => rw [State.endScan_none h, State.endScan_none (s := u.onPanel p f) h]
    | some r => rw [State.endScan_some h, State.endScan_some (s := u.onPanel p f) h]; rfl
  unfold State.scanEnds State.closeScan
  rw [hcomm]
  cases p <;> rfl

/-- The panels after a line-out: one panel has its line sent, and its scan ended with the last line (R95, R96). -/
theorem State.lineOut_pxp (s : State) (p : Side) : (s.lineOut p).pxp =
    if (s.panel p).pos + 1 + 1 = (s.panel p).inForce.height then
      (s.onPanel p fun x => (x.lineSent s.ftm.scanFrame ((s.panel p).pos + 1)).scanEnded s.ftm.scanFrame).pxp
    else (s.onPanel p fun x => x.lineSent s.ftm.scanFrame ((s.panel p).pos + 1)).pxp := by
  have hF := (s.outputLine_recorded p ((s.panel p).pos + 1)).scanFrame
  have hu := s.outputLine_pxp p ((s.panel p).pos + 1)
  unfold State.lineOut
  dsimp only
  split
  · rw [State.scanEnds_eq, State.tryComplete_pxp, hF]
    generalize s.outputLine p ((s.panel p).pos + 1) = u at hu
    have he : (u.endScan p).pxp = u.pxp := State.endScan_pxp u p
    simp only [State.onPanel, State.onPxp, he, hu, Duo.modify]
    cases p <;> rfl
  · exact hu

/-- The line that a panel sends: black outside the picture, the ring's line shifted, or the fill (R95). -/
theorem PanelState.lineFor_outside {x : PanelState} {F : Option FrameNo} {y : Nat}
    (h : ¬ (0 ≤ (y : Int) + x.shift.dy ∧ (y : Int) + x.shift.dy < x.inForce.height)) :
    x.lineFor F y = List.replicate x.inForce.width .black := if_neg h

theorem PanelState.lineFor_found {x : PanelState} {F : Option FrameNo} {y : Nat} {r : RingLine}
    (h : 0 ≤ (y : Int) + x.shift.dy ∧ (y : Int) + x.shift.dy < x.inForce.height)
    (hf : findLine F x.ring ((y : Int) + x.shift.dy) = some r) :
    x.lineFor F y = shiftLine x.inForce.width x.shift.dx r.pixels := by
  unfold PanelState.lineFor
  dsimp only
  rw [if_pos h, hf]

theorem PanelState.lineFor_missing {x : PanelState} {F : Option FrameNo} {y : Nat}
    (h : 0 ≤ (y : Int) + x.shift.dy ∧ (y : Int) + x.shift.dy < x.inForce.height)
    (hf : findLine F x.ring ((y : Int) + x.shift.dy) = none) :
    x.lineFor F y = if x.inForce.repeatFill then x.lastLine.getD (List.replicate x.inForce.width .black)
      else List.replicate x.inForce.width .black := by
  unfold PanelState.lineFor
  dsimp only
  rw [if_pos h, hf]
  rfl

theorem length_shiftLine (W : Nat) (dx : Int) (px : List Pixel) : (shiftLine W dx px).length = W := by simp [shiftLine]

theorem getD_shiftLine {W k : Nat} (h : k < W) (dx : Int) (px : List Pixel) : (shiftLine W dx px).getD k .black =
    if 0 ≤ (k : Int) - dx ∧ (k : Int) - dx < W then px.getD ((k : Int) - dx).toNat .black else .black := by
  simp only [shiftLine, bind_pure_comp, List.map_eq_map]
  rw [List.getD_eq_getElem?_getD, List.getElem?_map, List.getElem?_map, List.getElem?_range h]
  rfl

/-- What a line-out leaves of the rest of the state. -/
theorem State.lineOut_rest (s : State) (p : Side) : ({ s.lineOut p with pxp := s.pxp, ftm := s.ftm, evu := s.evu } : State) = s := by
  have w := s.lineOut_within p
  have e : s.lineOut p = { s.lineOut p with
      pending := s.pending, hold := s.hold, clock := s.clock, lrx := s.lrx, ltx := s.ltx, stu := s.stu, mrs := s.mrs, cfl := s.cfl
      mou := s.mou, lsu := s.lsu, auu := s.auu, pte := s.pte, pmg := s.pmg } := by
    rw [← w.clock.resolve_left (by decide), ← w.lrx.resolve_left (by decide), ← w.ltx.resolve_left (by decide),
      ← w.stu.resolve_left (by decide), ← w.mrs.resolve_left (by decide), ← w.cfl.resolve_left (by decide),
      ← w.mou.resolve_left (by decide), ← w.lsu.resolve_left (by decide), ← w.auu.resolve_left (by decide),
      ← w.pte.resolve_left (by decide), ← w.pmg.resolve_left (by decide), ← w.pending, ← w.hold]
  rw [e]

/-- Settles O40. -/
theorem lineOutSendsLine : Obligations.LineOutSendsLine := by
  intro s p F hh hd hF x y W H src ring found black counted
  have hfound : findLine s.ftm.scanFrame ring src = found := rfl
  have hmove : x.moveTo s.ftm.scanFrame y = { x with pos := y, ring := ring } := by
    rw [hF]; rfl
  have hmiss : (x.moveTo s.ftm.scanFrame y).missingAt s.ftm.scanFrame y = decide (0 ≤ src ∧ src < H ∧ found = none) := by
    rw [hmove]
    show (decide (0 ≤ src ∧ src < (H : Int)) && found.isNone) = _
    rw [Bool.eq_iff_iff]
    simp [and_assoc]
  have hscan : x.scan = .active := by
    simp only [State.lineDue, Bool.and_eq_true, decide_eq_true_eq] at hd
    exact hd.1.1
  let moved : PanelState := { x with pos := y, ring := ring }
  let sent := x.lineSent s.ftm.scanFrame y
  have hP : (s.lineOut p).panel p = if y + 1 = H then sent.scanEnded s.ftm.scanFrame else sent := by
    rw [State.panel, s.lineOut_pxp p]
    split <;> exact State.panel_onPanel_same _ _ _
  have hother : ∀ q, q ≠ p → (s.lineOut p).panel q = s.panel q := by
    intro q hq
    rw [State.panel, s.lineOut_pxp p]
    split <;> exact State.panel_onPanel_other _ _ hq
  have hlast : ((s.lineOut p).panel p).lastLine = some (moved.lineFor s.ftm.scanFrame y) := by
    rw [show moved = x.moveTo s.ftm.scanFrame y from hmove.symm, hP]
    split <;> rfl
  have hmissing : ((s.lineOut p).panel p).missingLines = satAdd x.missingLines (bit (decide (0 ≤ src ∧ src < H ∧ found = none))) := by
    rw [← hmiss, hP]
    split <;> rfl
  have hu : s.outputLine p y = (s.onPanel p fun x => x.lineSent s.ftm.scanFrame y).onScanning counted := by
    rw [s.outputLine_eq p y, hmiss]
    simp only [decide_eq_true_eq]
    rfl
  refine ⟨s.lineOut p, exec_lineOut hh hd, fun ho => ?_, fun h0 h1 hn => ?_, fun h0 h1 r hr => ?_, fun hy => ?_, fun hy => ?_,
    fun hy hn => ?_, fun r hy hr => ?_, ?_, hother, s.lineOut_rest p⟩
  · have hout : ¬ (0 ≤ src ∧ src < H) := by omega
    rw [hlast, hmissing, PanelState.lineFor_outside (x := moved) hout, decide_eq_false (fun h => hout ⟨h.1, h.2.1⟩)]
    exact ⟨rfl, rfl⟩
  · rw [hlast, hmissing, PanelState.lineFor_missing (x := moved) ⟨h0, h1⟩ (hfound.trans hn), decide_eq_true ⟨h0, h1, hn⟩]
    exact ⟨rfl, rfl⟩
  · rw [hlast, hmissing, PanelState.lineFor_found (x := moved) ⟨h0, h1⟩ (hfound.trans hr), decide_eq_false (by rw [hr]; simp)]
    exact ⟨rfl, _, rfl, length_shiftLine _ _ _, fun k hk => getD_shiftLine hk _ _⟩
  · have ht : s.lineOut p = s.outputLine p y := if_neg hy
    rw [hP, if_neg hy, ht, hu]
    exact ⟨rfl, hscan, congrArg PanelState.ring hmove, rfl, rfl⟩
  · rw [hP, if_pos hy]
    refine ⟨rfl, rfl, ?_⟩
    have hr : sent.ring = ring := congrArg PanelState.ring hmove
    rw [← hr, hF]
    rfl
  · have hu' : (s.outputLine p y).ftm.scanning = none := by rw [hu]; exact congrArg (Option.map counted) hn
    have hs : s.ftm = { s.ftm with scanning := s.ftm.scanning.map counted } := by rw [hn, Option.map_none, ← hn]
    have ht : s.lineOut p = (((s.outputLine p y).onPanel p fun x => x.scanEnded (s.outputLine p y).ftm.scanFrame).tryComplete p) := by
      refine (if_pos hy).trans ?_
      rw [State.scanEnds_eq, State.endScan_none hu']
    have hv : s.lineOut p = ((s.outputLine p y).onPanel p fun x => x.scanEnded (s.outputLine p y).ftm.scanFrame) := by
      rw [ht, State.tryComplete, State.completion_ignored (s := (s.outputLine p y).onPanel p _) (.inl hu'), ite_self]
    rw [hv, hu]
    exact ⟨hs.symm, rfl⟩
  · intro lines judged told completes others done
    have hcount : (counted r).flags = r.flags ∧ (counted r).number = r.number := by
      show (if _ then _ else _ : FrameRec).flags = _ ∧ (if _ then _ else _ : FrameRec).number = _
      split <;> exact ⟨rfl, rfl⟩
    have hjudged : { counted r with flags := { (counted r).flags with
        incomplete := (counted r).flags.incomplete || decide (0 < (counted r).missing.get p) } } = judged := by
      by_cases hl : 0 < lines
      · rw [show judged = _ from if_pos hl, decide_eq_true (show 0 < (counted r).missing.get p from hl), Bool.or_true, hcount.1]
      · rw [show judged = _ from if_neg hl, decide_eq_false (show ¬ 0 < (counted r).missing.get p from hl), Bool.or_false]
    let ended : State := { (s.onPanel p fun x => x.lineSent s.ftm.scanFrame y).onPanel p fun x => x.scanEnded s.ftm.scanFrame with
      ftm := { s.ftm with scanning := some judged }, evu := told }
    have ht : s.lineOut p = ended.tryComplete p := by
      have hU : ((s.onPanel p fun x => x.lineSent s.ftm.scanFrame y).onScanning counted).ftm.scanning = some (counted r) :=
        congrArg (Option.map counted) hr
      refine (if_pos hy).trans ?_
      rw [State.scanEnds_eq, hu, State.endScan_some hU, hjudged, hcount.2]
      rfl
    have hx : (ended.panel p).scan = .blank ∧ (ended.panel p).strobe = x.strobe := by
      have : ended.panel p = sent.scanEnded s.ftm.scanFrame :=
        (State.panel_onPanel_same _ _ _).trans (congrArg (fun x => PanelState.scanEnded x _) (State.panel_onPanel_same _ _ _))
      rw [this]
      exact ⟨rfl, rfl⟩
    have hdone : completes → s.lineOut p = ended.completion p := fun ⟨h1, h2, _⟩ =>
      ht.trans (State.tryComplete_completes (by rw [hx.1]; exact nofun) (by rw [hx.2]; exact h1) (by rw [hx.2]; exact h2))
    refine ⟨fun hc => ?_, fun hc ho => ?_, fun hc ho => ?_⟩
    · have hv : s.lineOut p = ended := by
        rw [ht]
        by_cases hb : x.strobe = .pending ∨ x.strobe = .on
        · exact State.tryComplete_waits (.inr (by rw [hx.2]; exact hb))
        · have hp : s.ftm.pendingPanels.get p = false := by
            have : ¬ s.ftm.pendingPanels.get p = true := fun hp => hc ⟨fun h => hb (.inl h), fun h => hb (.inr h), hp⟩
            simpa using this
          rw [State.tryComplete, State.completion_ignored (s := ended) (.inr hp), ite_self]
      rw [hv]
      exact ⟨rfl, rfl⟩
    · have ho' : (if p = .a then ended.ftm.pendingPanels.b else ended.ftm.pendingPanels.a) = true := ho
      rw [hdone hc, State.completion_awaited (s := ended) rfl hc.2.2, if_pos ho']
      exact ⟨rfl, rfl⟩
    · have ho' : ¬ (if p = .a then ended.ftm.pendingPanels.b else ended.ftm.pendingPanels.a) = true := fun h =>
        Bool.false_ne_true (ho.symm.trans h)
      rw [hdone hc, State.completion_awaited (s := ended) rfl hc.2.2, if_neg ho']
      exact ⟨rfl, rfl⟩
  · rw [hP]
    split <;> rfl

end Sys2Proof.Machine
end

section
/-! The audio unit on its frame clock, and the cells that fill its buffer (chapter 8). -/

namespace Sys2Proof.Machine

open Sys2Proof

variable {s : State}

/-! ### The frame clock (R141 to R149) -/

theorem exec_periodStart (hh : s.held = false) (hd : s.periodDue = true) : exec .periodStart s = .next s.period := by
  show Host.Outcome.next (s.live _) = _
  rw [State.live_of_free _ hh, if_pos hd]

theorem exec_outputFrame (hh : s.held = false) (hd : s.frameDue = true) :
    exec .outputFrame s = .next (s.onAuu fun a => a.output s.pte.tone) := by
  show Host.Outcome.next (s.live _) = _
  rw [State.live_of_free _ hh, if_pos hd]

theorem exec_microphoneSample (hh : s.held = false) (hd : s.micReady = true) (x : Sample) :
    exec (.microphoneSample x) s = .next (s.micSample x) := by
  show Host.Outcome.next (s.live _) = _
  rw [State.live_of_free _ hh, if_pos hd]

theorem exec_micBlockComplete (hh : s.held = false) (hd : s.micReady = true) (x : Sample) :
    exec (.micBlockComplete x) s = .next (if s.auu.micCount + 1 = micSamples then s.micSample x else s) := by
  show Host.Outcome.next (s.live _) = _
  rw [State.live_of_free _ hh, if_pos hd]

theorem clampInt_mem {lo hi : Int} (h : lo ≤ hi) (x : Int) : lo ≤ clampInt lo hi x ∧ clampInt lo hi x ≤ hi := by
  unfold clampInt
  omega

theorem clampInt_of_mem {lo hi x : Int} (h : lo ≤ x ∧ x ≤ hi) : clampInt lo hi x = x := by
  unfold clampInt
  omega

/-- A whole multiple is divided without rounding. -/
theorem roundDiv_mul_self (x : Int) : roundDiv (x * 32768) 32768 = x := by
  have hn : (x * 32768).natAbs = x.natAbs * 32768 := Int.natAbs_mul _ _
  unfold roundDiv
  rw [hn]
  split <;> omega

theorem roundDiv_zero : roundDiv 0 32768 = 0 := by decide

/-- The mixer stays in the range of a sample, passes the sum at full gain and is silent at gain 0 (R146). -/
theorem mix_range (x tone : Int) (gain : Nat) : -32768 ≤ mix x tone gain ∧ mix x tone gain ≤ 32767
    ∧ mix x tone 32768 = max (-32768) (min 32767 (x + tone)) ∧ mix x tone 0 = 0 := by
  obtain ⟨h1, h2⟩ := clampInt_mem (by decide : (-32768 : Int) ≤ 32767)
    (roundDiv (clampInt (-32768) 32767 (x + tone) * gain) 32768)
  refine ⟨h1, h2, ?_, ?_⟩
  · show clampInt _ _ (roundDiv (clampInt (-32768) 32767 (x + tone) * 32768) 32768) = _
    rw [roundDiv_mul_self, clampInt_of_mem (clampInt_mem (by decide) _)]
    rfl
  · show clampInt _ _ (roundDiv (clampInt (-32768) 32767 (x + tone) * 0) 32768) = _
    rw [Int.mul_zero, roundDiv_zero]
    decide

/-- A sample makes the block being built one sample longer (R149). -/
theorem micTake_length (s : State) (x : Sample) : (micTake s.auu.mic s.now x).samples.length = s.auu.micCount + 1 := by
  unfold micTake Auu.micCount
  cases s.auu.mic with
  | none => rfl
  | some b => exact List.length_append

/-- A period start in PLAYING takes the oldest block (R143, R145). -/
theorem State.period_takes {b : Block} {rest : List Block} (hp : s.auu.state = .playing) (hb : s.auu.buffer = b :: rest) :
    s.period = (s.onAuu Auu.newPeriod).onAuu fun a =>
      { a with buffer := rest, playout := some b, servoF := servoStep a.servoF rest.length a.fillTarget } := by
  have hp' : (s.onAuu Auu.newPeriod).auu.state = .playing := hp
  have hb' : (s.onAuu Auu.newPeriod).auu.buffer = b :: rest := hb
  simp only [State.period, if_pos hp', hb']

/-- A period start in PLAYING without a block is an underrun (R144). -/
theorem State.period_underrun (hp : s.auu.state = .playing) (hb : s.auu.buffer = []) :
    s.period = ((s.onAuu Auu.newPeriod).onAuu fun a =>
      { a with state := .filling, playout := none, underruns := satInc a.underruns }).raise .audioUnderrun
        (audioDetail s.auu.owner (satInc s.auu.underruns)) := by
  have hp' : (s.onAuu Auu.newPeriod).auu.state = .playing := hp
  have hb' : (s.onAuu Auu.newPeriod).auu.buffer = [] := hb
  simp only [State.period, if_pos hp', hb']

/-- Settles O48. -/
theorem audioRunsOnFrameClock : Obligations.AudioRunsOnFrameClock := by
  intro s hh a target started frame
  refine ⟨fun b rest hd hp hb => ?_, fun hd hp hb => ?_, fun hd hp => ?_, fun hd => exec_outputFrame hh hd, mix_range,
    fun x hm => ?_⟩
  · rw [exec_periodStart hh hd, State.period_takes hp hb]
    rfl
  · rw [exec_periodStart hh hd, State.period_underrun hp hb]
    rfl
  · have hp' : ¬ (s.onAuu Auu.newPeriod).auu.state = .playing := hp
    rw [exec_periodStart hh hd, State.period]
    exact congrArg Host.Outcome.next (if_neg hp')
  intro b
  refine ⟨fun hb => ?_, fun hb => ?_⟩
  · have hlen : (micTake s.auu.mic s.now x).samples.length < micSamples := hb
    have hn : ¬ s.auu.micCount + 1 = micSamples := by
      rw [← micTake_length s x]
      exact hlen.ne
    rw [exec_micBlockComplete hh hm, if_neg hn, exec_microphoneSample hh hm, State.micSample]
    exact ⟨congrArg Host.Outcome.next (if_pos hlen), rfl⟩
  · have hlen : (micTake s.auu.mic s.now x).samples.length = micSamples := hb
    have hs : s.micSample x = (s.onAuu fun a => { a with micDue := false, mic := none, micBlocks := satInc a.micBlocks }).onLtx
        fun t => t.enqueueVoice b.payload := if_neg (by rw [hlen]; exact lt_irrefl _)
    rw [exec_micBlockComplete hh hm, if_pos ((micTake_length s x).symm.trans hlen), exec_microphoneSample hh hm, hs]
    by_cases hv : s.ltx.voice.length < 8
    · refine ⟨_, _, ?_, rfl, fun _ => ⟨rfl, rfl⟩, fun h => absurd hv (not_lt.mpr h)⟩
      exact congrArg (fun l => Host.Outcome.next ({ s.onAuu _ with ltx := l } : State)) (if_pos hv)
    · refine ⟨_, _, ?_, rfl, fun h => absurd h hv, fun _ => ⟨rfl, rfl⟩⟩
      exact congrArg (fun l => Host.Outcome.next ({ s.onAuu _ with ltx := l } : State)) (if_neg hv)

end Sys2Proof.Machine
end

section
/-! A cell steered to the audio unit (8.2 to 8.4): the blocks that join the jitter buffer, by the state and the gap. -/

namespace Sys2Proof.Machine

open Sys2Proof

variable {s : State}

/-! ### The jitter buffer (R139) -/

/-- Buffer, overrun counter and event unit after one block more: at a full buffer the oldest goes first, counted, with
AUDIO_OVERRUN. -/
def bufferAdd (owner : Nat) (now : Time) (unset : Bool) (x : List Block × Nat × Evu) (b : Block) : List Block × Nat × Evu :=
  if x.1.length < 24 then (x.1 ++ [b], x.2)
  else (x.1.drop 1 ++ [b], satInc x.2.1, x.2.2.take .audioOverrun (leBytes 1 owner ++ leBytes 4 (satInc x.2.1)) now unset)

/-- The state with its jitter buffer, its overrun counter and its event unit. -/
def State.withBuffer (s : State) (x : List Block × Nat × Evu) : State :=
  { s with auu := { s.auu with buffer := x.1, overruns := x.2.1 }, evu := x.2.2 }

theorem State.audioAppend_withBuffer (s : State) (x : List Block × Nat × Evu) (b : Block) :
    (s.withBuffer x).audioAppend b = s.withBuffer (bufferAdd s.auu.owner s.now s.timeUnset x b) := by
  unfold bufferAdd State.audioAppend
  rw [show (s.withBuffer x).auu.buffer = x.1 from rfl, show bufferCapacity = 24 from rfl]
  split <;> rfl

theorem State.audioSilence_withBuffer (s : State) (n : Nat) (x : List Block × Nat × Evu) : State.audioSilence n (s.withBuffer x) =
    s.withBuffer ((List.replicate n silence).foldl (bufferAdd s.auu.owner s.now s.timeUnset) x) := by
  induction n generalizing x with
  | zero => rfl
  | succ n ih =>
    rw [State.audioSilence, State.audioAppend_withBuffer, ih]
    rfl

/-- The blocks of a gap and the block behind it, appended (R139, R140). -/
theorem State.audioAppend_gap (s : State) (n : Nat) (b : Block) : (State.audioSilence n s).audioAppend b =
    s.withBuffer ((List.replicate n silence ++ [b]).foldl (bufferAdd s.auu.owner s.now s.timeUnset)
      (s.auu.buffer, s.auu.overruns, s.evu)) := by
  have h : State.audioSilence n s = State.audioSilence n (s.withBuffer (s.auu.buffer, s.auu.overruns, s.evu)) := rfl
  rw [h, State.audioSilence_withBuffer, State.audioAppend_withBuffer, List.foldl_append]
  rfl

theorem Auu.judgeFill_eq (a : Auu) : a.judgeFill =
    { a with state := if a.state = .filling ∧ a.fillTarget ≤ a.buffer.length then .playing else a.state } := by
  unfold Auu.judgeFill
  split <;> rfl

/-! ### One cell (R136 to R140) -/

/-- The block that a cell brings: silence where its LEN is not 32 (R136). -/
def cellBlock (len : Nat) (bytes : List Byte) : Block := if len = 32 then blockOf bytes else silence

/-- The audio unit with a malformed block counted (R136). -/
def Auu.formed (a : Auu) (len : Nat) : Auu :=
  { a with malformedBlocks := if len = 32 then a.malformedBlocks else satInc a.malformedBlocks }

section
variable (sn : Fin 32) (len : Nat) (bytes : List Byte)

theorem State.audioCell_eq (s : State) (gap : Option Nat) : s.audioCell sn len bytes gap =
    if s.auu.state = .stopped then State.audioFirst { s with auu := s.auu.formed len } sn (cellBlock len bytes)
    else if s.auu.owner = sn.val then
      State.audioOwned { s with auu := { s.auu.formed len with idleAt := some (s.osc + 2457600) } } (cellBlock len bytes) gap
    else { s with auu := { s.auu.formed len with foreignBlocks := satInc s.auu.foreignBlocks } } := by
  have hs : (if len = 32 then s else s.onAuu fun a => { a with malformedBlocks := satInc a.malformedBlocks }) =
      { s with auu := s.auu.formed len } := by
    unfold Auu.formed
    split <;> rfl
  unfold State.audioCell
  dsimp only
  rw [hs]
  rfl

/-- A block alone in the buffer is below the fill target, which is 2 at least. -/
theorem Auu.judgeFill_single {a : Auu} {b : Block} (hb : a.buffer = [b]) (hf : 2 ≤ a.fillTarget) : a.judgeFill = a := by
  unfold Auu.judgeFill
  refine if_neg ?_
  rintro ⟨-, h⟩
  rw [hb] at h
  exact Nat.not_succ_le_self 1 (hf.trans h)

/-- A block appended to an empty buffer. -/
theorem State.audioAppend_empty {b : Block} (h : s.auu.buffer = []) : s.audioAppend b = { s with auu := { s.auu with buffer := [b] } } := by
  refine (if_pos (by rw [h]; decide)).trans ?_
  unfold State.onAuu
  dsimp only
  rw [h]
  rfl

variable {len : Nat}

theorem State.audioCell_first (gap : Option Nat) (hs : s.auu.state = .stopped) (hb : s.auu.buffer = []) (hf : 2 ≤ s.auu.fillTarget) :
    s.audioCell sn len bytes gap = { s with auu := { s.auu.formed len with
      owner := sn.val, buffer := [cellBlock len bytes], blocks := satInc s.auu.blocks, state := .filling
      idleAt := some (s.osc + 2457600) } } := by
  rw [State.audioCell_eq, if_pos hs, State.audioFirst, State.audioAppend_empty (by exact hb)]
  unfold State.onAuu
  dsimp only
  rw [Auu.judgeFill_single (b := cellBlock len bytes) (by rfl) (by exact hf)]
  rfl

theorem State.audioCell_foreign (gap : Option Nat) (hs : s.auu.state ≠ .stopped) (ho : s.auu.owner ≠ sn.val) :
    s.audioCell sn len bytes gap =
      { s with auu := { s.auu.formed len with foreignBlocks := satInc s.auu.foreignBlocks } } := by
  rw [State.audioCell_eq, if_neg hs, if_neg ho]

theorem State.audioCell_owned (gap : Option Nat) (hs : s.auu.state ≠ .stopped) (ho : s.auu.owner = sn.val) :
    s.audioCell sn len bytes gap =
      State.audioOwned { s with auu := { s.auu.formed len with idleAt := some (s.osc + 2457600) } } (cellBlock len bytes) gap := by
  rw [State.audioCell_eq, if_neg hs, if_pos ho]

/-- The blocks of a gap `g`, 0 for none, and the cell's block, appended to the jitter buffer. -/
def State.audioFilled (s : State) (g : Nat) (b : Block) : List Block × Nat × Evu :=
  (List.replicate g silence ++ [b]).foldl (bufferAdd s.auu.owner s.now s.timeUnset) (s.auu.buffer, s.auu.overruns, s.evu)

theorem State.audioCell_joins {g : Nat} (hg : g ≤ 3) (hs : s.auu.state ≠ .stopped) (ho : s.auu.owner = sn.val) :
    let filled := s.audioFilled g (cellBlock len bytes)
    s.audioCell sn len bytes (if g = 0 then none else some g) = { s with
      auu := { s.auu.formed len with
        buffer := filled.1, overruns := filled.2.1, idleAt := some (s.osc + 2457600), blocks := satInc s.auu.blocks
        silenceBlocks := if g = 0 then s.auu.silenceBlocks else satAdd s.auu.silenceBlocks g
        state := if s.auu.state = .filling ∧ s.auu.fillTarget ≤ filled.1.length then .playing else s.auu.state }
      evu := if g = 0 then filled.2.2
        else filled.2.2.take .audioGap (leBytes 1 s.auu.owner ++ leBytes 1 g) s.now s.timeUnset } := by
  intro filled
  rw [State.audioCell_owned sn bytes _ hs ho]
  by_cases h0 : g = 0
  · subst h0
    have ha := State.audioAppend_gap { s with auu := { s.auu.formed len with idleAt := some (s.osc + 2457600) } } 0 (cellBlock len bytes)
    rw [show ∀ u : State, State.audioSilence 0 u = u from fun _ => rfl] at ha
    simp only [if_true, State.audioOwned, ha, Auu.judgeFill_eq]
    rfl
  · simp only [if_neg h0, State.audioOwned, if_pos hg, State.audioAppend_gap, Auu.judgeFill_eq]
    rfl

theorem State.audioCell_flushes {g : Nat} (h4 : 4 ≤ g) (hg : g ≤ 127) (hs : s.auu.state ≠ .stopped) (ho : s.auu.owner = sn.val) :
    s.audioCell sn len bytes (if g = 0 then none else some g) = { s with auu := Auu.judgeFill { s.auu.formed len with
      buffer := [cellBlock len bytes], state := .filling, gapFlushes := satInc s.auu.gapFlushes, blocks := satInc s.auu.blocks
      idleAt := some (s.osc + 2457600) } } := by
  have h0 : g ≠ 0 := by omega
  have h3 : ¬ g ≤ 3 := by omega
  rw [State.audioCell_owned sn bytes _ hs ho, if_neg h0, State.audioOwned, if_neg h3, if_pos hg, State.audioAppend_empty (by rfl)]
  rfl

theorem State.audioCell_late {g : Nat} (hg : 127 < g) (hs : s.auu.state ≠ .stopped) (ho : s.auu.owner = sn.val) :
    s.audioCell sn len bytes (if g = 0 then none else some g) = { s with auu := { s.auu.formed len with
      lateBlocks := satInc s.auu.lateBlocks, idleAt := some (s.osc + 2457600) } } := by
  have h0 : g ≠ 0 := by omega
  have h3 : ¬ g ≤ 3 := by omega
  rw [State.audioCell_owned sn bytes _ hs ho, if_neg h0, State.audioOwned, if_neg h3, if_neg (not_le.mpr hg)]
  rfl

end

/-! ### The arrival -/

/-- The gap that a stream entry indicates, 0 for none (R30). -/
def StreamEntry.gapLength (e : StreamEntry) (seq : Byte) : Nat :=
  if e.tracking = false then 0
  else if (seq - (e.lastSeq + 1)).toNat = 0 then bit e.gapPending else (seq - (e.lastSeq + 1)).toNat

theorem StreamEntry.gap_eq (e : StreamEntry) (seq : Byte) :
    e.gap seq = if e.gapLength seq = 0 then none else some (e.gapLength seq) := by
  unfold StreamEntry.gap StreamEntry.gapLength
  dsimp only
  generalize (seq - (e.lastSeq + 1)).toNat = g
  by_cases hg : g = 0 <;> cases e.tracking <;> cases e.gapPending <;> simp [hg, bit]

/-- A cell at an audio unit that is not STOPPED leaves it so, and changes its own block and events alone. -/
theorem State.audioCell_playing (s : State) (sn : Fin 32) (len : Nat) (bytes : List Byte) {g : Nat} (hs : s.auu.state ≠ .stopped) :
    ∃ (x : Auu) (y : Evu), s.audioCell sn len bytes (if g = 0 then none else some g) = { s with auu := x, evu := y }
      ∧ x.state ≠ .stopped ∧ x.cap = s.auu.cap
      ∧ y = if (s.auu.state ≠ .stopped ∧ s.auu.owner = sn.val) ∧ g = 0 then (s.audioFilled g (cellBlock len bytes)).2.2
        else if (s.auu.state ≠ .stopped ∧ s.auu.owner = sn.val) ∧ g ≤ 3 then
          (s.audioFilled g (cellBlock len bytes)).2.2.take .audioGap (leBytes 1 s.auu.owner ++ leBytes 1 g) s.now s.timeUnset
        else s.evu := by
  by_cases ho : s.auu.owner = sn.val
  · by_cases h3 : g ≤ 3
    · refine ⟨_, _, State.audioCell_joins sn bytes h3 hs ho, ?_, rfl, ?_⟩
      · dsimp only
        split
        · exact nofun
        · exact hs
      · simp only [hs, ho, h3, ne_eq, not_false_eq_true, and_self, true_and, if_true]
    · have h0 : g ≠ 0 := by omega
      by_cases h127 : g ≤ 127
      · refine ⟨_, _, State.audioCell_flushes sn bytes (by omega) h127 hs ho, ?_, ?_, ?_⟩
        · rw [ne_eq, Auu.judgeFill_stopped]
          exact nofun
        · rw [Auu.judgeFill_eq]
          rfl
        · simp only [h0, h3, and_false, if_false]
      · refine ⟨_, _, State.audioCell_late sn bytes (not_le.mp h127) hs ho, hs, rfl, ?_⟩
        simp only [h0, h3, and_false, if_false]
  · refine ⟨_, _, State.audioCell_foreign sn bytes _ hs ho, hs, rfl, ?_⟩
    simp only [ho, and_false, false_and, if_false]

/-- What a change of the audio unit and the event unit leaves. -/
theorem Within.restore_audio {s t : State} (w : Within [.auu, .evu] s t) : { t with auu := s.auu, evu := s.evu } = s := by
  have hp := w.pending
  have hh := w.hold
  have h1 := w.clock.resolve_left (by decide)
  have h2 := w.lrx.resolve_left (by decide)
  have h3 := w.ltx.resolve_left (by decide)
  have h4 := w.stu.resolve_left (by decide)
  have h5 := w.mrs.resolve_left (by decide)
  have h6 := w.cfl.resolve_left (by decide)
  have h7 := w.ftm.resolve_left (by decide)
  have h8 := w.pxp.resolve_left (by decide)
  have h9 := w.mou.resolve_left (by decide)
  have h10 := w.lsu.resolve_left (by decide)
  have h11 := w.pte.resolve_left (by decide)
  have h12 := w.pmg.resolve_left (by decide)
  cases s
  cases t
  simp only at hp hh h1 h2 h3 h4 h5 h6 h7 h8 h9 h10 h11 h12
  simp only [hp, hh, h1, h2, h3, h4, h5, h6, h7, h8, h9, h10, h11, h12]

/-- Settles O47. -/
theorem audioCellsFillBuffer : Obligations.AudioCellsFillBuffer := by
  intro s c payload p0 p1 hh hc hl hs hk hn hg hd a e g gap sample silent block old add filled owned timer tracked
  let bytes := payload.take (4 * c.len)
  have he : exec (.cellArrival payload p0 p1) s = .next (a.edged fun s => s.steering c bytes) :=
    exec_steeredArrival hh hc hl hs hn hg
  have hown : OwnersKept s a :=
    (show OwnersKept s (s.arrived true) from ⟨⟨rfl, rfl, rfl, rfl, rfl, rfl, rfl, rfl⟩, fun _ => rfl, fun _ => rfl, .rfl, rfl, rfl,
      rfl, fun _ => rfl, rfl⟩).trans (.of_sensors (State.handEdges_work _ _ _))
  have hblock : cellBlock c.len bytes = block := by
    unfold cellBlock
    by_cases h : c.len = 32
    · have hb : bytes = payload := List.take_of_length_le (by rw [hn, h])
      rw [hb, show block = _ from if_pos h, if_pos h]
      rfl
    · rw [show block = _ from if_neg h, if_neg h]
      rfl
  obtain ⟨m, hm⟩ : ∃ m, a = { s.arrived true with mou := m } := ⟨_, s.counted_eq true⟩
  clear_value a
  subst hm
  let v : State := State.trackCell { s.arrived true with mou := m } c
  let w := v.audioCell c.sn c.len bytes (if gap = 0 then none else some gap)
  have hst : State.steering { s.arrived true with mou := m } c bytes = w.refreshLoads := by
    rw [State.steering_data (d := .audio) hk (by exact hd)]
    show (v.audioCell c.sn c.len bytes (e.gap c.seq)).refreshLoads = _
    rw [StreamEntry.gap_eq]
    rfl
  have ht : State.edged { s.arrived true with mou := m } (fun s => s.steering c bytes) = { w.refreshLoads with
      mou := (w.refreshLoads.handEdges (State.levels { s.arrived true with mou := m }) w.refreshLoads.levels).mou } := by
    rw [← State.handEdges_eq_mou, State.edged, hst]
  obtain ⟨-, ⟨cap, hauu⟩, -, -⟩ := w.refreshLoads_spec
  have hrest := w.refreshLoads_within.restore_allocation
  have taken : ∀ {x : Auu}, w.auu = x → ({ w.refreshLoads with mou := (w.refreshLoads.handEdges
      (State.levels { s.arrived true with mou := m }) w.refreshLoads.levels).mou } : State).auu = { x with cap := cap } := fun hx => by
    rw [← hx]
    exact hauu
  rw [he, ht]
  refine ⟨_, rfl, ?_, fun h1 h2 h3 => ?_, fun h1 h2 => ?_, fun ⟨h1, h2⟩ h3 => ?_, fun ⟨h1, h2⟩ h3 h4 h5 => ?_, fun ⟨h1, h2⟩ h3 => ?_,
    fun h1 h2 => ?_⟩
  · have haudio := (v.audioCell_within c.sn c.len bytes (if gap = 0 then none else some gap)).restore_audio
    exact (congrArg (fun x : State => { x with
      lrx := s.lrx, stu := s.stu, auu := s.auu, pmg := s.pmg, evu := s.evu, pte := s.pte, mou := s.mou, pxp := s.pxp
      ftm := s.ftm }) hrest).trans (congrArg (fun x : State => { x with
      lrx := s.lrx, stu := s.stu, auu := s.auu, pmg := s.pmg, evu := s.evu, pte := s.pte, mou := s.mou, pxp := s.pxp
      ftm := s.ftm }) haudio)
  · refine (taken (congrArg State.auu (State.audioCell_first (s := v) c.sn bytes _ h1 h2 h3))).trans ?_
    rw [hblock, hauu]
    rfl
  · refine (taken (congrArg State.auu (State.audioCell_foreign (s := v) c.sn bytes _ h1 h2))).trans ?_
    rw [hauu]
    rfl
  · refine (taken (congrArg State.auu (State.audioCell_joins (s := v) c.sn bytes h3 h1 h2))).trans ?_
    rw [hblock, hauu]
    rfl
  · refine (taken (congrArg State.auu (State.audioCell_flushes (s := v) c.sn bytes h3 h4 h1 h2))).trans ?_
    rw [Auu.judgeFill_single (b := cellBlock c.len bytes) rfl (by exact h5), hblock, hauu]
    rfl
  · refine (taken (congrArg State.auu (State.audioCell_late (s := v) c.sn bytes h3 h1 h2))).trans ?_
    rw [hauu]
    rfl
  · obtain ⟨x, y, hw, hx, hcap, hy⟩ := v.audioCell_playing c.sn c.len bytes (g := gap) h1
    have hq : w.requestChanged = false := by
      have hv : OwnersKept s v := hown.trans ⟨⟨rfl, rfl, rfl, rfl, rfl, rfl, rfl, rfl⟩, fun _ => rfl, fun _ => rfl, .rfl, rfl, rfl,
        rfl, fun _ => rfl, rfl⟩
      refine (hv.trans (.of_audio (v.audioCell_work c.sn c.len bytes _) (iff_of_false ?_ h1))).requestChanged h2
      rw [hw]
      exact hx
    have hlines : NoRise { s.arrived true with mou := m } w.refreshLoads := by
      rw [State.refreshLoads_of_unchanged hq]
      exact (show NoRise { s.arrived true with mou := m } v from fun _ => id).trans
        (.of_lineless ((v.audioCell_within _ _ _ _).mono (by decide)))
    have hR : ({ w.refreshLoads with mou := (w.refreshLoads.handEdges
        (State.levels { s.arrived true with mou := m }) w.refreshLoads.levels).mou } : State) = { v with auu := x, evu := y } := by
      rw [← ht, NoRise.edged (f := fun s => s.steering c bytes) (by rw [hst]; exact hlines), hst,
        State.refreshLoads_of_unchanged hq]
      exact hw
    have hstu : v.stu = tracked := by
      have hgaps : bit (e.gap c.seq).isSome = if gap = 0 then 0 else 1 := by
        rw [StreamEntry.gap_eq]
        show bit (if gap = 0 then none else some gap).isSome = _
        split <;> rfl
      simp only [tracked, ← hgaps]
      rfl
    rw [hR]
    refine ⟨hcap, ?_⟩
    rw [hy, ← hstu, hblock]
    rfl

end Sys2Proof.Machine
end

section
/-! Triggers and transactions of the sensor buses (6.2, 6.3): what a trigger does by the bus's state, and the due moment. -/

namespace Sys2Proof.Machine

open Sys2Proof

variable {s : State}

/-! ### A transaction starts (R103, R108, R109) -/

theorem tabMod_tabMod {α : Type} {n : Nat} (v : Vector α n) (i : Fin n) (f g : α → α) :
    tabMod (tabMod v i f) i g = tabMod v i fun x => g (f x) := by
  unfold tabMod
  simp

/-- Two changes of one element that agree on it. -/
theorem tabMod_congr {α : Type} {n : Nat} {v : Vector α n} {i : Fin n} {f g : α → α} (h : f v[i] = g v[i]) :
    tabMod v i f = tabMod v i g := congrArg (v.set i) h

/-- The two-wire bus as a recovery starts on it (R116, R117). -/
def BusCtl.recovers (c : BusCtl) (cause : Cause) (forRelay : Bool) : BusCtl :=
  { c with state := .recovering, poll := none, recovery := some ⟨cause, forRelay⟩, recPending := none, retryAt := none }

theorem State.startPoll_serial4 (s : State) (q : Queued) (rest : List Queued) :
    s.startPoll .serial4 q rest = { s with mou := { s.mou with
      serial4 := { s.mou.serial4 with queue := rest, state := .busy, poll := some ⟨q, s.mou.poll[q.entry].cfg⟩ }
      poll := tabMod s.mou.poll q.entry fun p => { p with late := satAdd p.late (bit q.late) } } } := rfl

theorem State.startPoll_twoWire (s : State) (q : Queued) (rest : List Queued) :
    s.startPoll .twoWire q rest = { s with mou := { s.mou with
      twoWire := if s.dataLow = true then ({ s.mou.twoWire with queue := rest } : BusCtl).recovers .lineLow false
        else { s.mou.twoWire with queue := rest, state := .busy, poll := some ⟨q, s.mou.poll[q.entry].cfg⟩ }
      poll := tabMod s.mou.poll q.entry fun p => { p with
        late := satAdd p.late (bit q.late), errors := if s.dataLow = true then satInc p.errors else p.errors }
      lineSamples := s.mou.lineSamples + 1 } } := by
  have hlow : ∀ f g, ((s.onBus .twoWire f).onPoll q.entry g).dataLow = s.dataLow := fun _ _ => rfl
  simp only [State.startPoll, hlow]
  split
  · simp only [State.onPoll, State.onMou, State.onBus, State.sampled, State.startRecovery, tabMod_tabMod]
    rfl
  · rfl

/-! ### A trigger, by the state of its bus (R107, R108) -/

theorem State.bus_onBus (s : State) (b : Bus) (f : BusCtl → BusCtl) : (s.onBus b f).bus b = f (s.bus b) := by cases b <;> rfl

section
variable {e : Fin 8} {t : Time}

theorem State.trigger_dropped (h : (s.bus s.mou.poll[e].cfg.bus).state = .fault ∨ s.mou.sensorClass = .suspended) :
    s.trigger e t = s := if_pos h

variable (hf : (s.bus s.mou.poll[e].cfg.bus).state ≠ .fault) (hc : s.mou.sensorClass ≠ .suspended)
include hf hc

theorem State.trigger_overrun (hq : s.isQueued e = true) :
    s.trigger e t = s.onPoll e fun p => { p with overruns := satInc p.overruns } := by
  unfold State.trigger
  dsimp only
  rw [if_neg (not_or.mpr ⟨hf, hc⟩), if_pos hq]

theorem State.trigger_joins (hq : s.isQueued e = false) :
    s.trigger e t = (s.onBus s.mou.poll[e].cfg.bus fun c => { c with queue := insertQueued (s.queuedNow e t) c.queue }).startNext
      s.mou.poll[e].cfg.bus := by
  unfold State.trigger
  dsimp only
  rw [if_neg (not_or.mpr ⟨hf, hc⟩), if_neg (by simp [hq])]

theorem State.trigger_waits (hq : s.isQueued e = false) (hi : (s.bus s.mou.poll[e].cfg.bus).state ≠ .idle) :
    s.trigger e t = s.onBus s.mou.poll[e].cfg.bus fun c => { c with queue := insertQueued (s.queuedNow e t) c.queue } := by
  rw [State.trigger_joins hf hc hq, State.startNext_atWork]
  rw [State.bus_onBus]
  exact hi

variable (hr : s.mou.relay = none) (hi : (s.bus s.mou.poll[e].cfg.bus).state = .idle)
  (hq : (s.bus s.mou.poll[e].cfg.bus).queue = [])
include hr hi hq

/-- A trigger on an idle bus without work waiting starts its transaction at once. -/
theorem State.trigger_starts (hn : s.isQueued e = false) (hp : s.pendingRecovery s.mou.poll[e].cfg.bus = none) :
    s.trigger e t = (s.onBus s.mou.poll[e].cfg.bus fun c => { c with queue := [s.queuedNow e t] }).startPoll
      s.mou.poll[e].cfg.bus (s.queuedNow e t) [] := by
  have hins : (s.onBus s.mou.poll[e].cfg.bus fun c => { c with queue := insertQueued (s.queuedNow e t) c.queue }) =
      s.onBus s.mou.poll[e].cfg.bus fun c => { c with queue := [s.queuedNow e t] } := by
    generalize s.mou.poll[e].cfg.bus = b at hq
    cases b
    · rw [State.onBus, State.onBus, State.onMou, State.onMou, show s.mou.serial4.queue = [] from hq]; rfl
    · rw [State.onBus, State.onBus, State.onMou, State.onMou, show s.mou.twoWire.queue = [] from hq]; rfl
  rw [State.trigger_joins hf hc hn, hins]
  generalize s.mou.poll[e].cfg.bus = b at *
  generalize s.queuedNow e t = q
  have hb := s.bus_onBus b fun c => { c with queue := [q] }
  have hnone : (s.onBus b fun c => { c with queue := [q] }).mou.relay = none := by cases b <;> exact hr
  rw [State.startNext_head (by rw [hb]; exact hi) (by cases b <;> exact hp) (by rw [State.waitingRelay, hnone]), State.startHead, hb]

end

section
variable {e : Fin 8} {t : Time} (hc : s.mou.sensorClass ≠ .suspended) (hr : s.mou.relay = none) (hn : s.isQueued e = false)
include hc hr hn

theorem State.trigger_serial4 (hb : s.mou.poll[e].cfg.bus = .serial4) (hi : s.mou.serial4.state = .idle)
    (hq : s.mou.serial4.queue = []) : s.trigger e t = { s with mou := { s.mou with
      serial4 := { s.mou.serial4 with state := .busy, poll := some ⟨s.queuedNow e t, s.mou.poll[e].cfg⟩ }
      poll := tabMod s.mou.poll e fun p => { p with late := satAdd p.late 0 } } } := by
  have hl : bit (s.queuedNow e t).late = 0 := by
    simp only [State.queuedNow, State.relayOn, hr]
    rfl
  have h := State.trigger_starts (s := s) (e := e) (t := t) (by rw [hb]; exact fun h => nomatch hi.symm.trans h) hc hr (by rw [hb]; exact hi)
    (by rw [hb]; exact hq) hn (by rw [hb]; rfl)
  rw [h, hb, State.startPoll_serial4, hl]
  exact congrArg (fun l => ({ s with mou := { s.mou with
    serial4 := { s.mou.serial4 with queue := l, state := .busy, poll := some ⟨s.queuedNow e t, s.mou.poll[e].cfg⟩ }
    poll := tabMod s.mou.poll e fun p => { p with late := satAdd p.late 0 } } } : State)) hq.symm

theorem State.trigger_twoWire (hb : s.mou.poll[e].cfg.bus = .twoWire) (hi : s.mou.twoWire.state = .idle)
    (hq : s.mou.twoWire.queue = []) (hp : s.mou.twoWire.recPending = none) : s.trigger e t = { s with mou := { s.mou with
      twoWire := if s.dataLow = true then s.mou.twoWire.recovers .lineLow false
        else { s.mou.twoWire with state := .busy, poll := some ⟨s.queuedNow e t, s.mou.poll[e].cfg⟩ }
      poll := tabMod s.mou.poll e fun p => { p with
        late := satAdd p.late 0, errors := if s.dataLow = true then satInc p.errors else p.errors }
      lineSamples := s.mou.lineSamples + 1 } } := by
  have hl : bit (s.queuedNow e t).late = 0 := by
    simp only [State.queuedNow, State.relayOn, hr]
    rfl
  have h := State.trigger_starts (s := s) (e := e) (t := t) (by rw [hb]; exact fun h => nomatch hi.symm.trans h) hc hr (by rw [hb]; exact hi)
    (by rw [hb]; exact hq) hn (by rw [hb]; exact hp)
  rw [h, hb, State.startPoll_twoWire, hl]
  exact congrArg (fun l => ({ s with mou := { s.mou with
      twoWire := if s.dataLow = true then ({ s.mou.twoWire with queue := l } : BusCtl).recovers .lineLow false
        else { s.mou.twoWire with queue := l, state := .busy, poll := some ⟨s.queuedNow e t, s.mou.poll[e].cfg⟩ }
      poll := tabMod s.mou.poll e fun p => { p with
        late := satAdd p.late 0, errors := if s.dataLow = true then satInc p.errors else p.errors }
      lineSamples := s.mou.lineSamples + 1 } } : State)) hq.symm

end

/-! ### The due moment (R105) -/

theorem exec_dueMoment {e : Fin 8} (hh : s.held = false) (hd : s.momentDue e = true) :
    exec (.dueMoment e) s = .next ((s.trigger e s.now).onPoll e fun p => p.nextMoment s.classFactor) := by
  show Host.Outcome.next (s.live _) = _
  rw [State.live_of_free _ hh, if_pos hd]

/-- Settles O42, by the trigger's cases. -/
theorem dueMomentTriggersPoll : Obligations.DueMomentTriggersPoll := by
  intro s e hh hd c factor q moved after free alone
  have moment : ∀ {m : Mou} {f : PollEntry → PollEntry}, s.trigger e s.now = { s with mou := { m with poll := tabMod s.mou.poll e f } } →
      (f s.mou.poll[e]).cfg = c → exec (.dueMoment e) s = after f m := by
    intro m f ht hf
    have hm : (f s.mou.poll[e]).nextMoment s.classFactor = moved (f s.mou.poll[e]) := by
      simp only [moved, ← hf]
      rfl
    rw [exec_dueMoment hh hd, ht]
    have hv : tabMod (tabMod s.mou.poll e f) e (fun p => p.nextMoment s.classFactor) = tabMod s.mou.poll e fun p => moved (f p) :=
      (tabMod_tabMod _ _ _ _).trans (tabMod_congr hm)
    exact congrArg (fun v => Host.Outcome.next ({ s with mou := { m with poll := v } } : State)) hv
  have same : tabMod s.mou.poll e id = s.mou.poll := by simp [tabMod]
  refine ⟨fun hf => ?_, fun ⟨h1, h2⟩ hq => ?_, fun ⟨h1, h2⟩ hq hi => ?_, fun ⟨h1, h2⟩ ⟨hq, hr, hl, hi⟩ hb => ?_,
    fun ⟨h1, h2⟩ ⟨hq, hr, hl, hi⟩ hb hp => ?_⟩
  · refine moment ?_ rfl
    rw [State.trigger_dropped (by rw [or_iff_not_and_not]; exact hf), same]
  · exact moment (State.trigger_overrun h1 h2 hq) rfl
  · refine moment ?_ rfl
    rw [State.trigger_waits h1 h2 hq hi, same]
    generalize s.mou.poll[e].cfg.bus = b
    cases b <;> rfl
  · rw [hb] at hl hi
    exact moment (State.trigger_serial4 h2 hr hq hb hi hl) rfl
  · rw [hb] at hl hi
    exact moment (State.trigger_twoWire h2 hr hq hb hi hl hp) rfl

end Sys2Proof.Machine
end

section
/-! The side-band lines: pins, the FRAME_START pulse, and the READY polls that a rising edge triggers (2.5, 6.2, 6.3). -/

namespace Sys2Proof.Machine

open Sys2Proof

variable {s : State}

/-! ### Pins and the FRAME_START pulse (R34, R37) -/

/-- The level at a pin shows on its line alone, where that is an unclaimed INPUT line (R34). -/
theorem State.lineLevel_pinned (s : State) (i j : Fin 6) (level : Bool) :
    (s.onStu fun u => { u with pins := u.pins.set i level }).lineLevel j =
      if j = i ∧ s.stu.lines[i].source = .input ∧ s.claimed i = false then level else s.lineLevel j := by
  have hc : (s.onStu fun u => { u with pins := u.pins.set i level }).claimed j = s.claimed j := rfl
  have hpin : (s.stu.pins.set i level)[j] = if j = i then level else s.stu.pins[j] := by
    rcases eq_or_ne j i with rfl | h
    · simp
    · rw [if_neg h]
      exact Vector.getElem_set_ne _ _ (Fin.val_ne_of_ne h.symm)
  have hs : (s.onStu fun u => { u with pins := u.pins.set i level }).sourceLevel j =
      if j = i ∧ s.stu.lines[i].source = .input then level else s.sourceLevel j := by
    unfold State.sourceLevel
    simp only [State.onStu_stu, hpin]
    by_cases hj : j = i
    · subst hj
      cases s.stu.lines[j].source <;> simp <;> rfl
    · simp only [hj, false_and, if_false]
      cases s.stu.lines[j].source <;> simp <;> rfl
  unfold State.lineLevel
  rw [hc, hs]
  by_cases hj : j = i
  · subst hj
    cases s.claimed j <;> simp
  · simp [hj]

theorem State.pulseEnds_noRise (s : State) : NoRise s s.pulseEnds := by
  intro i h
  have hl : s.pulseEnds.stu.lines[i] = { s.stu.lines[i] with pulse := false } := Vector.getElem_map _ _
  have hs : s.pulseEnds.sourceLevel i = true → s.sourceLevel i = true := by
    intro h
    unfold State.sourceLevel at h ⊢
    rw [hl] at h
    dsimp only at h ⊢
    cases hk : s.stu.lines[i].source <;> rw [hk] at h
    case frameStart => exact nomatch h
    all_goals exact h
  show (if s.claimed i then _ else _) = true
  cases hc : s.claimed i
  · exact hs ((if_neg (by rw [show s.pulseEnds.claimed i = s.claimed i from rfl, hc]; decide)).symm.trans h)
  · exact (if_pos (show s.pulseEnds.claimed i = true from hc)).symm.trans h

theorem exec_sidebandChange (hh : s.held = false) (i : Fin 6) (level : Bool) :
    exec (.sidebandChange i level) s = .next (s.edged fun s => s.pinChange i level) := by
  show Host.Outcome.next _ = _
  rw [if_neg (by simp [hh])]

/-! ### Rising edges (R38, R106) -/

theorem State.handEdges_twoPow (s : State) (i : Fin 6) : s.handEdges 0 (BitVec.twoPow 6 i) = s.readyEdge i := by
  have bits : ∀ i j : Fin 6, (!(0 : BitVec 6).getLsbD j.val && (BitVec.twoPow 6 i.val).getLsbD j.val) = decide (j = i) := by decide
  simp only [State.handEdges, bits]
  fin_cases i <;> simp [allLines]

/-- An entry listens to a line (R106). -/
def State.listens (s : State) (i : Fin 6) (e : Fin 8) : Prop :=
  s.mou.poll[e].cfg.enable = true ∧ s.mou.poll[e].cfg.ready = true ∧ s.mou.poll[e].cfg.readyLine = i.val

theorem State.readyEntry_deaf {i : Fin 6} {e : Fin 8} (h : ¬ s.listens i e) : s.readyEntry i e = s := if_neg h

theorem State.readyEntry_listens {i : Fin 6} {e : Fin 8} (h : s.listens i e) : s.readyEntry i e =
    if s.mou.poll[e].cfg.decimate * s.classFactor ≤ s.mou.poll[e].edgeCount + 1 then
      (s.onPoll e fun p => { p with edgeCount := 0 }).trigger e s.now
    else s.onPoll e fun p => { p with edgeCount := p.edgeCount + 1 } := if_pos h

theorem foldl_readyEntry_deaf {i : Fin 6} {xs : List (Fin 8)} (h : ∀ e ∈ xs, ¬ s.listens i e) :
    xs.foldl (fun s e => s.readyEntry i e) s = s := by
  induction xs with
  | nil => rfl
  | cons x xs ih =>
    rw [List.foldl_cons, State.readyEntry_deaf (h x List.mem_cons_self)]
    exact ih fun e he => h e (List.mem_cons_of_mem _ he)

/-- An edge that one entry listens to acts on that entry alone. -/
theorem State.readyEdge_single {i : Fin 6} {e : Fin 8} (h : ∀ k, k ≠ e → ¬ s.listens i k) : s.readyEdge i = s.readyEntry i e := by
  obtain ⟨l, r, hlr⟩ := List.append_of_mem (show e ∈ allEntries by fin_cases e <;> decide)
  have nodup : (l ++ e :: r).Nodup := hlr ▸ (by decide : allEntries.Nodup)
  have hl : ∀ k ∈ l, k ≠ e := fun k hk he => (List.nodup_append.mp nodup).2.2 k hk e List.mem_cons_self he
  have hr : ∀ k ∈ r, k ≠ e := fun k hk he => (List.nodup_cons.mp (List.nodup_append.mp nodup).2.1).1 (he ▸ hk)
  have cfg : ∀ k : Fin 8, (s.readyEntry i e).mou.poll[k].cfg = s.mou.poll[k].cfg := (s.readyEntry_work i e).mou.cfg
  rw [State.readyEdge, hlr, List.foldl_append, foldl_readyEntry_deaf fun k hk => h k (hl k hk), List.foldl_cons]
  refine foldl_readyEntry_deaf fun k hk => ?_
  rw [State.listens, cfg]
  exact h k (hr k hk)

/-- A queue element enters before the first one that its trigger precedes (R107). -/
theorem insertQueued_between {q : Queued} {l n : List Queued}
    (hl : ∀ p ∈ l, ¬ (q.stamp < p.stamp ∨ (q.stamp = p.stamp ∧ q.entry < p.entry)))
    (hn : ∀ p, n.head? = some p → q.stamp < p.stamp ∨ (q.stamp = p.stamp ∧ q.entry < p.entry)) :
    insertQueued q (l ++ n) = l ++ q :: n := by
  induction l with
  | nil =>
    cases n with
    | nil => rfl
    | cons p n => exact if_pos (hn p rfl)
  | cons p l ih =>
    show (if _ then _ else p :: insertQueued q (l ++ n)) = _
    rw [if_neg (hl p List.mem_cons_self), ih fun k hk => hl k (List.mem_cons_of_mem _ hk)]
    rfl

theorem State.isQueued_iff {e : Fin 8} : s.isQueued e = true ↔ ∃ q ∈ s.mou.serial4.queue ++ s.mou.twoWire.queue, q.entry = e := by
  simp [State.isQueued, inQueue, or_and_right, exists_or]

theorem State.relayOn_eq (s : State) (b : Bus) : s.relayOn b = decide (s.mou.relay.map Relay.bus = some b) := by
  unfold State.relayOn
  cases s.mou.relay <;> simp

/-- Settles O39, the level at a pin by its line and the one listening entry by the trigger's cases. -/
theorem linesFollowPinsAndPulses : Obligations.LinesFollowPinsAndPulses := by
  refine ⟨fun s hh => ⟨fun hd => ?_, fun i level => ?_⟩, fun s old new => ?_, fun s i => ?_⟩
  · show Host.Outcome.next (s.live _) = _
    rw [State.live_of_free _ hh, if_pos hd, s.pulseEnds_noRise.edged]
    rfl
  · intro pinned
    have hset : (s.onStu fun u => { u with pins := u.pins.set i level }) = pinned := rfl
    refine ⟨fun hp => ?_, fun hp hn => ?_, fun hp hi hc => ?_⟩
    · have he : s.pinChange i level = s := if_pos hp
      rw [exec_sidebandChange hh, NoRise.edged (f := fun s => s.pinChange i level) (by rw [he]; exact .refl), he]
    · have he : s.pinChange i level = pinned := by
        refine (if_neg hp).trans (if_neg ?_)
        rintro ⟨h1, h2⟩
        rcases hn with h | h
        · exact h h1
        · rw [h] at h2; cases h2
      have hq : NoRise s (s.pinChange i level) := fun j hj => by
        rw [he, ← hset, State.lineLevel_pinned, if_neg] at hj
        · exact hj
        · rintro ⟨-, h1, h2⟩
          rcases hn with h | h
          · exact h h1
          · rw [h] at h2; cases h2
      rw [exec_sidebandChange hh, NoRise.edged (f := fun s => s.pinChange i level) hq, he]
    · intro t
      have he : s.pinChange i level = t := (if_neg hp).trans (if_pos ⟨hi, hc⟩)
      have hl : ∀ j, t.lineLevel j = if j = i then level else s.lineLevel j := fun j => by
        have h := s.lineLevel_pinned i j level
        simp only [hi, hc, and_true] at h
        exact h
      have hs : s.lineLevel i = s.stu.pins[i] := by
        simp only [State.lineLevel, hc, State.sourceLevel, hi]
        rfl
      refine ⟨?_, ?_, fun j => ?_⟩
      · rw [exec_sidebandChange hh, State.edged, he]
      · rw [State.levels_get, hs]
        cases level <;> cases h : s.stu.pins[i] <;> simp_all
      · rw [State.levels_get, State.levels_get]
        exact hl j
  · simp only [State.handEdges_twoPow]
    rfl
  · intro listens edge
    have hedge : edge = s.readyEdge i := s.handEdges_twoPow i
    refine ⟨fun h => hedge.trans (foldl_readyEntry_deaf fun e _ => h e), fun e he hk => ?_⟩
    intro c count triggers q becomes earlier free queued alone
    have hent : edge = s.readyEntry i e := hedge.trans (State.readyEdge_single hk)
    let u : State := s.onPoll e fun p => { p with edgeCount := 0 }
    have hcfg : u.mou.poll[e].cfg = c := by
      rw [show u.mou.poll[e] = _ from tabMod_same _ _ _]
    have acts : triggers → ∀ {f : PollEntry → PollEntry} {m : Mou},
        u.trigger e u.now = { u with mou := { m with poll := tabMod u.mou.poll e f } } → becomes f m := fun ht f m h => by
      have h1 : edge = u.trigger e u.now := (hent.trans (State.readyEntry_listens he)).trans (if_pos ht)
      exact (h1.trans h).trans (congrArg (fun v => ({ s with mou := { m with poll := v } } : State)) (tabMod_tabMod _ _ _ _))
    have same : tabMod u.mou.poll e id = u.mou.poll := by simp [tabMod]
    have hbus : ∀ b, u.bus b = s.bus b := fun b => by cases b <;> rfl
    have hqueued : u.queuedNow e u.now = q := by
      rw [State.queuedNow, State.relayOn_eq, hcfg]
      rfl
    have hq : u.isQueued e = true ↔ queued := State.isQueued_iff
    refine ⟨fun ht => ?_, fun ht hf => ?_, fun ⟨ht, h1, h2⟩ hn => ?_, fun l n ⟨ht, h1, h2⟩ hn hi hl hbefore hafter => ?_,
      fun ⟨⟨ht, h1, h2⟩, hn, hr, hl, hi⟩ hb => ?_, fun ⟨⟨ht, h1, h2⟩, hn, hr, hl, hi⟩ hb hp => ?_⟩
    · exact (hent.trans (State.readyEntry_listens he)).trans (if_neg ht)
    · refine acts ht ?_
      rw [State.trigger_dropped (by
        rw [hcfg, hbus, or_iff_not_and_not]
        exact fun h => hf ⟨ht, h⟩), same]
      rfl
    · exact acts ht (State.trigger_overrun (by rw [hcfg, hbus]; exact h1) h2 (hq.mpr hn))
    · have hins : insertQueued (u.queuedNow e u.now) (u.bus c.bus).queue = l ++ q :: n := by
        rw [hqueued, hbus, hl]
        exact insertQueued_between hbefore hafter
      refine acts ht ?_
      rw [State.trigger_waits (s := u) (by rw [hcfg, hbus]; exact h1) h2 (by simpa using mt hq.mp hn) (by rw [hcfg, hbus]; exact hi), same, hcfg]
      cases hb : c.bus
      · rw [hb] at hins
        exact congrArg (fun k => ({ u with mou := { u.mou with serial4 := { u.mou.serial4 with queue := k } } } : State)) hins
      · rw [hb] at hins
        exact congrArg (fun k => ({ u with mou := { u.mou with twoWire := { u.mou.twoWire with queue := k } } } : State)) hins
    · rw [hb] at hl hi
      have h := State.trigger_serial4 (s := u) (t := u.now) h2 hr (by simpa using mt hq.mp hn) ((congrArg PollCfg.bus hcfg).trans hb) hi hl
      rw [hqueued, hcfg] at h
      exact acts ht (f := fun p => { p with late := satAdd p.late 0 }) h
    · rw [hb] at hl hi
      have h := State.trigger_twoWire (s := u) (t := u.now) h2 hr (by simpa using mt hq.mp hn) ((congrArg PollCfg.bus hcfg).trans hb) hi hl hp
      rw [hqueued, hcfg] at h
      exact acts ht (f := fun p => { p with
        late := satAdd p.late 0, errors := if s.dataLow = true then satInc p.errors else p.errors }) h

end Sys2Proof.Machine
end

section
/-! Batches of the sample FIFO (6.5): the groups of whole records that leave it and the cells they become. -/

namespace Sys2Proof.Machine

open Sys2Proof

variable {s t u : State}

/-- A record of at most 16 payload bytes takes at most 24 bytes. -/
theorem SensorRec.bytes_length_le {r : SensorRec} (h : r.payload.length ≤ 16) : r.bytes.length ≤ 24 := by
  simp [SensorRec.bytes, padWord, leBytes]
  omega

/-- The payload bytes of a group of records. -/
def groupBytes (g : List SensorRec) : List Byte := g.flatMap SensorRec.bytes

theorem fitCount_fits (room : Nat) (l : List SensorRec) : (groupBytes (l.take (fitCount room l))).length ≤ room := by
  induction l generalizing room with
  | nil => simp [groupBytes]
  | cons r l ih =>
    unfold fitCount
    split
    · have := ih (room - r.bytes.length)
      simp only [groupBytes, List.take_succ_cons, List.flatMap_cons, List.length_append] at this ⊢
      omega
    · simp [groupBytes]

/-- The record left at the head does not fit any more. -/
theorem fitCount_full {room : Nat} {l : List SensorRec} {r : SensorRec} (h : (l.drop (fitCount room l)).head? = some r) :
    room < (groupBytes (l.take (fitCount room l))).length + r.bytes.length := by
  induction l generalizing room with
  | nil => simp at h
  | cons x l ih =>
    unfold fitCount at h ⊢
    split at h
    · rw [if_pos ‹_›]
      have := ih (by simpa using h)
      simp only [groupBytes, List.take_succ_cons, List.flatMap_cons, List.length_append] at this ⊢
      omega
    · obtain rfl : x = r := by simpa using h
      rw [if_neg ‹_›]
      simp only [groupBytes, List.take_zero, List.flatMap_nil, List.length_nil]
      omega

theorem length_take_fitCount (room : Nat) (l : List SensorRec) : (l.take (fitCount room l)).length = fitCount room l := by
  refine List.length_take_of_le ?_
  induction l generalizing room with
  | nil => exact Nat.le_refl 0
  | cons r l ih =>
    unfold fitCount
    split
    · exact Nat.succ_le_succ (ih _)
    · exact Nat.zero_le _

theorem fitCount_pos {room : Nat} {r : SensorRec} {l : List SensorRec} (h : r.bytes.length ≤ room) : 0 < fitCount room (r :: l) := by
  rw [fitCount, if_pos h]
  exact Nat.succ_pos _

/-- Batches built from one state to another: the groups of oldest records that left the FIFO, each as many as fit, and nothing else
(R114). -/
structure Batched (s t : State) (groups : List (List SensorRec)) : Prop where
  fifo : s.mou.fifo = groups.flatten ++ t.mou.fifo
  mou : t.mou = { s.mou with fifo := t.mou.fifo, batches := satInc^[groups.length] s.mou.batches }
  ltx : t.ltx = { s.ltx with motion := s.ltx.motion ++ groups.map groupBytes }
  rest : { t with mou := s.mou, ltx := s.ltx } = s
  fits : ∀ g ∈ groups, g ≠ [] ∧ (groupBytes g).length ≤ batchBytes
  full : ∀ before_ g r after_, groups = before_ ++ g :: after_ → (s.mou.fifo.drop (before_ ++ [g]).flatten.length).head? = some r →
    batchBytes < (groupBytes g).length + r.bytes.length

theorem Batched.refl (s : State) : Batched s s [] where
  fifo := rfl
  mou := rfl
  ltx := by simp
  rest := rfl
  fits := by simp
  full := by simp

theorem Batched.cons {gs : List (List SensorRec)} (hl : ∀ r ∈ s.mou.fifo, r.payload.length ≤ 16) (hn : s.mou.fifo ≠ [])
    (h : Batched s.buildBatch t gs) : Batched s t (s.mou.fifo.take (fitCount batchBytes s.mou.fifo) :: gs) where
  fifo := by
    have h1 : s.buildBatch.mou.fifo = s.mou.fifo.drop (fitCount batchBytes s.mou.fifo) := rfl
    rw [List.flatten_cons, List.append_assoc, ← h.fifo, h1, List.take_append_drop]
  mou := by
    rw [h.mou, List.length_cons, Function.iterate_succ_apply]
    rfl
  ltx := by
    rw [h.ltx]
    simp [State.buildBatch, groupBytes]
  rest := congrArg (fun v : State => { v with mou := s.mou, ltx := s.ltx }) h.rest
  fits := by
    intro g hg
    rcases List.mem_cons.mp hg with rfl | hg
    · refine ⟨?_, fitCount_fits _ _⟩
      obtain ⟨r, l, hr⟩ := List.exists_cons_of_ne_nil hn
      rw [hr] at hl ⊢
      have := fitCount_pos (l := l) (room := batchBytes) ((SensorRec.bytes_length_le (hl r List.mem_cons_self)).trans (by decide))
      simp [List.take_eq_nil_iff, this.ne']
    · exact h.fits g hg
  full := by
    intro before_ g r after_ he hr
    cases before_ with
    | nil =>
      obtain ⟨rfl, -⟩ := List.cons.inj he
      refine fitCount_full ?_
      rw [← hr, List.nil_append, List.flatten_singleton, length_take_fitCount]
    | cons b before_ =>
      obtain ⟨rfl, hg⟩ := List.cons.inj he
      refine h.full before_ g r after_ hg ?_
      rw [← hr]
      show ((s.mou.fifo.drop (fitCount batchBytes s.mou.fifo)).drop _).head? = _
      rw [List.drop_drop, List.cons_append, List.flatten_cons, List.length_append, length_take_fitCount]

/-- What building batches does, and where it stops (R114). -/
theorem buildBatches_batched (n : Nat) (s : State) (hl : ∀ r ∈ s.mou.fifo, r.payload.length ≤ 16)
    (hn : motionCapacity ≤ s.ltx.motion.length + n) :
    ∃ gs, Batched s (buildBatches n s) gs
      ∧ ((buildBatches n s).batchDue = false ∨ (buildBatches n s).mou.fifo = [] ∨ motionCapacity ≤ (buildBatches n s).ltx.motion.length)
      ∧ (s.batchDue = false → gs = [])
      ∧ (s.batchDue = true → s.mou.fifo ≠ [] → s.ltx.motion.length < motionCapacity → gs ≠ []) := by
  induction n generalizing s with
  | zero => exact ⟨[], .refl s, .inr (.inr hn), fun _ => rfl, fun _ _ h => absurd hn (Nat.not_le.mpr h)⟩
  | succ n ih =>
    unfold buildBatches
    split
    case isTrue h =>
      obtain ⟨hdue, hroom, hne⟩ := h
      have hlen : s.buildBatch.ltx.motion.length = s.ltx.motion.length + 1 := by simp [State.buildBatch]
      obtain ⟨gs, hb, hstop, -, -⟩ := ih s.buildBatch (fun r hr => hl r (List.mem_of_mem_drop hr)) (by omega)
      exact ⟨_, hb.cons hl hne, hstop, fun h => absurd h (by simp [hdue]), fun _ _ _ => List.cons_ne_nil _ _⟩
    case isFalse h =>
      refine ⟨[], .refl s, ?_, fun _ => rfl, fun h1 h2 h3 => absurd ⟨h1, h3, h2⟩ h⟩
      by_cases h1 : s.batchDue = true
      · by_cases h2 : s.mou.fifo = []
        · exact .inr (.inl h2)
        · exact .inr (.inr (Nat.not_lt.mp fun h3 => h ⟨h1, h3, h2⟩))
      · exact .inl (by simpa using h1)

/-- The batches that the batch condition builds (R114). -/
theorem State.judgeBatch_batched (s : State) (hl : ∀ r ∈ s.mou.fifo, r.payload.length ≤ 16) :
    ∃ gs, Batched s s.judgeBatch gs
      ∧ (s.judgeBatch.batchDue = false ∨ s.judgeBatch.mou.fifo = [] ∨ motionCapacity ≤ s.judgeBatch.ltx.motion.length)
      ∧ (s.batchDue = false → gs = [])
      ∧ (s.batchDue = true → s.mou.fifo ≠ [] → s.ltx.motion.length < motionCapacity → 0 < gs.flatten.length) := by
  obtain ⟨gs, hb, hstop, hn, hp⟩ := buildBatches_batched motionCapacity s hl (Nat.le_add_left _ _)
  refine ⟨gs, hb, hstop, hn, fun h1 h2 h3 => ?_⟩
  obtain ⟨g, gs, rfl⟩ := List.exists_cons_of_ne_nil (hp h1 h2 h3)
  have hg := List.length_pos_iff.mpr (hb.fits g List.mem_cons_self).1
  rw [List.flatten_cons, List.length_append]
  omega

/-- Settles O46, by the groups that building batches takes from the FIFO. -/
theorem flushTimeoutBuildsBatches : Obligations.FlushTimeoutBuildsBatches := by
  intro s hh hd hl hm
  obtain ⟨gs, hb, hstop, -, hpos⟩ := s.judgeBatch_batched hl
  have hroom : s.judgeBatch.ltx.motion.length ≤ motionCapacity := by
    obtain ⟨k, cells, -, hltx, -, -, hle⟩ := buildBatches_spec motionCapacity s
    exact (congrArg (fun x => x.motion.length) hltx).trans_le (hle hm)
  have hfifo : s.mou.fifo ≠ [] := fun h => by simp [State.flushDue, h] at hd
  refine ⟨s.judgeBatch, gs.flatten.length, gs, ?_, ?_, ?_, hb.ltx, hb.fits, hb.full, hpos (by simp [State.batchDue, hd]) hfifo, hroom,
    hstop.imp_right (Or.imp_right (Nat.le_antisymm hroom)), hb.rest⟩
  · show Host.Outcome.next (s.live _) = _
    rw [State.live_of_free _ hh, if_pos hd]
  · rw [hb.fifo, List.take_left]
  · rw [hb.fifo, List.drop_left]
    exact hb.mou

end Sys2Proof.Machine
end

section
/-! The completions of poll transactions (6.3 to 6.5): gyro conversion, sample FIFO, and the bus handed on to the work that waits. -/

namespace Sys2Proof.Machine

open Sys2Proof

variable {s : State}

/-! ### A bus is freed (R108) -/

/-- A bus that is free. -/
def State.idled (s : State) (b : Bus) : State := s.onBus b fun c => { c with state := .idle, poll := none }

theorem State.waitingRelay_none {b : Bus} (h : ∀ r, ¬ (s.mou.relay = some r ∧ r.bus = b ∧ r.phase = .waiting)) : s.waitingRelay b = none := by
  unfold State.waitingRelay
  split
  · exact if_neg fun k => h _ ⟨‹_›, k⟩
  · rfl

section
variable {b : Bus}

theorem State.idled_state : ((s.idled b).bus b).state = .idle := by rw [State.idled, State.bus_onBus]

theorem State.idled_queue : ((s.idled b).bus b).queue = (s.bus b).queue := by rw [State.idled, State.bus_onBus]

theorem State.idled_pending : (s.idled b).pendingRecovery b = s.pendingRecovery b := by cases b <;> rfl

theorem State.idled_relay : (s.idled b).mou.relay = s.mou.relay := by cases b <;> rfl

theorem State.idled_waiting : (s.idled b).waitingRelay b = s.waitingRelay b := by
  unfold State.waitingRelay
  rw [State.idled_relay]

/-- A bus on which nothing waits is IDLE. -/
theorem State.busFree_idle (hp : s.pendingRecovery b = none) (hr : s.waitingRelay b = none) (hq : (s.bus b).queue = []) :
    s.busFree b = s.idled b := by
  show (s.idled b).startNext b = _
  rw [State.startNext_head State.idled_state (State.idled_pending.trans hp) (State.idled_waiting.trans hr), State.startHead,
    State.idled_queue, hq]

theorem State.busFree_relay {r : Relay} (hp : s.pendingRecovery b = none) (hr : s.waitingRelay b = some r) :
    s.busFree b = (s.idled b).startRelay r :=
  State.startNext_relay State.idled_state (State.idled_pending.trans hp) (State.idled_waiting.trans hr)

theorem State.busFree_head {q : Queued} {rest : List Queued} (hp : s.pendingRecovery b = none) (hr : s.waitingRelay b = none)
    (hq : (s.bus b).queue = q :: rest) : s.busFree b = (s.idled b).startPoll b q rest := by
  show (s.idled b).startNext b = _
  rw [State.startNext_head State.idled_state (State.idled_pending.trans hp) (State.idled_waiting.trans hr), State.startHead,
    State.idled_queue, hq]

end

theorem State.busFree_recovery {cause : Cause} (hp : s.mou.twoWire.recPending = some cause) :
    s.busFree .twoWire = (s.idled .twoWire).startRecovery cause false := State.startNext_recovery rfl hp

/-! ### Sample FIFO (R113) -/

theorem State.fifoDrop_of_room (h : s.mou.fifo.length < fifoCapacity) : s.fifoDrop = s := by
  unfold State.fifoDrop
  split
  · rfl
  · exact if_pos h

theorem State.fifoDrop_full {r head : SensorRec} {rest : List SensorRec} (hf : s.mou.fifo = r :: head :: rest)
    (h : fifoCapacity ≤ s.mou.fifo.length) : s.fifoDrop =
      { s with
        mou := { s.mou with fifo := { head with gap := true } :: rest, fifoDrops := satInc s.mou.fifoDrops }
        evu := s.evu.take .fifoOverflow (leBytes 1 r.entry.val ++ leBytes 4 r.time.toNat ++ leBytes 4 (satInc s.mou.fifoDrops)) s.now
          s.timeUnset } := by
  unfold State.fifoDrop
  rw [hf] at h ⊢
  exact if_neg (Nat.not_lt.mpr h)

theorem State.judgeBatch_of_full (h : motionCapacity ≤ s.ltx.motion.length) : s.judgeBatch = s := by
  show buildBatches (7 + 1) s = s
  rw [buildBatches, if_neg fun k => absurd k.2.1 (Nat.not_lt.mpr h)]

/-- The state with a record as the newest of the FIFO. -/
def State.recorded (s : State) (r : SensorRec) : State :=
  { s with mou := { s.mou with fifo := s.mou.fifo ++ [r], records := satInc s.mou.records } }

theorem State.recorded_notDue {r : SensorRec} (hw : s.mou.fifo.length + 1 < s.mou.watermark) (hd : s.flushDue = false)
    (hr : s.osc < r.joined + usTicks s.mou.flushTimeout) : (s.recorded r).batchDue = false := by
  have hlen : (s.recorded r).mou.fifo.length = s.mou.fifo.length + 1 := List.length_append
  have hflush : (s.recorded r).flushDue = false := by
    unfold State.flushDue at hd ⊢
    show (match s.mou.fifo ++ [r] with | [] => false | r :: _ => decide (r.joined + usTicks s.mou.flushTimeout ≤ s.osc)) = false
    cases hf : s.mou.fifo with
    | nil => exact decide_eq_false (Nat.not_le.mpr hr)
    | cons x xs =>
      rw [hf] at hd
      exact hd
  rw [State.batchDue, hflush, hlen, Bool.or_false]
  exact decide_eq_false (Nat.not_le.mpr hw)

theorem State.fifoJoin_eq {r : SensorRec} (h : s.mou.fifo.length < fifoCapacity) : s.fifoJoin r = (s.recorded r).judgeBatch := by
  rw [State.fifoJoin, State.fifoDrop_of_room h]
  rfl

/-! ### The payload of a record (R113) -/

theorem swapPairs_length (n : Nat) (bs : List Byte) : (swapPairs n bs).length = bs.length := by
  induction n generalizing bs with
  | zero => rfl
  | succ n ih =>
    match bs with
    | [] => rfl
    | [_] => rfl
    | x :: y :: bs => simp [swapPairs, ih]

/-- The first values take each other's byte, where both bytes are there. -/
theorem swapPairs_getD (n : Nat) (bs : List Byte) (k : Nat) : (swapPairs n bs).getD k 0 =
    if k / 2 < n ∧ k / 2 * 2 + 1 < bs.length then bs.getD (if k % 2 = 0 then k + 1 else k - 1) 0 else bs.getD k 0 := by
  induction n generalizing bs k with
  | zero => rfl
  | succ n ih =>
    match bs with
    | [] => exact (if_neg (by simp)).symm
    | [_] => exact (if_neg (by simp)).symm
    | x :: y :: bs =>
      match k with
      | 0 => simp [swapPairs]
      | 1 => simp [swapPairs]
      | k + 2 =>
        have hdiv : (k + 2) / 2 = k / 2 + 1 := by omega
        have hmod : (k + 2) % 2 = k % 2 := by omega
        have hidx : (if k % 2 = 0 then k + 2 + 1 else k + 2 - 1) = (if k % 2 = 0 then k + 1 else k - 1) + 2 := by split <;> omega
        have hcond : (k / 2 + 1 < n + 1 ∧ (k / 2 + 1) * 2 + 1 < (x :: y :: bs).length) ↔ (k / 2 < n ∧ k / 2 * 2 + 1 < bs.length) := by
          simp only [List.length_cons]
          omega
        show (swapPairs n bs).getD k 0 = _
        rw [ih, hdiv, hmod, hidx]
        simp only [hcond]
        rfl

theorem list_eq_range_getD {bs : List Byte} {n : Nat} {f : Nat → Byte} (hn : bs.length = n) (h : ∀ k, k < n → bs.getD k 0 = f k) :
    bs = (List.range n).map f := by
  subst hn
  refine List.ext_getElem (by simp) fun k h1 h2 => ?_
  rw [List.getElem_map, List.getElem_range, ← h k h1, List.getD_eq_getElem _ _ h1]

/-- The number of 16-bit values at the head of a transaction of a kind (R113). -/
def PollKind.values (k : PollKind) : Nat := if k = .imu6 then 6 else if k = .mag3 then 3 else 0

theorem recordPayload_eq (c : PollCfg) (bs : List Byte) : recordPayload c bs = (List.range bs.length).map fun k =>
    if c.big = true ∧ k / 2 < c.kind.values ∧ k / 2 * 2 + 1 < bs.length
    then bs.getD (if k % 2 = 0 then k + 1 else k - 1) 0 else bs.getD k 0 := by
  have swapped : recordPayload c bs = if c.big = true then swapPairs c.kind.values bs else bs := by
    unfold recordPayload
    split
    · cases c.kind <;> rfl
    · rfl
  rw [swapped]
  cases hb : c.big
  · exact list_eq_range_getD rfl fun k _ => by simp
  · exact list_eq_range_getD (swapPairs_length _ _) fun k _ => by
      simp only [true_and, if_true]
      exact swapPairs_getD _ _ _

/-! ### The conversion of a gyro sample (R111, R112) -/

/-- The conversion of an axis saturates just when its magnitude passes 32767. -/
theorem saturates_iff (raw : Int) (gain : Nat) : saturates raw gain = decide (32767 < (roundDiv (raw * gain) 16384).natAbs) := by
  unfold saturates rawRate clampInt
  rw [decide_eq_decide]
  omega

theorem afterNewest_eq (h : List GyroEntry) (t : Time) :
    afterNewest h t = (h.getLast?.map fun e => decide (0 < (t - e.time).toInt)).getD true := by
  unfold afterNewest
  cases h.getLast? <;> rfl

/-- A good IMU6 completion, its rejection beside its append (R111, R112). -/
theorem Mou.gyro_eq (m : Mou) (t : Time) (big : Bool) (bs : List Byte) : m.gyro t big bs =
    let mounted : Mou := { m with
      mountForce := m.mountWritten, saturations := satAdd m.saturations (bit (anySaturates big bs m.mountWritten)) }
    if afterNewest m.history t = true then
      { mounted with history := pushHistory m.history (gyroEntry t big bs m.mountWritten) }
    else { mounted with historyRejects := satInc m.historyRejects } := rfl

/-! ### A transaction's completion (R109) -/

theorem exec_completes_good {b : Bus} {w : PollWork} {bytes : List Byte} (hh : s.held = false) (hw : (s.bus b).poll = some w)
    (hl : bytes.length = w.cfg.length) : exec (.transactionCompletes b (.good bytes)) s = .next ((s.pollGood w bytes).busFree b) := by
  show Host.Outcome.next (s.live _) = _
  rw [State.live_of_free _ hh, hw]
  exact congrArg _ (if_pos hl)

theorem exec_completes_refusedAddress {w : PollWork} (hh : s.held = false) (hw : (s.bus .twoWire).poll = some w) :
    exec (.transactionCompletes .twoWire .refusedAddress) s = .next ((s.pollRefused w 0).busFree .twoWire) := by
  show Host.Outcome.next (s.live _) = _
  rw [State.live_of_free _ hh, hw]
  rfl

theorem exec_completes_refusedData {w : PollWork} (hh : s.held = false) (hw : (s.bus .twoWire).poll = some w) :
    exec (.transactionCompletes .twoWire .refusedData) s = .next ((s.pollRefused w 1).busFree .twoWire) := by
  show Host.Outcome.next (s.live _) = _
  rw [State.live_of_free _ hh, hw]
  rfl

/-- The motion unit with one more sample of an entry. -/
def State.sampledPoll (s : State) (e : Fin 8) : State := s.onPoll e fun p => { p with samples := satInc p.samples }

theorem State.sampledPoll_cfg (s : State) (e i : Fin 8) : (s.sampledPoll e).mou.poll[i].cfg = s.mou.poll[i].cfg := by
  by_cases h : e = i
  · subst h
    have h := tabMod_same s.mou.poll e fun p => { p with samples := satInc p.samples }
    exact (congrArg PollEntry.cfg h :)
  · exact congrArg PollEntry.cfg (tabMod_other _ _ h)

theorem State.pollGood_stays {w : PollWork} {bytes : List Byte} (hf : w.cfg.toFifo = false) (hk : w.cfg.kind ≠ .imu6) :
    s.pollGood w bytes = s.sampledPoll w.q.entry := by
  unfold State.pollGood
  dsimp only
  rw [hf, if_neg hk]
  rfl

theorem usTicks_pos {us : Nat} (h : 0 < us) : 0 < usTicks us := Nat.div_pos (by omega) (by omega)

/-- Settles O43, by what waits on the bus. -/
theorem transactionCompletes : Obligations.TransactionCompletes := by
  refine ⟨?_, ?_⟩
  · intro s b w bytes hh hw hq hr hp freed sampled refused values payload record mount raw scaled rate saturates mounted newer taken goes joined
    have hpayload : recordPayload w.cfg bytes = payload := recordPayload_eq _ _
    have hraw : ∀ m : AxisMap, rawFor w.cfg.big bytes m = raw m.axis := fun m => by cases hm : m.axis <;> simp [rawFor, raw, hm] <;> rfl
    have hentry : gyroEntry w.q.trigger w.cfg.big bytes mount =
        { time := w.q.trigger, yaw := rate mount.yaw, pitch := rate mount.pitch, roll := rate mount.roll } := by
      simp only [gyroEntry, hraw]
      rfl
    have hsat : anySaturates w.cfg.big bytes mount = saturates := by
      simp only [anySaturates, saturates_iff, hraw, saturates, Bool.decide_or, Bool.or_assoc]
      rfl
    have hgyro : sampled.gyro w.q.trigger w.cfg.big bytes = if newer = true then
        { mounted with history := (if s.mou.history.length < 64 then s.mou.history else s.mou.history.drop 1) ++
          [{ time := w.q.trigger, yaw := rate mount.yaw, pitch := rate mount.pitch, roll := rate mount.roll }] }
        else { mounted with historyRejects := satInc s.mou.historyRejects } := by
      rw [Mou.gyro_eq, show sampled.mountWritten = mount from rfl, hentry, hsat, afterNewest_eq]
      rfl
    have hgood : s.pollGood w bytes =
        if w.cfg.toFifo = true then ({ s with mou := taken } : State).fifoJoin record else { s with mou := taken } := by
      have hm : (if w.cfg.kind = .imu6 then sampled.gyro w.q.trigger w.cfg.big bytes else sampled) = taken := by
        simp only [taken, hgyro, ite_not]
      have hs : (if w.cfg.kind = .imu6 then ({ s with mou := sampled } : State).onMou fun m => m.gyro w.q.trigger w.cfg.big bytes
          else { s with mou := sampled }) = { s with mou := taken } := by
        rw [← hm]
        split <;> rfl
      have hrec : recordOf w bytes s.osc = record := by
        rw [recordOf, hpayload]
      unfold State.pollGood
      dsimp only
      rw [hrec]
      exact congrArg (fun u : State => if w.cfg.toFifo = true then u.fifoJoin record else u) hs
    have hgoes : ∀ {t}, bytes.length = w.cfg.length → (s.pollGood w bytes).busFree b = t → goes t := fun hl ht => by
      show exec _ s = _
      rw [exec_completes_good hh hw hl, ht]
    have hfree : ∀ {m : Mou} {v : Evu}, m.relay = s.mou.relay → m.serial4 = s.mou.serial4 → m.twoWire = s.mou.twoWire →
        ({ s with mou := m, evu := v } : State).busFree b = freed m v := fun h1 h2 h3 => by
      refine State.busFree_idle ?_ (State.waitingRelay_none fun r ⟨k, _⟩ => nomatch hr.symm.trans (h1.symm.trans k)) ?_
      · cases b
        · rfl
        · exact (congrArg BusCtl.recPending h3).trans hp
      · cases b
        · exact (congrArg BusCtl.queue h2).trans hq
        · exact (congrArg BusCtl.queue h3).trans hq
    obtain ⟨hrelay, hserial, hwire, hfifo, hrecords, hdrops, hmark, hflush⟩ : taken.relay = s.mou.relay ∧
        taken.serial4 = s.mou.serial4 ∧ taken.twoWire = s.mou.twoWire ∧ taken.fifo = s.mou.fifo ∧ taken.records = s.mou.records ∧
        taken.fifoDrops = s.mou.fifoDrops ∧ taken.watermark = s.mou.watermark ∧ taken.flushTimeout = s.mou.flushTimeout := by
      simp only [taken]
      split_ifs <;> exact ⟨rfl, rfl, rfl, rfl, rfl, rfl, rfl, rfl⟩
    clear_value taken
    let u : State := { s with mou := taken }
    have hroom : s.mou.fifo.length < 64 → u.mou.fifo.length < fifoCapacity := fun h => (congrArg List.length hfifo).trans_lt h
    have hrecorded : u.recorded record = { s with mou := joined } := by
      show ({ s with mou := { taken with fifo := taken.fifo ++ [record], records := satInc taken.records } } : State) = _
      rw [hfifo, hrecords]
    have hjoined : ({ s with mou := joined } : State).busFree b = freed joined s.evu := hfree hrelay hserial hwire
    refine ⟨fun hl hf => hgoes hl ?_, fun hl hf hm h64 hd ht => hgoes hl ?_, fun hl hf hm h64 => hgoes hl ?_,
      fun r head rest hl hf hm hs h64 => ?_, fun hb => ?_, fun hb => ?_⟩
    · rw [hgood, if_neg (by rw [hf]; decide)]
      exact hfree hrelay hserial hwire
    · have hdue : u.flushDue = false := by
        show (match taken.fifo with | [] => false | r :: _ => decide (r.joined + usTicks taken.flushTimeout ≤ s.osc)) = false
        rw [hfifo, hflush]
        exact hd
      rw [hgood, if_pos hf, State.fifoJoin_eq (hroom h64), State.judgeBatch_of_not_due, hrecorded, hjoined]
      refine State.recorded_notDue ?_ hdue (Nat.lt_add_of_pos_right (usTicks_pos ?_))
      · show taken.fifo.length + 1 < taken.watermark
        rw [hfifo, hmark]
        exact hm
      · exact hflush.symm ▸ ht
    · rw [hgood, if_pos hf, State.fifoJoin_eq (hroom h64), State.judgeBatch_of_full (s := u.recorded record) hm, hrecorded, hjoined]
    · intro drops
      refine hgoes hl ?_
      have hdrop := State.fifoDrop_full (s := u) (hfifo.trans hs) (h64.trans (congrArg List.length hfifo).ge)
      have hlast : u.fifoJoin record = u.fifoDrop.recorded record := by
        refine State.judgeBatch_of_full ?_
        rw [hdrop]
        exact hm
      rw [hgood, if_pos hf, hlast, hdrop]
      rw [show u.mou.fifoDrops = s.mou.fifoDrops from hdrops]
      simp only [State.recorded]
      rw [show u.mou.records = s.mou.records from hrecords]
      refine hfree (m := { joined with fifo := { head with gap := true } :: rest ++ [record], fifoDrops := drops }) ?_ ?_ ?_
      · exact hrelay
      · exact hserial
      · exact hwire
    · subst hb
      rw [exec_completes_refusedAddress hh hw]
      exact congrArg _ (hfree rfl rfl rfl)
    · subst hb
      rw [exec_completes_refusedData hh hw]
      exact congrArg _ (hfree rfl rfl rfl)
  · intro s b w bytes hh hw hl hk hf free checked recovers goes waits clear
    have hgoes : ∀ t, (s.sampledPoll w.q.entry).busFree b = t → goes t := fun t h => by
      show exec _ s = _
      rw [exec_completes_good hh hw hl, State.pollGood_stays hf hk, h]
    have hclear : clear → (s.sampledPoll w.q.entry).pendingRecovery b = none := fun h => by
      cases b
      · rfl
      · exact h.resolve_left nofun
    have hsub : ∀ r, waits r → (s.sampledPoll w.q.entry).waitingRelay b = some r := fun r ⟨h1, h2, h3⟩ => State.waitingRelay_eq h1 h2 h3
    refine ⟨fun cause hb hc => hgoes _ ?_, fun r hc hr => ?_, fun q rest hc hr hq => ?_⟩
    · subst hb
      exact State.busFree_recovery hc
    · intro first busy runs
      have hn := hsub r hr
      obtain ⟨h1, h2, h3⟩ := hr
      have hrelay : (State.idled (s.sampledPoll w.q.entry) b).mou.relay = some r := State.idled_relay.trans h1
      refine ⟨fun hb => hgoes _ ?_, fun hb hd => hgoes _ ?_, fun hb hd => hgoes _ ?_⟩
      · rw [State.busFree_relay (hclear hc) hn, State.startRelay_serial4 (h2.trans hb) hrelay]
        subst hb
        rfl
      · rw [State.busFree_relay (hclear hc) hn, State.startRelay_twoWire (h2.trans hb) hrelay]
        subst hb
        rw [if_neg (by rw [show (State.idled (s.sampledPoll w.q.entry) .twoWire).dataLow = s.dataLow from rfl, hd]; decide)]
        rfl
      · rw [State.busFree_relay (hclear hc) hn, State.startRelay_twoWire (h2.trans hb) hrelay]
        subst hb
        rw [if_pos (show (State.idled (s.sampledPoll w.q.entry) .twoWire).dataLow = true from hd)]
        rfl
    · intro begun runs
      have hhead := State.busFree_head (s := s.sampledPoll w.q.entry) (hclear hc) (State.waitingRelay_none hr)
        (show ((s.sampledPoll w.q.entry).bus b).queue = q :: rest by cases b <;> exact hq)
      have hcfg : (s.sampledPoll w.q.entry).mou.poll[q.entry].cfg = s.mou.poll[q.entry].cfg := s.sampledPoll_cfg _ _
      have hlow : ∀ m, State.dataLow (((s.sampledPoll w.q.entry).idled m)) = s.dataLow := fun m => by cases m <;> rfl
      refine ⟨fun hb => hgoes _ ?_, fun hb hd => hgoes _ ?_, fun hb hd => hgoes _ ?_⟩
      · subst hb
        rw [hhead, State.startPoll_serial4]
        simp only [State.idled, State.onBus, State.onMou]
        rw [hcfg]
        rfl
      · subst hb
        rw [hhead, State.startPoll_twoWire]
        simp only [hlow, hd, Bool.false_eq_true, if_false]
        simp only [State.idled, State.onBus, State.onMou]
        rw [hcfg]
        rfl
      · subst hb
        rw [hhead, State.startPoll_twoWire]
        simp only [hlow, hd, if_true]
        simp only [recovers, checked, begun, free, State.idled, State.onPoll, State.onBus, State.onMou, tabMod_tabMod]
        rfl

end Sys2Proof.Machine
end

section
/-! Recovery of the two-wire bus and the relay's run to its reply (6.6, 6.7). -/

namespace Sys2Proof.Machine

open Sys2Proof

variable {s : State}

/-! ### The relay ends (R53, R118) -/

/-- A relay's reply stands in the REPLY queue and the slot is FREE. -/
theorem State.slotReply_eq {k : Slot} (st : Status) (bytes : List Byte) (h : s.mrs.slot = some k) : s.slotReply st bytes = { s with
    mrs := { s.mrs with slot := none }
    ltx := { s.ltx with
      reply := s.ltx.reply ++ [
        { tag := k.tag, status := st, table := 1, count := if st = .ok then BitVec.ofNat 8 k.readLen else k.count, index := k.index
          data := if st = .ok then wordsOf ((k.readLen + 3) / 4) bytes else [], restart := false }] } } := by
  unfold State.slotReply
  rw [h]
  simp only [decide_eq_true_eq]
  rfl

theorem State.relayDone_eq {k : Slot} (st : Status) (bytes : List Byte) (h : s.mrs.slot = some k) : s.relayDone st bytes = { s with
    mou := { s.mou with relay := none }
    mrs := { s.mrs with slot := none }
    ltx := { s.ltx with
      reply := s.ltx.reply ++ [
        { tag := k.tag, status := st, table := 1, count := if st = .ok then BitVec.ofNat 8 k.readLen else k.count, index := k.index
          data := if st = .ok then wordsOf ((k.readLen + 3) / 4) bytes else [], restart := false }] } } :=
  State.slotReply_eq (s := s.onMou fun m => { m with relay := none }) st bytes h

/-! ### Recovery (R116, R117) -/

theorem State.transferring_eq {b : Bus} {r : Relay} (hr : s.mou.relay = some r) (hb : r.bus = b) (hp : r.phase.transfers = true)
    (hs : (s.bus b).state = .busy) : s.transferring b = some r := by
  unfold State.transferring
  rw [hr]
  exact if_pos ⟨hb, hp, hs⟩

theorem exec_recoveryCompletes {r : Recovery} {o : RecoveryOutcome} (hh : s.held = false) (hr : s.mou.twoWire.recovery = some r) :
    exec (.recoveryCompletes o) s = .next (match o with
      | .success n => s.recoverySucceeds r n.val
      | .failure n => s.recoveryFails r n.val) := by
  show Host.Outcome.next (s.live _) = _
  rw [State.live_of_free _ hh, hr]
  cases o <;> rfl

theorem State.faultEndsRelay_iff (forRelay : Bool) : s.faultEndsRelay forRelay = true ↔
    ∃ x, s.mou.relay = some x ∧ x.bus = .twoWire ∧ (forRelay = true ∨ x.phase = .waiting) := by
  unfold State.faultEndsRelay
  cases s.mou.relay <;> simp

/-- Settles O44, by what the recovery was for. -/
theorem recoveryRunsOnTwoWire : Obligations.RecoveryRunsOnTwoWire := by
  intro s hh bus recovering detail
  refine ⟨fun w hw => ?_, fun r k hw hr hb hp hs hk => ?_, fun r n hr hf hp hq hn => ?_, fun r n hr hf => ?_, fun r n hr => ?_, fun hd => ?_⟩
  · show Host.Outcome.next (s.live _) = _
    rw [State.live_of_free _ hh, State.clockHold, hw]
    rfl
  · show Host.Outcome.next (s.live _) = _
    rw [State.live_of_free _ hh, State.clockHold, hw, State.transferring_eq hr hb hp hs]
    dsimp only
    rw [State.relayDone_eq _ _ hk]
    rfl
  · rw [exec_recoveryCompletes hh hr]
    dsimp only
    unfold State.recoverySucceeds
    dsimp only
    rw [hf]
    refine congrArg _ ?_
    let u : State := { s with
      mou := { s.mou with twoWire := { s.mou.twoWire with state := .idle, recovery := none }, recoveries := satInc s.mou.recoveries }
      evu := s.evu.take .busRecovered (detail r n) s.now s.timeUnset }
    have hwait : u.waitingRelay .twoWire = none := State.waitingRelay_none fun x ⟨h, _⟩ => nomatch hn.symm.trans h
    have hhead : u.startHead .twoWire = u := by
      rw [State.startHead, show (u.bus .twoWire).queue = [] from hq]
    exact (State.startNext_head (s := u) (b := .twoWire) rfl hp hwait).trans hhead
  · rw [exec_recoveryCompletes hh hr]
    dsimp only
    unfold State.recoverySucceeds
    dsimp only
    rw [hf]
    rfl
  · intro ends failed
    have hiff : (failed.faultEndsRelay r.forRelay = true) ↔ ends := State.faultEndsRelay_iff _
    have hfail : exec (.recoveryCompletes (.failure n)) s =
        .next (if failed.faultEndsRelay r.forRelay = true then failed.relayDone .busError [] else failed) :=
      exec_recoveryCompletes hh hr
    refine ⟨fun he => ?_, fun k he hk => ?_⟩
    · rw [hfail, if_neg (mt hiff.mp he)]
    · rw [hfail, if_pos (hiff.mpr he), State.relayDone_eq (s := failed) _ _ hk]
      rfl
  · show Host.Outcome.next (s.live _) = _
    rw [State.live_of_free _ hh, if_pos hd]
    rfl

/-! ### The relay's phases (R118, R119) -/

theorem State.relayTransfer_eq {r : Relay} (hr : s.mou.relay = some r) (hp : r.phase.transfers = true)
    (hs : (s.bus r.bus).state = .busy) : s.relayTransfer = some r := by
  unfold State.relayTransfer
  cases hb : r.bus with
  | serial4 => rw [State.transferring_eq hr hb hp (hb ▸ hs)]
  | twoWire =>
    have hn : s.transferring .serial4 = none := by
      unfold State.transferring
      rw [hr]
      exact if_neg fun h => by simp [hb] at h
    rw [hn, State.transferring_eq hr hb hp (hb ▸ hs)]

theorem exec_relayCompletes {r : Relay} {o : RelayOutcome} (hh : s.held = false) (hr : s.relayTransfer = some r) :
    exec (.relayCompletes o) s = .next (s.relayCompletes r o) := by
  show Host.Outcome.next (s.live _) = _
  rw [State.live_of_free _ hh, hr]

theorem exec_relayWaitEnd {r : Relay} (hh : s.held = false) (hr : s.mou.relay = some r) (hp : r.phase = .wait) (he : r.waitEnd ≤ s.osc)
    (hl : 0 < r.readLen) : exec .relayWaitEnd s = .next (s.beginTransfer r.bus .read) := by
  have hover : s.waitOver = some r := by
    unfold State.waitOver
    rw [hr]
    exact if_pos ⟨hp, he⟩
  show Host.Outcome.next (s.live _) = _
  rw [State.live_of_free _ hh, hover]
  exact congrArg _ (if_pos hl)

theorem State.relayPhase_eq {r : Relay} (hr : s.mou.relay = some r) (ph : RelayPhase) :
    s.relayPhase ph = { s with mou := { s.mou with relay := some { r with phase := ph } } } := by
  show ({ s with mou := { s.mou with relay := s.mou.relay.map fun r => { r with phase := ph } } } : State) = _
  rw [hr]
  rfl

/-- A relay's transfer on TWO_WIRE samples the data line (R118). -/
theorem State.beginTransfer_twoWire {r : Relay} (hr : s.mou.relay = some r) (ph : RelayPhase) :
    s.beginTransfer .twoWire ph = { s with mou := { s.mou with
      relay := some { r with phase := ph }
      lineSamples := s.mou.lineSamples + 1
      twoWire := if s.dataLow = true then s.mou.twoWire.recovers .lineLow true else s.mou.twoWire } } := by
  unfold State.beginTransfer
  dsimp only
  rw [State.relayPhase_eq hr]
  split <;> rfl

theorem exec_relayTimeout {k : Slot} (hh : s.held = false) (hk : s.mrs.slot = some k) (hd : k.deadline ≤ s.osc) :
    exec .relayTimeout s = .next (s.slotReply .timeout []).relayAbort := by
  have ht : s.relayTimedOut = true := by
    unfold State.relayTimedOut
    rw [hk]
    exact decide_eq_true hd
  show Host.Outcome.next (s.live _) = _
  rw [State.live_of_free _ hh, if_pos ht]

/-- The abort of a relay at work ends its bus's work (R119). -/
theorem State.relayAbort_working {r : Relay} (hr : s.mou.relay = some r) (hw : r.phase ≠ .waiting) : s.relayAbort =
    if r.bus = .serial4 then ({ s with mou := { s.mou with relay := none } } : State).busFree .serial4
    else ({ s with mou := { s.mou with relay := none } } : State).startRecovery .relayAbort false := by
  unfold State.relayAbort
  rw [hr]
  obtain ⟨b, _⟩ := r
  cases b
  · exact (if_neg hw).trans (if_pos rfl).symm
  · exact (if_neg hw).trans (if_neg (fun h => nomatch h)).symm

/-- Settles O45, by the phase and its bus. -/
theorem relayRunsToItsReply : Obligations.RelayRunsToItsReply := by
  intro s r k hh hr hk hq hrp hw answered freed
  have hbusy : r.phase.transfers = true → (s.bus r.bus).state = .busy → s.relayTransfer = some r := State.relayTransfer_eq hr
  have hdone : ∀ st bytes, (s.relayDone st bytes).busFree r.bus = answered st (if st = .ok then BitVec.ofNat 8 k.readLen else k.count)
      (if st = .ok then wordsOf ((k.readLen + 3) / 4) bytes else []) freed := fun st bytes => by
    rw [State.relayDone_eq _ _ hk, State.busFree_idle _ (State.waitingRelay_none fun x ⟨h, _⟩ => nomatch h)]
    · cases hb : r.bus <;> simp only [answered, freed, hb] <;> rfl
    · cases hb : r.bus <;> rw [hb] at hq <;> exact hq
    · cases hb : r.bus
      · rfl
      · exact hrp
  have hslot := State.slotReply_eq .timeout [] hk
  have hrelay : (s.slotReply .timeout []).mou.relay = some r := by rw [hslot]; exact hr
  refine ⟨fun bytes hp hs hlast hl => ?_, fun hp hs hb => ?_, fun hs hp hwait => ?_, fun hp he hb hl => ?_, fun hp he hb hl => ?_,
    fun hd hb => ?_, fun hd hb => ?_⟩
  · rw [exec_relayCompletes hh (hbusy hp hs), State.relayCompletes, if_pos ⟨hlast, hl⟩, hdone]
    rfl
  · rw [exec_relayCompletes hh (hbusy hp hs), State.relayCompletes, if_pos hb, hdone]
    rfl
  · show Host.Outcome.next (s.live _) = _
    rw [State.live_of_free _ hh, hbusy (by rw [hp]; rfl) hs]
    dsimp only
    rw [if_pos hp, State.relayWriteEnds, if_pos hwait]
    rfl
  · have hread : s.beginTransfer r.bus .read = s.relayPhase .read := by rw [hb]; rfl
    rw [exec_relayWaitEnd hh hr hp he hl, hread, State.relayPhase_eq hr]
  · have hread : s.beginTransfer r.bus .read = s.beginTransfer .twoWire .read := by rw [hb]
    rw [exec_relayWaitEnd hh hr hp he hl, hread, State.beginTransfer_twoWire hr]
    rfl
  · rw [exec_relayTimeout hh hk hd, State.relayAbort_working hrelay hw, if_pos hb, State.busFree_idle (by exact rfl)
      (State.waitingRelay_none fun x ⟨h, _⟩ => nomatch h) (by rw [hslot]; exact hb ▸ hq), hslot]
    simp only [answered, freed, hb]
    rfl
  · rw [exec_relayTimeout hh hk hd, State.relayAbort_working hrelay hw, if_neg (by rw [hb]; exact fun h => nomatch h), hslot]
    rfl

end Sys2Proof.Machine
end

section
/-! Stored writes (R46): the judged entries, the store and its reply; the stream, timer, event, power and load tables. -/

namespace Sys2Proof.Machine

open Sys2Proof

variable {s t : State}

/-! ### A stored write (R46) -/

theorem State.judgeWrite_store {t : Table} {first count : Nat} {ws : List Word} {es : List EntryValues} {cl : Bool}
    (h : s.judgeWrite t first count ws = .store es cl) : es = (List.range count).map (t.entryAt first ws) := by
  unfold State.judgeWrite at h
  split at h
  · cases h
  split at h
  · cases h
  split at h
  · cases h
  split at h
  · cases h
  · split at h
    · cases h
    · cases h
      exact validate_eq_some ‹_›

/-- The entries of a stored write are numbered from its first. -/
theorem State.judgeWrite_entries {t : Table} {first count : Nat} {ws : List Word} {es : List EntryValues} {cl : Bool}
    (h : s.judgeWrite t first count ws = .store es cl) : es.map EntryValues.entry = List.range' first count := by
  rw [State.judgeWrite_store h, List.map_map, List.range'_eq_map_range]
  rfl

theorem State.judgeWrite_entry {t : Table} {first : Nat} {ws : List Word} {e : EntryValues} {cl : Bool}
    (h : s.judgeWrite t first 1 ws = .store [e] cl) : e.entry = first := by
  simpa using State.judgeWrite_entries h

/-- The state that a stored write leaves before its edges are handed on. -/
def State.storedBy (s : State) (table : Byte) (t : Table) (r : Request) (es : List EntryValues) (cl : Bool) : State :=
  (s.countTaken.store t es).answerWith table r (if cl then .okAdjusted else .ok)

/-- A stored write is its store and its reply, with the edges that it makes (R38, R46). -/
theorem exec_stored {c : Instr} {table : Byte} {t : Table} {r : Request} {es : List EntryValues} {cl : Bool}
    (hc : Instr.asRequest c = some (1, table, r)) (hs : s.serves r) (ht : Table.ofCode table.toNat = some t) (h0 : r.count ≠ 0)
    (hi : r.index.toNat + r.count.toNat ≤ t.entries) (hj : s.judgeWrite t r.index.toNat r.count.toNat r.data = .store es cl) :
    exec c s = .next ((s.storedBy table t r es cl).handEdges s.levels (s.storedBy table t r es cl).levels) := by
  rw [exec_asRequest hc hs.1]
  refine congrArg _ (State.edged_apply ?_)
  have hj' : s.countTaken.judgeWrite t r.index.toNat r.count.toNat r.data = .store es cl := hj
  rw [State.request_table hs ht (by decide) h0 hi, if_neg (by decide), if_pos rfl, State.doWrite, reqIndex_of_long hs.2.2.1, hj']
  rfl

/-- A stored write of one entry. -/
theorem exec_stored_one {c : Instr} {table : Byte} {t : Table} {r : Request} {e : EntryValues} {cl : Bool}
    (hc : Instr.asRequest c = some (1, table, r)) (hs : s.serves r) (ht : Table.ofCode table.toNat = some t) (h1 : r.count = 1)
    (hi : r.index.toNat < t.entries) (hj : s.judgeWrite t r.index.toNat 1 r.data = .store [e] cl) :
    exec c s = .next ((s.storedBy table t r [e] cl).handEdges s.levels (s.storedBy table t r [e] cl).levels) := by
  have hn : r.count.toNat = 1 := by rw [h1]; rfl
  exact exec_stored hc hs ht (by rw [h1]; decide) (by rw [hn]; exact hi) (by rw [hn]; exact hj)

/-- A stored write of one entry that raises no line. -/
theorem exec_stored_noRise {c : Instr} {table : Byte} {t : Table} {r : Request} {e : EntryValues} {cl : Bool}
    (hc : Instr.asRequest c = some (1, table, r)) (hs : s.serves r) (ht : Table.ofCode table.toNat = some t) (h1 : r.count = 1)
    (hi : r.index.toNat < t.entries) (hj : s.judgeWrite t r.index.toNat 1 r.data = .store [e] cl)
    (hq : NoRise s (s.storedBy table t r [e] cl)) : exec c s = .next (s.storedBy table t r [e] cl) := by
  rw [exec_stored_one hc hs ht h1 hi hj]
  refine congrArg _ (State.handEdges_of_noRise _ fun i => ?_)
  rw [State.levels_get, State.levels_get]
  exact hq i

theorem State.storedBy_noRise (s : State) (table : Byte) {t : Table} (r : Request) (es : List EntryValues) (cl : Bool)
    (h : t.quiet = true) : NoRise s (s.storedBy table t r es cl) :=
  (NoRise.of_lineless ((s.onMrs_within _).mono (by decide))).trans
    ((State.store_quiet s.countTaken es h).toNoRise.trans (.of_lineless ((State.answerWith_within _ _ _ _).mono (by decide))))

/-- The steering windows after the entries of a write. -/
def storedWindows (es : List EntryValues) (v : Vector Window 8) : Vector Window 8 :=
  es.foldl (fun v e => v.set (Fin.ofNat 8 e.entry) e.window) v

theorem State.store_steering (s : State) (es : List EntryValues) :
    s.store .steering es = { s with stu := { s.stu with written := storedWindows es s.stu.written } } := by
  show es.foldl (fun s e => s.storeEntry .steering e) s = _
  induction es generalizing s with
  | nil => rfl
  | cons e es ih => exact ih _

/-- Settles O23, table by table. -/
theorem writesOfStreamAndTimerTables : Obligations.WritesOfStreamAndTimerTables := by
  refine ⟨fun r s e cl hs h1 => ?_, fun table t r s es cl hs ht h0 hi hj => ?_⟩
  · intro st window side
    have hidx : ∀ {n : Nat}, r.index = 0 → 0 < n → r.index.toNat < n := fun h k => by rw [h]; exact k
    have hzero : ∀ {t : Table}, r.index = 0 → s.judgeWrite t 0 1 r.data = .store [e] cl →
        s.judgeWrite t r.index.toNat 1 r.data = .store [e] cl := fun h k => by rw [h]; exact k
    have hstored : ∀ {table : Byte} {t : Table}, t.quiet = true → NoRise s (s.storedBy table t r [e] cl) := fun h =>
      s.storedBy_noRise _ _ _ _ h
    refine ⟨fun h hj => ?_, fun i h hj => ?_, fun i h hj => ?_, fun h hj hn => ?_, fun h hj ha hf => ?_, fun g h hj => ?_,
      fun h hj => ?_, fun h hj => ?_, fun i h hj => ?_⟩
    · rw [exec_stored_noRise (t := .link) rfl hs rfl h1 (hidx h (by decide)) (hzero h hj) (fun i h => h)]
      rfl
    · rw [exec_stored_noRise (t := .steering) rfl hs rfl h1 (h ▸ i.isLt) (h ▸ hj) (fun i h => h)]
      obtain rfl : Fin.ofNat 8 e.entry = i := by rw [State.judgeWrite_entry hj, Fin.ofNat_val_self]
      rfl
    · intro t
      have he : e.entry = i.val := State.judgeWrite_entry hj
      have ht : s.storedBy 4 .sideband r [e] cl = t := by
        show State.answerWith (State.storeEntry _ .sideband e) 4 r _ = t
        rw [State.storeEntry, he, Fin.ofNat_val_self]
        rfl
      rw [exec_stored_one (t := .sideband) rfl hs rfl h1 (h ▸ i.isLt) (h ▸ hj), ht]
    · rw [exec_stored_noRise (t := .frameTimer) rfl hs rfl h1 (hidx h (by decide)) (hzero h hj) (hstored rfl)]
      have hsto : s.ftm.store e.ftCfg s.now = { s.ftm with written := e.ftCfg } := if_neg fun ⟨ha, hf⟩ =>
        hn.elim (fun hn => hn ha) fun hn => nomatch hn.symm.trans hf
      exact congrArg (fun x => Host.Outcome.next ({ s.answered 5 r st [] with ftm := x } : State)) hsto
    · rw [exec_stored_noRise (t := .frameTimer) rfl hs rfl h1 (hidx h (by decide)) (hzero h hj) (hstored rfl)]
      exact congrArg (fun x => Host.Outcome.next ({ s.answered 5 r st [] with ftm := x } : State)) (if_pos ⟨ha, hf⟩)
    · have hn : r.index.toNat < Table.exposure.entries := by rw [h]; cases g <;> decide
      have he : (if e.entry = 0 then Side.a else Side.b) = g := by
        rw [State.judgeWrite_entry hj, h]
        cases g <;> rfl
      have hst : s.storedBy 6 .exposure r [e] cl = { s.answered 6 r st [] with
          ftm := { s.ftm with gens := s.ftm.gens.modify g fun x => { x with written := e.expCfg } } } := by
        show State.answerWith (State.onGen _ (if e.entry = 0 then Side.a else Side.b) _) 6 r _ = _
        rw [he]
        rfl
      rw [exec_stored_noRise (t := .exposure) rfl hs rfl h1 hn hj (by rw [hst]; cases g <;> exact fun i h => h), hst]
      rfl
    · rw [exec_stored_noRise (t := .shift) rfl hs rfl h1 (hidx h (by decide)) (hzero h hj) (hstored rfl)]
      rfl
    · rw [exec_stored_noRise (t := .mount) rfl hs rfl h1 (hidx h (by decide)) (hzero h hj) (hstored rfl)]
      rfl
    · rw [exec_stored_noRise (t := .events) rfl hs rfl h1 (h ▸ i.isLt) (h ▸ hj) (hstored rfl)]
      obtain rfl : Fin.ofNat 28 e.entry = i := by rw [State.judgeWrite_entry hj, Fin.ofNat_val_self]
      rfl
  · intro st window taken
    have hidx : reqIndex r = r.index := reqIndex_of_long hs.2.2.1
    have hexec := exec_stored (c := .write table r) rfl hs ht h0 hi hj
    have hst : s.storedBy table t r es cl =
        let u := (taken s).store t es
        { u with ltx := { u.ltx with reply := u.ltx.reply ++ [
          { tag := r.tag, status := st, table := table, count := r.count, index := r.index, data := [], restart := false }] } } := by
      simp only [State.storedBy, State.answerWith, State.placeReply, replyTo, hidx]
      rfl
    refine ⟨State.judgeWrite_entries hj, ?_, fun hsteer => ?_⟩
    · rw [hexec, hst]
      rfl
    · subst hsteer
      have hsteer : s.storedBy table .steering r es cl = { s.answered table r st [] with
          stu := { s.stu with written := storedWindows es s.stu.written } } := by
        rw [State.storedBy, State.store_steering]
        rfl
      rw [hexec, hsteer]
      exact congrArg _ (State.handEdges_of_noRise _ fun i h => h)

end Sys2Proof.Machine
end

section
/-! Stored writes of the power and load tables (R174, R177, R179). -/

namespace Sys2Proof.Machine

open Sys2Proof

variable {s t : State}

/-! ### What a stored write leaves -/

/-- The parts that a write of a unit's table can touch. -/
def servedParts : List Part := .mrs :: .ltx :: allocationParts

theorem Within.restore_served (w : Within servedParts s t) :
    { t with mrs := s.mrs, ltx := s.ltx, ftm := s.ftm, pxp := s.pxp, mou := s.mou, auu := s.auu, pte := s.pte, pmg := s.pmg
             evu := s.evu } = s := by
  have hp := w.pending
  have hh := w.hold
  have hc := w.clock.resolve_left (by decide)
  have hl := w.lrx.resolve_left (by decide)
  have hu := w.stu.resolve_left (by decide)
  have hf := w.cfl.resolve_left (by decide)
  have hs := w.lsu.resolve_left (by decide)
  cases s
  cases t
  simp only at hp hh hc hl hu hf hs
  simp only [hp, hh, hc, hl, hu, hf, hs]

section
variable (s : State) (table : Byte) (t : Table) (r : Request) (es : List EntryValues) (cl : Bool)

theorem State.storedBy_within (h : t.parts ⊆ servedParts) : Within servedParts s (s.storedBy table t r es cl) :=
  ((s.onMrs_within _).mono (by decide)).trans
    (((State.store_within s.countTaken t es).mono h).trans ((State.answerWith_within _ _ _ _).mono (by decide)))

theorem State.storedBy_mrs : (s.storedBy table t r es cl).mrs = (s.answered table r (if cl then .okAdjusted else .ok) []).mrs :=
  (State.store_within s.countTaken t es).mrs.resolve_left t.responder_not_stored

theorem State.storedBy_reply :
    (s.storedBy table t r es cl).ltx.reply = (s.answered table r (if cl then .okAdjusted else .ok) []).ltx.reply :=
  congrArg (· ++ [replyTo table r (if cl then .okAdjusted else .ok) []]) (State.store_queuesKept s.countTaken t es).1

theorem State.storedBy_ltx (h : Part.ltx ∉ t.parts) :
    (s.storedBy table t r es cl).ltx = (s.answered table r (if cl then .okAdjusted else .ok) []).ltx := by
  have hl : (s.countTaken.store t es).ltx = s.ltx := (State.store_within s.countTaken t es).ltx.resolve_left h
  show ({ (s.countTaken.store t es).ltx with reply := (s.countTaken.store t es).ltx.reply ++ _ } : Ltx) = _
  rw [hl]
  rfl

end

/-! ### The power state judged again (R174) -/

theorem State.storePower_state (s : State) (c : PowerCfg) : (s.storePower c).pmg.state = ({ s.pmg with cfg := c } : Pmg).rejudged := by
  unfold State.storePower
  dsimp only
  rw [State.budgetAndAllocate_state]
  split
  · assumption
  · rw [State.moveState_pmg]
    rfl

theorem Pmg.rejudged_eq (p : Pmg) : p.rejudged = if p.state = .held ∨ p.state = .trip then p.state
    else if p.latest.mv < p.cfg.vTrip then .trip else ladder p.cfg p.hold p.state p.filtered.mv := by
  unfold Pmg.rejudged
  cases h : p.state <;> simp

/-! ### The loads (R177) -/

theorem Pmg.storeLoad_get (p : Pmg) {e : EntryValues} {i : Fin 8} (he : e.entry = i.val) :
    (p.storeLoad e).loads[i].priority = e.num 0 ∧ (p.storeLoad e).loads[i].floor = e.num 1
      ∧ (i = 2 ∨ i = 3 → (p.storeLoad e).loads[(2 : Fin 8)].priority = e.num 0 ∧ (p.storeLoad e).loads[(3 : Fin 8)].priority = e.num 0)
      ∧ (i = 7 → (p.storeLoad e).loads[(7 : Fin 8)].switch = e.flag 2) := by
  fin_cases i <;> simp [Pmg.storeLoad, he, tabMod, Load.store]

theorem Pmg.storeLoad_kept (p : Pmg) (e : EntryValues) : (p.storeLoad e).state = p.state ∧ (p.storeLoad e).budget = p.budget := by
  unfold Pmg.storeLoad
  split_ifs <;> exact ⟨rfl, rfl⟩

/-- An allocation leaves what a write stores of a load. -/
theorem State.allocate_stored (s : State) (i : Fin 8) : s.allocate.pmg.loads[i].priority = s.pmg.loads[i].priority
    ∧ s.allocate.pmg.loads[i].floor = s.pmg.loads[i].floor ∧ s.allocate.pmg.loads[i].switch = s.pmg.loads[i].switch := by
  rw [s.allocate_spec.2.1]
  dsimp only
  rw [allocated_get, State.requested_get]
  exact ⟨rfl, rfl, rfl⟩

/-- Settles O25, by the two stores. -/
theorem writesOfPowerTables : Obligations.WritesOfPowerTables := by
  intro r s e cl hs h1 kept
  refine ⟨fun h hj => ?_, fun i h hj => ?_⟩
  · have hexec := exec_stored_one (c := .writePower r) rfl hs (t := .power) rfl h1 (by rw [h]; decide) (by rw [h]; exact hj)
    let u : State := s.storedBy 16 .power r [e] cl
    obtain ⟨m, hm⟩ : ∃ m, u.handEdges s.levels u.levels = { u with mou := m } := ⟨_, (u.handEdges_within _ _).eq_mou⟩
    have hu : u.pmg = (s.countTaken.storePower e.powerCfg).pmg := rfl
    obtain ⟨hcfg, hbudget, -⟩ := s.countTaken.storePower_budgeted e.powerCfg
    have hstate := s.countTaken.storePower_state e.powerCfg
    refine ⟨_, hexec.trans (congrArg _ hm), hcfg, ?_, ?_, s.storedBy_ltx 16 .power r [e] cl (by decide), ?_⟩
    · exact hstate.trans (Pmg.rejudged_eq _)
    · show u.pmg.budget = budgetOf e.powerCfg u.pmg.state
      rw [hu, hbudget, hcfg]
    · exact (s.storedBy_within 16 .power r [e] cl (by decide)).restore_served
  · have he : e.entry = i.val := State.judgeWrite_entry hj
    let v : State := s.countTaken.onPmg fun p => p.storeLoad e
    have hexec := exec_stored_noRise (c := .writeLoads r) rfl hs (t := .loads) rfl h1 (h ▸ i.isLt) (h ▸ hj) (s.storedBy_noRise _ _ _ _ rfl)
    have hu : (s.storedBy 15 .loads r [e] cl).pmg = v.allocate.pmg := rfl
    obtain ⟨hp, hf, hpair, hsw⟩ := s.pmg.storeLoad_get he
    have hstored := v.allocate_stored
    obtain ⟨-, hstate, hbudget, -⟩ := v.allocate_pmg
    refine ⟨_, hexec, ?_, ?_, fun h => ?_, fun h => ?_, ?_, ?_, ?_, s.storedBy_ltx 15 .loads r [e] cl (by decide), ?_⟩
    · rw [hu]; exact (hstored i).1.trans hp
    · rw [hu]; exact (hstored i).2.1.trans hf
    · rw [hu]; exact ⟨(hstored 2).1.trans (hpair h).1, (hstored 3).1.trans (hpair h).2⟩
    · rw [hu]; exact (hstored 7).2.2.trans (hsw h)
    · rw [hu, hstate]; exact (s.pmg.storeLoad_kept e).1
    · rw [hu, hbudget]; exact (s.pmg.storeLoad_kept e).2
    · exact v.allocate_requestChanged
    · exact (s.storedBy_within 15 .loads r [e] cl (by decide)).restore_served

end Sys2Proof.Machine
end

section
/-! Stored writes of the unit tables (panel, poll, motion, audio, pattern), and the allocation that follows them (R46, R105 to R107, R178,
R182). -/

namespace Sys2Proof.Machine

open Sys2Proof

variable {s t : State}

/-! ### The allocation does not see the responder -/

section
variable (g : Mrs → Mrs)

theorem State.onFtm_onMrs (s : State) (f : Ftm → Ftm) : (s.onMrs g).onFtm f = (s.onFtm f).onMrs g := rfl

theorem State.onPanel_onMrs (s : State) (p : Side) (f : PanelState → PanelState) : (s.onMrs g).onPanel p f = (s.onPanel p f).onMrs g := rfl

theorem State.onScanning_onMrs (s : State) (f : FrameRec → FrameRec) : (s.onMrs g).onScanning f = (s.onScanning f).onMrs g := rfl

theorem State.handDerived_onMrs (s : State) : (s.onMrs g).handDerived = s.handDerived.onMrs g := rfl

theorem State.endScan_onMrs (s : State) (p : Side) : (s.onMrs g).endScan p = (s.endScan p).onMrs g := by
  unfold State.endScan
  rw [show (s.onMrs g).ftm = s.ftm from rfl]
  cases s.ftm.scanning with
  | none => rfl
  | some r =>
    dsimp only
    split <;> rfl

theorem State.finishRecord_onMrs (s : State) : (s.onMrs g).finishRecord = s.finishRecord.onMrs g := by
  unfold State.finishRecord
  rw [show (s.onMrs g).ftm = s.ftm from rfl]
  cases s.ftm.scanning <;> rfl

theorem State.completion_onMrs (s : State) (p : Side) : (s.onMrs g).completion p = (s.completion p).onMrs g := by
  unfold State.completion
  rw [show (s.onMrs g).ftm = s.ftm from rfl]
  split
  · dsimp only
    rw [State.onFtm_onMrs, State.finishRecord_onMrs]
    split <;> rfl
  · rfl

theorem State.tryComplete_onMrs (s : State) (p : Side) : (s.onMrs g).tryComplete p = (s.tryComplete p).onMrs g := by
  unfold State.tryComplete
  rw [show (s.onMrs g).panel p = s.panel p from rfl]
  split
  · exact s.completion_onMrs g p
  · rfl

theorem State.cutScan_onMrs (s : State) (p : Side) (F : Option FrameNo) : (s.onMrs g).cutScan p F = (s.cutScan p F).onMrs g := by
  simp only [State.cutScan, State.closeScan, State.onPanel_onMrs, State.onScanning_onMrs, State.endScan_onMrs]

theorem State.panelOff_onMrs (s : State) (p : Side) : (s.onMrs g).panelOff p = (s.panelOff p).onMrs g := by
  unfold State.panelOff
  rw [show (s.onMrs g).panel p = s.panel p from rfl, show (s.onMrs g).ftm = s.ftm from rfl]
  dsimp only
  split
  · rw [State.cutScan_onMrs, State.onPanel_onMrs, State.tryComplete_onMrs]
  · rw [State.onPanel_onMrs, State.tryComplete_onMrs]

theorem State.handPanel_onMrs (s : State) (p : Side) (old new : Nat) :
    (s.onMrs g).handPanel p old new = (s.handPanel p old new).onMrs g := by
  unfold State.handPanel
  split
  · exact s.panelOff_onMrs g p
  · split <;> rfl

theorem State.handClass_onMrs (s : State) (c : SensorClass) : (s.onMrs g).handClass c = (s.handClass c).onMrs g := by
  unfold State.handClass
  dsimp only
  split <;> rfl

theorem State.allocate_onMrs (s : State) : (s.onMrs g).allocate = s.allocate.onMrs g := by
  have hraise : ∀ (c : Prop) [Decidable c] (u v : State), (if c then u.onMrs g else v.onMrs g) = (if c then u else v).onMrs g :=
    fun c _ u v => by split <;> rfl
  have hpmg : ∀ f, (s.onMrs g).onPmg f = (s.onPmg f).onMrs g := fun _ => rfl
  have hev : ∀ (u : State) k d, (u.onMrs g).raise k d = (u.raise k d).onMrs g := fun _ _ _ => rfl
  unfold State.allocate
  rw [show (s.onMrs g).requested = s.requested from rfl, show (s.onMrs g).pmg = s.pmg from rfl]
  dsimp only
  rw [hpmg, show ((s.onPmg _).onMrs g).pmg = (s.onPmg _).pmg from rfl, hev, hraise, State.handDerived_onMrs, State.handClass_onMrs,
    State.handPanel_onMrs, State.handPanel_onMrs]

theorem State.refreshLoads_onMrs (s : State) : (s.onMrs g).refreshLoads = s.refreshLoads.onMrs g := by
  unfold State.refreshLoads
  rw [show (s.onMrs g).requestChanged = s.requestChanged from rfl]
  split
  · exact s.allocate_onMrs g
  · rfl

end

end Sys2Proof.Machine
end

section
/-! Stored writes of the panel, motion, audio and pattern tables, with the allocation that follows (R46, R114, R139, R150, R153, R182). -/

namespace Sys2Proof.Machine

open Sys2Proof

variable {s t : State}

/-! ### The derived values of an allocation (R182) -/

theorem derived_eq (st : PowerState) (grant divisor top : Nat) : derived st grant divisor top =
    if st = .held ∨ st = .trip then 0 else if divisor = 0 then top else min top (grant * top / divisor) := by
  cases st <;> simp [derived, PowerState.grantsNone]

theorem State.allocate_ceilings (s : State) (p : Side) : s.allocate.pmg.ceilings.get p =
    derived s.pmg.state (s.allocate.pmg.loads[if p = .a then (2 : Fin 8) else 3]).grant (s.panel p).written.fullPower 1023 := by
  rw [s.allocate_spec.2.1]
  cases p <;> rfl

theorem State.allocate_cap (s : State) :
    s.allocate.auu.cap = derived s.pmg.state (s.allocate.pmg.loads[(4 : Fin 8)]).grant s.auu.ampPower 32768 := by
  rw [s.allocate_spec.2.2.1, s.allocate_spec.2.1]
  rfl

theorem State.allocate_capHanded (s : State) :
    s.allocate.pte.capHanded = derived s.pmg.state (s.allocate.pmg.loads[(5 : Fin 8)]).grant s.pte.hapticPower 255 := by
  rw [s.allocate_spec.2.2.2.1, s.allocate_spec.2.1]
  rfl

/-! ### The allocation after a store (R178, R182) -/

theorem State.reallocate_requestChanged (s : State) (old : List Nat) : (s.reallocate old).requestChanged = false := by
  unfold State.reallocate
  split
  · exact s.refreshLoads_requestChanged
  · exact s.allocate_requestChanged

theorem State.reallocate_calm (s : State) (old : List Nat) : Calm s (s.reallocate old) := by
  unfold State.reallocate
  split
  · exact s.refreshLoads_calm
  · exact s.allocate_calm

/-- A reallocation changes the audio unit's cap alone. -/
theorem State.reallocate_auu (s : State) (old : List Nat) : (s.reallocate old).auu = { s.auu with cap := (s.reallocate old).auu.cap } := by
  unfold State.reallocate
  split
  · obtain ⟨-, ⟨c, h⟩, -⟩ := s.refreshLoads_spec
    rw [h]
  · rw [s.allocate_spec.2.2.1]

theorem State.reallocate_pte (s : State) (old : List Nat) :
    (s.reallocate old).pte = { s.pte with capHanded := (s.reallocate old).pte.capHanded } := by
  unfold State.reallocate
  split
  · obtain ⟨-, -, ⟨c, h⟩, -⟩ := s.refreshLoads_spec
    rw [h]
  · rw [s.allocate_spec.2.2.2.1]

theorem State.reallocate_of_changed {old : List Nat} (h : s.powers ≠ old) : s.reallocate old = s.allocate := if_neg h

/-! ### The batch condition after a store (R114, R121) -/

/-- The batch condition with a watermark and a flush timeout. -/
def batchHolds (watermark flush osc : Nat) (q : List SensorRec) : Prop :=
  watermark ≤ q.length ∨ ∃ x, q.head? = some x ∧ x.joined + usTicks flush ≤ osc

theorem State.batchDue_iff : s.batchDue = true ↔ batchHolds s.mou.watermark s.mou.flushTimeout s.osc s.mou.fifo := by
  unfold State.batchDue State.flushDue batchHolds
  cases s.mou.fifo <;> simp

theorem flatten_groupBytes (gs : List (List SensorRec)) : (gs.map groupBytes).flatten = gs.flatten.flatMap SensorRec.bytes := by
  induction gs with
  | nil => rfl
  | cons g gs ih => rw [List.map_cons, List.flatten_cons, ih, List.flatten_cons, List.flatMap_append]; rfl

/-- What the batch condition, judged again, moves from the FIFO to the MOTION queue. -/
theorem State.judgeBatch_moves (s : State) (hl : ∀ r ∈ s.mou.fifo, r.payload.length ≤ 16) :
    let due := batchHolds s.mou.watermark s.mou.flushTimeout s.osc
    ∃ n cells, s.judgeBatch.mou.fifo = s.mou.fifo.drop n ∧ s.judgeBatch.ltx.motion = s.ltx.motion ++ cells
      ∧ cells.flatten = (s.mou.fifo.take n).flatMap SensorRec.bytes ∧ (∀ c ∈ cells, c.length ≤ 96)
      ∧ (¬ due s.mou.fifo → n = 0 ∧ cells = [])
      ∧ (due s.mou.fifo → s.mou.fifo ≠ [] → s.ltx.motion.length < 8 → 0 < n)
      ∧ (¬ due s.judgeBatch.mou.fifo ∨ s.judgeBatch.mou.fifo = [] ∨ 8 ≤ s.judgeBatch.ltx.motion.length) := by
  obtain ⟨gs, hb, hstop, hnone, hpos⟩ := s.judgeBatch_batched hl
  have hafter : s.judgeBatch.batchDue = true ↔ batchHolds s.mou.watermark s.mou.flushTimeout s.osc s.judgeBatch.mou.fifo := by
    rw [State.batchDue_iff, State.osc, s.judgeBatch_within.clock.resolve_left (by decide), hb.mou]
    rfl
  refine ⟨gs.flatten.length, gs.map groupBytes, ?_, by rw [hb.ltx], ?_, fun c hc => ?_, fun hd => ?_, fun hd => hpos (State.batchDue_iff.mpr hd),
    hstop.imp_left fun h => fun k => nomatch h.symm.trans (hafter.mpr k)⟩
  · rw [hb.fifo, List.drop_left]
  · rw [flatten_groupBytes, hb.fifo, List.take_left]
  · obtain ⟨g, hg, rfl⟩ := List.mem_map.mp hc
    exact (hb.fits g hg).2
  · have hgs : gs = [] := hnone (by simpa using mt State.batchDue_iff.mp hd)
    subst hgs
    exact ⟨rfl, rfl⟩

/-! ### The stores, one table after the other -/

section
variable (s : State) (r : Request) (e : EntryValues) (cl : Bool)

theorem State.storedBy_panel {p : Side} (he : e.entry = if p = .a then 0 else 1) :
    let t := s.storedBy 7 .panel r [e] cl
    (t.panel p).written = e.panelCfg ∧ t.requestChanged = false ∧ ((s.panel p).written.fullPower ≠ e.num 6 → t.pmg.ceilings.get p =
      derived s.pmg.state (t.pmg.loads[if p = .a then (2 : Fin 8) else 3]).grant (e.num 6) 1023) := by
  have hp : (if e.entry = 0 then Side.a else Side.b) = p := by cases p <;> rw [he] <;> rfl
  let v : State := s.countTaken.onPanel p fun x => { x with written := e.panelCfg }
  have hv : s.storedBy 7 .panel r [e] cl = (v.reallocate s.powers).answerWith 7 r (if cl then .okAdjusted else .ok) := by
    show ((s.countTaken.onPanel (if e.entry = 0 then Side.a else Side.b) _).reallocate s.powers).answerWith 7 r _ = _
    rw [hp]
  have hw : (v.panel p).written = e.panelCfg := congrArg PanelState.written (State.panel_onPanel_same _ p _)
  intro t
  have ht : t = (v.reallocate s.powers).answerWith 7 r (if cl then .okAdjusted else .ok) := hv
  rw [ht]
  refine ⟨((v.reallocate_calm s.powers).written p).trans hw, v.reallocate_requestChanged s.powers, fun hf => ?_⟩
  have hne : v.powers ≠ s.powers := fun h => by
    obtain ⟨ha, hb, -⟩ : _ ∧ _ ∧ _ := by simpa [State.powers] using h
    cases p
    · exact hf ha.symm
    · exact hf hb.symm
  rw [State.reallocate_of_changed hne]
  have hc := v.allocate_ceilings p
  rw [hw] at hc
  exact hc

theorem State.storedBy_motion :
    let t := s.storedBy 12 .motion r [e] cl
    let due := batchHolds (e.num 0) (e.num 1) s.osc
    t.mou.watermark = e.num 0 ∧ t.mou.flushTimeout = e.num 1 ∧ t.mou.sensorPower = e.num 2 ∧ t.requestChanged = false
      ∧ ((∀ x ∈ s.mou.fifo, x.payload.length ≤ 16) → ∃ n cells, t.mou.fifo = s.mou.fifo.drop n ∧ t.ltx.motion = s.ltx.motion ++ cells
      ∧ cells.flatten = (s.mou.fifo.take n).flatMap SensorRec.bytes ∧ (∀ c ∈ cells, c.length ≤ 96)
      ∧ (¬ due s.mou.fifo → n = 0 ∧ cells = [])
      ∧ (due s.mou.fifo → s.mou.fifo ≠ [] → s.ltx.motion.length < 8 → 0 < n)
      ∧ (¬ due t.mou.fifo ∨ t.mou.fifo = [] ∨ 8 ≤ t.ltx.motion.length)) := by
  let v : State := s.countTaken.onMou fun m => { m with watermark := e.num 0, flushTimeout := e.num 1, sensorPower := e.num 2 }
  let w : State := v.refreshLoads
  obtain ⟨c, q, q', hm⟩ := v.refreshLoads_spec.2.2.2
  have hfifo : w.mou.fifo = s.mou.fifo := by rw [show w.mou = _ from hm]; rfl
  have hmark : w.mou.watermark = e.num 0 := by rw [show w.mou = _ from hm]; rfl
  have hflush : w.mou.flushTimeout = e.num 1 := by rw [show w.mou = _ from hm]; rfl
  have hosc : w.osc = s.osc := congrArg Clock.osc (v.refreshLoads_within.clock.resolve_left (by decide))
  have hltx : w.ltx = s.ltx := v.refreshLoads_ltx
  obtain ⟨k, cells, hj, -⟩ := buildBatches_spec motionCapacity w
  have hkept : ∀ {α : Type} (f : Mou → α), (∀ m l n, f { m with fifo := l, batches := n } = f m) → f w.judgeBatch.mou = f w.mou :=
    fun f hf => (congrArg f hj).trans (hf _ _ _)
  refine ⟨(hkept Mou.watermark fun _ _ _ => rfl).trans hmark, (hkept Mou.flushTimeout fun _ _ _ => rfl).trans hflush,
    (hkept Mou.sensorPower fun _ _ _ => rfl).trans (by rw [show w.mou = _ from hm]; rfl),
    (OwnersKept.of_sensors w.judgeBatch_work).requestChanged v.refreshLoads_requestChanged, fun hl => ?_⟩
  have h := w.judgeBatch_moves (by rw [hfifo]; exact hl)
  rw [hmark, hflush, hosc, hfifo, hltx] at h
  exact h

theorem State.storedBy_audio :
    let t := s.storedBy 13 .audio r [e] cl
    t.requestChanged = false
      ∧ t.auu = { s.auu with
        fillTarget := e.num 0, volume := e.num 1, mute := e.flag 2, ampPower := e.num 3, micOn := e.flag 4
        micDue := s.auu.micDue && decide (s.auu.micOn = e.flag 4)
        mic := if s.auu.micOn = e.flag 4 then s.auu.mic else none
        state := if s.auu.state = .filling ∧ e.num 0 ≤ s.auu.buffer.length then .playing else s.auu.state
        cap := t.auu.cap }
      ∧ (s.auu.ampPower ≠ e.num 3 →
        t.auu.cap = derived s.pmg.state (t.pmg.loads[(4 : Fin 8)]).grant (e.num 3) 32768) := by
  let v : State := s.countTaken.onAuu fun a => a.store e
  have hstore : s.auu.store e = { s.auu with
        fillTarget := e.num 0, volume := e.num 1, mute := e.flag 2, ampPower := e.num 3, micOn := e.flag 4
        micDue := s.auu.micDue && decide (s.auu.micOn = e.flag 4)
        mic := if s.auu.micOn = e.flag 4 then s.auu.mic else none
        state := if s.auu.state = .filling ∧ e.num 0 ≤ s.auu.buffer.length then .playing else s.auu.state } := by
    simp only [Auu.store, Auu.judgeFill, decide_eq_true_eq]
    split <;> rfl
  refine ⟨v.reallocate_requestChanged s.powers, ?_, fun hne => ?_⟩
  · have h := v.reallocate_auu s.powers
    rw [show v.auu = s.auu.store e from rfl, hstore] at h
    exact h
  · have hamp : v.auu.ampPower = e.num 3 := congrArg Auu.ampPower hstore
    have hchanged : v.powers ≠ s.powers := fun h => by
      obtain ⟨-, -, h, -⟩ : _ ∧ _ ∧ _ ∧ _ := by simpa [State.powers] using h
      exact hne (h.symm.trans hamp)
    have hcap := v.allocate_cap
    rw [hamp] at hcap
    have hre : (s.storedBy 13 .audio r [e] cl) = (v.reallocate s.powers).answerWith 13 r (if cl then .okAdjusted else .ok) := rfl
    rw [hre, State.reallocate_of_changed hchanged]
    exact hcap

theorem State.storedBy_pattern {i : Fin 48} (he : e.entry = i.val) :
    let t := s.storedBy 14 .pattern r [e] cl
    t.pte.steps = s.pte.steps.set i e.step ∧ t.pte.hapticPower = (if i = 0 then e.num 5 else s.pte.hapticPower)
      ∧ t.pte.deadTime = (if i = 0 then e.num 6 else s.pte.deadTime) ∧ t.requestChanged = false
      ∧ (i = 0 → s.pte.hapticPower ≠ e.num 5 →
        t.pte.capHanded = derived s.pmg.state (t.pmg.loads[(5 : Fin 8)]).grant (e.num 5) 255) := by
  let v : State := s.countTaken.onPte fun x => x.store e
  have hzero : e.entry = 0 ↔ i = 0 := by rw [he, Fin.ext_iff]; rfl
  obtain rfl : Fin.ofNat 48 e.entry = i := by rw [he, Fin.ofNat_val_self]
  have hsteps : v.pte.steps = s.pte.steps.set (Fin.ofNat 48 e.entry) e.step := by
    show (s.pte.store e).steps = _
    unfold Pte.store
    split <;> rfl
  have hpower : v.pte.hapticPower = if Fin.ofNat 48 e.entry = 0 then e.num 5 else s.pte.hapticPower := by
    show (s.pte.store e).hapticPower = _
    simp only [← hzero, Pte.store]
    split <;> rfl
  have hdead : v.pte.deadTime = if Fin.ofNat 48 e.entry = 0 then e.num 6 else s.pte.deadTime := by
    show (s.pte.store e).deadTime = _
    simp only [← hzero, Pte.store]
    split <;> rfl
  have hkept : ∀ {α : Type} (f : Pte → α), (∀ x n, f { x with capHanded := n } = f x) → f (v.reallocate s.powers).pte = f v.pte :=
    fun f hf => (congrArg f (v.reallocate_pte s.powers)).trans (hf _ _)
  refine ⟨(hkept Pte.steps fun _ _ => rfl).trans hsteps, (hkept Pte.hapticPower fun _ _ => rfl).trans hpower,
    (hkept Pte.deadTime fun _ _ => rfl).trans hdead, v.reallocate_requestChanged s.powers, fun hi hne => ?_⟩
  rw [if_pos hi] at hpower
  have hchanged : v.powers ≠ s.powers := fun h => by
    obtain ⟨-, -, -, h⟩ : _ ∧ _ ∧ _ ∧ _ := by simpa [State.powers] using h
    exact hne (h.symm.trans hpower)
  have hcap := v.allocate_capHanded
  rw [hpower] at hcap
  have hre : (s.storedBy 14 .pattern r [e] cl) = (v.reallocate s.powers).answerWith 14 r (if cl then .okAdjusted else .ok) := rfl
  rw [hre, State.reallocate_of_changed hchanged]
  exact hcap

end

end Sys2Proof.Machine
end

section
/-! Stored writes of the poll table, and what becomes of a queued entry (R105 to R107). -/

namespace Sys2Proof.Machine

open Sys2Proof

variable {s t : State}

/-! ### A poll entry stored (R105, R106) -/

/-- The poll table with one entry stored. -/
def State.pollStored (s : State) (i : Fin 8) (c : PollCfg) : State := s.onPoll i fun p => p.store c s.osc s.classFactor

/-- A bus without an entry in its queue. -/
def BusCtl.without (b : BusCtl) (i : Fin 8) : BusCtl := { b with queue := b.queue.filter fun q => decide (q.entry ≠ i) }

theorem State.unqueue_eq (s : State) (i : Fin 8) :
    s.unqueue i = { s with mou := { s.mou with serial4 := s.mou.serial4.without i, twoWire := s.mou.twoWire.without i } } := by
  simp only [BusCtl.without, decide_not]
  rfl

theorem State.storePoll_disabled {i : Fin 8} {c : PollCfg} (h : c.enable = false) : s.storePoll i c = (s.pollStored i c).unqueue i := by
  unfold State.storePoll
  dsimp only
  rw [h]
  rfl

theorem State.storePoll_stays {i : Fin 8} {c : PollCfg} (he : c.enable = true)
    (h : s.mou.poll[i].cfg.bus = c.bus ∨ s.queuedOf i = none) : s.storePoll i c = s.pollStored i c := by
  unfold State.storePoll
  dsimp only
  rw [he]
  refine (if_neg (by decide)).trans ?_
  split
  · have hn : (s.pollStored i c).queuedOf i = none := h.resolve_left ‹_›
    show (s.pollStored i c).moveQueued i c.bus = _
    rw [State.moveQueued, hn]
  · rfl

/-- A queued entry given to the other bus. -/
theorem State.storePoll_moves {i : Fin 8} {c : PollCfg} {q : Queued} (he : c.enable = true) (hb : s.mou.poll[i].cfg.bus ≠ c.bus)
    (hq : s.queuedOf i = some q) : s.storePoll i c =
      let u := (s.pollStored i c).unqueue i
      if (s.bus c.bus).state = .fault then u
      else (u.onBus c.bus fun b => { b with queue := insertQueued { q with late := q.late || u.relayOn c.bus } b.queue }).startNext
        c.bus := by
  have hn : (s.pollStored i c).queuedOf i = some q := hq
  have hst : (((s.pollStored i c).unqueue i).bus c.bus).state = (s.bus c.bus).state := by cases c.bus <;> rfl
  unfold State.storePoll
  dsimp only
  rw [he]
  refine ((if_neg (by decide)).trans (if_pos hb)).trans ?_
  show (s.pollStored i c).moveQueued i c.bus = _
  rw [State.moveQueued, hn]
  dsimp only
  rw [hst]

theorem State.storePoll_cfg (s : State) (i : Fin 8) (c : PollCfg) : (s.storePoll i c).mou.poll[i].cfg = c := by
  have h1 : (s.pollStored i c).mou.poll[i].cfg = c := by
    have h := tabMod_same s.mou.poll i fun p => p.store c s.osc s.classFactor
    exact (congrArg PollEntry.cfg h :)
  have hw : Mou.Works (s.pollStored i c).mou (s.storePoll i c).mou := by
    unfold State.storePoll
    dsimp only
    split
    · exact State.unqueue_works _ _
    · split
      · exact State.moveQueued_works _ _ _
      · exact .refl
  rw [hw.entries i]
  exact h1

/-! ### The start of the one queued entry (R108) -/

theorem State.startNext_only {b : Bus} {q : Queued} (hi : (s.bus b).state = .idle) (hp : s.pendingRecovery b = none)
    (hr : s.mou.relay = none) (hq : (s.bus b).queue = [q]) : s.startNext b = s.startPoll b q [] := by
  rw [State.startNext_head hi hp (by rw [State.waitingRelay, hr]), State.startHead, hq]

/-- An entry placed on an idle SERIAL4 without other work starts at once. -/
theorem State.place_serial4 {q : Queued} (hi : s.mou.serial4.state = .idle) (hr : s.mou.relay = none) (hq : s.mou.serial4.queue = []) :
    (s.onBus .serial4 fun b => { b with queue := insertQueued q b.queue }).startNext .serial4 = { s with mou := { s.mou with
      serial4 := { s.mou.serial4 with state := .busy, poll := some ⟨q, s.mou.poll[q.entry].cfg⟩ }
      poll := tabMod s.mou.poll q.entry fun p => { p with late := satAdd p.late (bit q.late) } } } := by
  have hn : (s.onBus .serial4 fun b => { b with queue := insertQueued q b.queue }) =
      s.onBus .serial4 fun b => { b with queue := [q] } := by
    simp only [State.onBus, State.onMou]
    rw [hq]
    rfl
  rw [hn, State.startNext_only (by exact hi) rfl (by exact hr) rfl, State.startPoll_serial4]
  exact congrArg (fun l => ({ s with mou := { s.mou with
      serial4 := { s.mou.serial4 with queue := l, state := .busy, poll := some ⟨q, s.mou.poll[q.entry].cfg⟩ }
      poll := tabMod s.mou.poll q.entry fun p => { p with late := satAdd p.late (bit q.late) } } } : State)) hq.symm

theorem State.place_twoWire {q : Queued} (hi : s.mou.twoWire.state = .idle) (hr : s.mou.relay = none) (hq : s.mou.twoWire.queue = [])
    (hp : s.mou.twoWire.recPending = none) :
    (s.onBus .twoWire fun b => { b with queue := insertQueued q b.queue }).startNext .twoWire = { s with mou := { s.mou with
      twoWire := if s.dataLow = true then s.mou.twoWire.recovers .lineLow false
        else { s.mou.twoWire with state := .busy, poll := some ⟨q, s.mou.poll[q.entry].cfg⟩ }
      poll := tabMod s.mou.poll q.entry fun p => { p with
        late := satAdd p.late (bit q.late), errors := if s.dataLow = true then satInc p.errors else p.errors }
      lineSamples := s.mou.lineSamples + 1 } } := by
  have hn : (s.onBus .twoWire fun b => { b with queue := insertQueued q b.queue }) =
      s.onBus .twoWire fun b => { b with queue := [q] } := by
    simp only [State.onBus, State.onMou]
    rw [hq]
    rfl
  rw [hn, State.startNext_only (by exact hi) (by exact hp) (by exact hr) rfl, State.startPoll_twoWire]
  exact congrArg (fun l => ({ s with mou := { s.mou with
      twoWire := if s.dataLow = true then ({ s.mou.twoWire with queue := l } : BusCtl).recovers .lineLow false
        else { s.mou.twoWire with queue := l, state := .busy, poll := some ⟨q, s.mou.poll[q.entry].cfg⟩ }
      poll := tabMod s.mou.poll q.entry fun p => { p with
        late := satAdd p.late (bit q.late), errors := if s.dataLow = true then satInc p.errors else p.errors }
      lineSamples := s.mou.lineSamples + 1 } } : State)) hq.symm

theorem PollCfg.periodic_iff (c : PollCfg) : c.periodic = true ↔ c.enable = true ∧ c.ready = false := by simp [PollCfg.periodic]

theorem PollCfg.readyOn_iff (c : PollCfg) : c.readyOn = true ↔ c.enable = true ∧ c.ready = true := by simp [PollCfg.readyOn]

/-- What a stored entry becomes (R105, R106). -/
theorem PollEntry.store_eq (p : PollEntry) (c : PollCfg) (osc factor : Nat) :
    let periodic (k : PollCfg) : Prop := k.enable = true ∧ k.ready = false
    let ready (k : PollCfg) : Prop := k.enable = true ∧ k.ready = true
    p.store c osc factor = { p with
      cfg := c
      periodForce := if periodic c ∧ ¬ periodic p.cfg then c.period else p.periodForce
      dueAt := if periodic c then (if periodic p.cfg then p.dueAt else some (osc + c.period * 6144 * factor)) else none
      edgeCount := if ready c ∧ (¬ ready p.cfg ∨ p.cfg.readyLine ≠ c.readyLine) then 0 else p.edgeCount } := by
  intro periodic ready
  have hstarts : (c.periodic && !p.cfg.periodic) = true ↔ periodic c ∧ ¬ periodic p.cfg := by
    rw [Bool.and_eq_true, Bool.not_eq_true', PollCfg.periodic_iff]
    exact and_congr_right fun _ => Bool.not_eq_true _ ▸ not_congr p.cfg.periodic_iff
  have hready : (c.readyOn && (!p.cfg.readyOn || decide (p.cfg.readyLine ≠ c.readyLine))) = true ↔
      ready c ∧ (¬ ready p.cfg ∨ p.cfg.readyLine ≠ c.readyLine) := by
    rw [Bool.and_eq_true, Bool.or_eq_true, Bool.not_eq_true', PollCfg.readyOn_iff, decide_eq_true_eq]
    exact and_congr_right fun _ => or_congr_left (Bool.not_eq_true _ ▸ not_congr p.cfg.readyOn_iff)
  have hdue : (if periodic c ∧ ¬ periodic p.cfg then some (osc + c.period * pollUnit * factor)
      else if c.periodic = true then p.dueAt else none) =
      if periodic c then (if periodic p.cfg then p.dueAt else some (osc + c.period * 6144 * factor)) else none := by
    simp only [show c.periodic = true ↔ periodic c from c.periodic_iff]
    by_cases h1 : periodic c <;> by_cases h2 : periodic p.cfg <;> simp [h1, h2, pollUnit]
  simp only [PollEntry.store, hstarts, hready, hdue]

/-- Settles O24, one table after the other. -/
theorem writesOfUnitTables : Obligations.WritesOfUnitTables := by
  intro r s e cl hs h1 kept replied value
  have hderived : ∀ grant divisor top, derived s.pmg.state grant divisor top = value s grant divisor top := derived_eq _
  have hkept : ∀ {table : Byte} {t : Table}, t.parts ⊆ servedParts → kept (s.storedBy table t r [e] cl) := fun h =>
    (s.storedBy_within _ _ _ _ _ h).restore_served
  have hreplied : ∀ {table : Byte} {t : Table}, replied (s.storedBy table t r [e] cl) table := ⟨s.storedBy_mrs .., s.storedBy_reply ..⟩
  have hzero : ∀ {t : Table}, r.index = 0 → s.judgeWrite t 0 1 r.data = .store [e] cl →
      s.judgeWrite t r.index.toNat 1 r.data = .store [e] cl := fun h k => by rw [h]; exact k
  refine ⟨fun p h hj => ?_, fun i h hj => ?_, fun h hj => ?_, fun h hj => ?_, fun i h hj => ?_, fun i h hj => ?_⟩
  · have hn : r.index.toNat < Table.panel.entries := by rw [h]; cases p <;> decide
    have he : e.entry = if p = .a then 0 else 1 := by
      rw [State.judgeWrite_entry hj, h]
      cases p <;> rfl
    obtain ⟨hw, hc, hd⟩ := s.storedBy_panel r e cl he
    exact ⟨_, exec_stored_noRise (t := .panel) rfl hs rfl h1 hn hj (s.storedBy_noRise _ _ _ _ rfl), hw, hreplied, hkept (by decide), hc,
      fun hf => (hd hf).trans (hderived _ _ _)⟩
  · obtain rfl : Fin.ofNat 8 e.entry = i := by rw [State.judgeWrite_entry hj, Fin.ofNat_val_self]
    let v : State := s.countTaken.storePoll (Fin.ofNat 8 e.entry) e.pollCfg
    have hcfg : v.refreshLoads.mou.poll[Fin.ofNat 8 e.entry].cfg = e.pollCfg := by
      obtain ⟨c, q, q', hm⟩ := v.refreshLoads_spec.2.2.2
      rw [hm]
      exact s.countTaken.storePoll_cfg _ _
    exact ⟨_, exec_stored_noRise (t := .poll) rfl hs rfl h1 (h ▸ (Fin.ofNat 8 e.entry).isLt) (h ▸ hj) (s.storedBy_noRise _ _ _ _ rfl), hcfg,
      hreplied, hkept (by decide), v.refreshLoads_requestChanged⟩
  · obtain ⟨hw, hf, hp, hc, hb⟩ := s.storedBy_motion r e cl
    exact ⟨_, exec_stored_noRise (t := .motion) rfl hs rfl h1 (by rw [h]; decide) (hzero h hj) (s.storedBy_noRise _ _ _ _ rfl), hw, hf, hp,
      hreplied, hkept (by decide), hc, hb⟩
  · obtain ⟨hc, ha, hd⟩ := s.storedBy_audio r e cl
    refine ⟨_, exec_stored_noRise (t := .audio) rfl hs rfl h1 (by rw [h]; decide) (hzero h hj) (s.storedBy_noRise _ _ _ _ rfl), ?_, ?_, ?_, ?_, ?_,
      hreplied, hkept (by decide), hc, ha, fun hf => (hd hf).trans (hderived _ _ _)⟩ <;> rw [ha]
  · obtain ⟨h2, h3, h4, hc, hd⟩ := s.storedBy_pattern r e cl (State.judgeWrite_entry hj)
    exact ⟨_, exec_stored_noRise (t := .pattern) rfl hs rfl h1 (h ▸ i.isLt) (h ▸ hj) (s.storedBy_noRise _ _ _ _ rfl), h2, h3, h4,
      hreplied, hkept (by decide), hc, fun hi hf => (hd hi hf).trans (hderived _ _ _)⟩
  · intro c x periodic ready y a becomes out freed queued
    obtain rfl : Fin.ofNat 8 e.entry = i := by rw [State.judgeWrite_entry hj, Fin.ofNat_val_self]
    let i : Fin 8 := Fin.ofNat 8 e.entry
    let v : State := s.countTaken
    have hy : x.store c s.osc s.classFactor = y := x.store_eq c s.osc s.classFactor
    have hstored : v.pollStored i c = { v with mou := { v.mou with poll := tabMod s.mou.poll i fun _ => y } } :=
      congrArg (fun l => ({ v with mou := { v.mou with poll := l } } : State)) (tabMod_congr (v := s.mou.poll) (i := i) hy)
    have hbecomes : ∀ {z : PollEntry} {m : Mou}, v.storePoll i c = { v with mou := { m with poll := tabMod s.mou.poll i fun _ => z } } →
        becomes z m := fun {z m} hv => by
      let w : State := { s with mou := { m with poll := tabMod s.mou.poll i fun _ => z } }
      have hw : v.storePoll i c = w.onMrs fun k => { k with requestsTaken := satInc k.requestsTaken } := hv
      have hre : (v.storePoll i c).refreshLoads = w.refreshLoads.onMrs fun k => { k with requestsTaken := satInc k.requestsTaken } := by
        rw [hw, State.refreshLoads_onMrs]
      have hexec := exec_stored_noRise (c := .writePoll r) rfl hs (t := .poll) rfl h1 (h ▸ i.isLt) (h ▸ hj) (s.storedBy_noRise _ _ _ _ rfl)
      refine hexec.trans (congrArg _ ?_)
      show (v.storePoll i c).refreshLoads.answerWith 10 r _ = _
      rw [hre]
      show ({ w.refreshLoads with
        mrs := { w.refreshLoads.mrs with requestsTaken := _ }
        ltx := { w.refreshLoads.ltx with reply := w.refreshLoads.ltx.reply ++ _ } } : State) = _
      rw [w.refreshLoads_ltx, w.refreshLoads_mrs]
      rfl
    have hunqueued : (v.pollStored i c).unqueue i = { v with mou := { freed with poll := tabMod s.mou.poll i fun _ => y } } := by
      rw [State.unqueue_eq, hstored]
      rfl
    refine ⟨fun he => hbecomes ?_, fun he hb => hbecomes ?_, fun he hb hn hf => hbecomes ?_, fun q he hb hq => ?_⟩
    · rw [State.storePoll_disabled (s := v) he, hunqueued]
    · rw [State.storePoll_stays (s := v) he hb, hstored]
      rfl
    · obtain ⟨q, hq⟩ := Option.ne_none_iff_exists'.mp hn
      rw [State.storePoll_moves (s := v) he hb hq, if_pos (by exact hf), hunqueued]
    · intro relays moved earlier place counted
      let u : State := { v with mou := { freed with poll := tabMod s.mou.poll i fun _ => y } }
      have hrelay : u.relayOn c.bus = decide relays := by
        rw [State.relayOn_eq, decide_eq_decide]
        exact Option.map_eq_some_iff
      have hplaced : (s.bus c.bus).state ≠ .fault →
          v.storePoll i c = (u.onBus c.bus fun b => { b with queue := insertQueued moved b.queue }).startNext c.bus := fun hf => by
        rw [State.storePoll_moves (s := v) he hb hq, hunqueued]
        refine (if_neg hf).trans ?_
        show (u.onBus c.bus fun b => { b with queue := insertQueued { q with late := q.late || u.relayOn c.bus } b.queue }).startNext _ = _
        rw [hrelay]
      have hentry : moved.entry = i := by
        have h := List.find?_some (show (s.mou.serial4.queue ++ s.mou.twoWire.queue).find? (fun q => decide (q.entry = i)) = some q from hq)
        exact of_decide_eq_true h
      have hcfg : ∀ k : Fin 8, k = i → u.mou.poll[k].cfg = c := by
        rintro k rfl
        have h := tabMod_same s.mou.poll i fun _ => y
        exact (congrArg PollEntry.cfg h :)
      have hnone : ∀ b : BusCtl, b.queue = [] → out b = b := fun b hb => by
        show ({ b with queue := b.queue.filter _ } : BusCtl) = b
        obtain ⟨_, _, _, _, _, _⟩ := b
        obtain rfl : _ = [] := hb
        rfl
      refine ⟨fun l n hst hsplit hbefore hafter => hbecomes ?_, fun hbus hi hr hempty => hbecomes ?_, fun hbus hi hr hempty hp => hbecomes ?_⟩
      · have hins : insertQueued moved (u.bus c.bus).queue = l ++ moved :: n := by
          have hub : (u.bus c.bus).queue = l ++ n := by
            rw [← hsplit]
            cases c.bus <;> rfl
          rw [hub]
          exact insertQueued_between hbefore hafter
        have hidle : ((u.onBus c.bus fun b => { b with queue := insertQueued moved b.queue }).bus c.bus).state ≠ .idle := by
          have hst' : ((u.onBus c.bus fun b => { b with queue := insertQueued moved b.queue }).bus c.bus).state = (s.bus c.bus).state := by
            cases c.bus <;> rfl
          rw [hst']
          rcases hst with h | h <;> rw [h] <;> exact fun k => nomatch k
        rw [hplaced (by rcases hst with h | h <;> rw [h] <;> exact fun k => nomatch k), State.startNext_atWork hidle]
        cases hbus : c.bus
        · rw [hbus] at hins
          exact congrArg (fun k => ({ u with mou := { u.mou with serial4 := { u.mou.serial4 with queue := k } } } : State)) hins
        · rw [hbus] at hins
          exact congrArg (fun k => ({ u with mou := { u.mou with twoWire := { u.mou.twoWire with queue := k } } } : State)) hins
      · have hbusy : u.mou.serial4 = s.mou.serial4 := hnone _ hempty
        rw [hplaced (by rw [hbus]; exact fun h => nomatch hi.symm.trans h), hbus,
          State.place_serial4 (by rw [hbusy]; exact hi) (by exact hr) (by rw [hbusy]; exact hempty), hcfg _ hentry, hentry, tabMod_tabMod, hbusy]
      · have hbusy : u.mou.twoWire = s.mou.twoWire := hnone _ hempty
        rw [hplaced (by rw [hbus]; exact fun h => nomatch hi.symm.trans h), hbus,
          State.place_twoWire (by rw [hbusy]; exact hi) (by exact hr) (by rw [hbusy]; exact hempty) (by rw [hbusy]; exact hp),
          hcfg _ hentry, hentry, tabMod_tabMod, hbusy]
        rfl

end Sys2Proof.Machine
end

section
/-! A measurement: what it keeps of the readings and the counts, and where it takes the power state (R168, R170 to R173). -/

namespace Sys2Proof.Machine

open Sys2Proof

variable {s t : State}

/-! ### A change of the power state, figure by figure (R175) -/

/-- What a change of the power state does to the power manager's own values. -/
theorem State.powerTo_pmg {new : PowerState} (why : PowerCause) (h : s.pmg.state ≠ new) : ∃ b v c x,
    (s.powerTo new why).pmg = { s.pmg.toState new with budget := b, loads := v, ceilings := c, auxOn := x } := by
  obtain ⟨-, hp, -⟩ := ((s.moveState new why).onPmg fun p => { p with budget := budgetOf p.cfg p.state }).allocate_spec
  have hto : (s.powerTo new why).pmg = (s.moveState new why).budgetAndAllocate.pmg := congrArg State.pmg (if_neg h)
  rw [State.onPmg_pmg, s.moveState_pmg new why] at hp
  exact ⟨_, _, _, _, hto.trans hp⟩

/-- The measurements held and the settings they are judged by. -/
structure SameReadings (p q : Pmg) : Prop where
  cfg : q.cfg = p.cfg
  latest : q.latest = p.latest
  filtered : q.filtered = p.filtered
  window : q.window = p.window

/-- The current hold and its counts. -/
structure SameHold (p q : Pmg) : Prop where
  hold : q.hold = p.hold
  overs : q.overCount = p.overCount
  unders : q.underCount = p.underCount
  holds : q.currentHolds = p.currentHolds

theorem SameReadings.trans {p q r : Pmg} (h : SameReadings p q) (k : SameReadings q r) : SameReadings p r :=
  ⟨k.cfg.trans h.cfg, k.latest.trans h.latest, k.filtered.trans h.filtered, k.window.trans h.window⟩

theorem SameHold.trans {p q r : Pmg} (h : SameHold p q) (k : SameHold q r) : SameHold p r :=
  ⟨k.hold.trans h.hold, k.overs.trans h.overs, k.unders.trans h.unders, k.holds.trans h.holds⟩

theorem SameReadings.refl {p : Pmg} : SameReadings p p := ⟨rfl, rfl, rfl, rfl⟩

theorem SameHold.refl {p : Pmg} : SameHold p p := ⟨rfl, rfl, rfl, rfl⟩

theorem State.powerTo_readings (s : State) (new : PowerState) (why : PowerCause) : SameReadings s.pmg (s.powerTo new why).pmg := by
  by_cases h : s.pmg.state = new
  · rw [State.powerTo, if_pos h]; exact .refl
  · obtain ⟨b, v, c, x, hp⟩ := State.powerTo_pmg why h
    rw [hp]
    exact ⟨rfl, rfl, rfl, rfl⟩

theorem State.powerTo_hold (s : State) (new : PowerState) (why : PowerCause) : SameHold s.pmg (s.powerTo new why).pmg := by
  by_cases h : s.pmg.state = new
  · rw [State.powerTo, if_pos h]; exact .refl
  · obtain ⟨b, v, c, x, hp⟩ := State.powerTo_pmg why h
    rw [hp]
    exact ⟨rfl, rfl, rfl, rfl⟩

theorem State.powerTo_recoverCount (s : State) {new : PowerState} (why : PowerCause) (h : new ≠ .trip) :
    (s.powerTo new why).pmg.recoverCount = s.pmg.recoverCount := by
  by_cases hs : s.pmg.state = new
  · rw [State.powerTo, if_pos hs]
  · obtain ⟨b, v, c, x, hp⟩ := State.powerTo_pmg why hs
    rw [hp]
    exact if_neg h

theorem State.powerTo_same {new : PowerState} (why : PowerCause) (h : s.pmg.state = new) : s.powerTo new why = s := if_pos h

/-! ### The entry to TRIP (R100, R166, R172) -/

/-- Entered TRIP: nothing granted, strobes and bridge held, patterns ended. -/
structure State.Tripped (s : State) : Prop where
  state : s.pmg.state = .trip
  budget : s.pmg.budget = 0
  grants : ∀ i : Fin 8, s.pmg.loads[i].grant = 0
  ceilings : s.pmg.ceilings = ⟨0, 0⟩
  cap : s.auu.cap = 0
  capHanded : s.pte.capHanded = 0
  sensorClass : s.mou.sensorClass = .suspended
  strobes : ∀ p, (s.panel p).strobe = .held
  bridge : s.pte.bridge = .held ∧ s.pte.hp = false ∧ s.pte.hn = false
  patterns : s.pte.chanT = none ∧ s.pte.chanH = none

theorem State.patternTrip_ends (s : State) : s.patternTrip.pte.chanT = none ∧ s.patternTrip.pte.chanH = none := by
  unfold State.patternTrip
  simp only [State.onPte_pte, State.endPattern_eq]
  cases ht : s.pte.chanT <;> cases hh : s.pte.chanH <;> simp [Pte.chan, Pte.endChan, ht, hh]

theorem State.powerTo_tripped (why : PowerCause) (h : s.pmg.state ≠ .trip) : (s.powerTo .trip why).Tripped := by
  have hstate := s.powerTo_state .trip why
  have hto : s.powerTo .trip why = (s.moveState .trip why).budgetAndAllocate := if_neg h
  obtain ⟨-, hs⟩ := (State.powerConsistent_iff _).mp (State.budgetAndAllocate_consistent (s.moveState .trip why))
  rw [← hto] at hs
  obtain ⟨hg, hc, ha, hp, hm⟩ := hs.none (by rw [hstate]; rfl)
  let u : State := (s.onPmg fun p => p.toState .trip).raise .powerState (powerDetail s.pmg.state .trip s.pmg.filtered why)
  have hmove : s.moveState .trip why = ((u.holdStrobe .a).holdStrobe .b).patternTrip := by
    show u.handTrip s.pmg.state .trip = _
    exact if_pos rfl
  have hsafe : (s.moveState .trip why).TripSafe := by rw [hmove]; exact u.enterTrip_holds rfl
  have hsafe' : (s.powerTo .trip why).TripSafe := by rw [hto]; exact (State.budgetAndAllocate_trip _).holds hsafe
  obtain ⟨hstrobes, hbridge, hlow, -⟩ := hsafe'
  have hheld : (s.powerTo .trip why).pte.bridge = .held := by rw [hbridge, if_pos hstate]
  obtain ⟨hhp, hhn⟩ := hlow (by rw [hheld]; exact fun k => nomatch k)
  have hpte : (s.powerTo .trip why).pte.chanT = (s.moveState .trip why).pte.chanT
      ∧ (s.powerTo .trip why).pte.chanH = (s.moveState .trip why).pte.chanH := by
    rw [hto, State.budgetAndAllocate, (State.allocate_spec _).2.2.2.1]
    exact ⟨rfl, rfl⟩
  obtain ⟨ht, hh⟩ := State.patternTrip_ends ((u.holdStrobe .a).holdStrobe .b)
  rw [← hmove] at ht hh
  exact ⟨hstate, by rw [hs.budget, hstate]; rfl, hg, hc, ha, hp, hm, fun p => (hstrobes p).mpr hstate, ⟨hheld, hhp, hhn⟩,
    hpte.1.trans ht, hpte.2.trans hh⟩

/-! ### The steps of a measurement (R171 to R173) -/

theorem State.judgeTrip_enters {st : PowerState} (h1 : st ≠ .held) (h2 : st ≠ .trip) (h : s.pmg.latest.mv < s.pmg.cfg.vTrip) :
    s.judgeTrip st = s.powerTo .trip .trip := by
  cases st
  · exact absurd rfl h1
  · exact if_pos h
  · exact if_pos h
  · exact if_pos h
  · exact absurd rfl h2

theorem State.judgeTrip_stays {st : PowerState} (h2 : st ≠ .trip) (h : ¬ s.pmg.latest.mv < s.pmg.cfg.vTrip) : s.judgeTrip st = s := by
  cases st
  · rfl
  · exact if_neg h
  · exact if_neg h
  · exact if_neg h
  · exact absurd rfl h2

/-- In TRIP only the recovery count moves, until it is full (R172). -/
theorem State.judgeTrip_trip (s : State) : s.judgeTrip .trip =
    if s.pmg.recovers = true ∧ s.pmg.recoverCount + 1 = 8 then (s.onPmg fun p => { p with recoverCount := 0 }).powerTo .shed .recovery
    else s.onPmg fun p => { p with recoverCount := if s.pmg.recovers = true then s.pmg.recoverCount + 1 else 0 } := by
  unfold State.judgeTrip
  dsimp only
  by_cases h1 : s.pmg.recovers = true
  · by_cases h2 : s.pmg.recoverCount + 1 = 8
    · rw [if_pos h1, if_pos h2, if_pos ⟨h1, h2⟩]
    · rw [if_pos h1, if_neg h2, if_neg fun k => h2 k.2, if_pos h1]
      rfl
  · rw [if_neg h1, if_neg fun k => h1 k.1, if_neg h1]

theorem State.judgeTrip_kept (s : State) (st : PowerState) : SameReadings s.pmg (s.judgeTrip st).pmg ∧ SameHold s.pmg (s.judgeTrip st).pmg := by
  by_cases h1 : st = .held
  · subst h1
    exact ⟨.refl, .refl⟩
  by_cases h2 : st = .trip
  · subst h2
    rw [State.judgeTrip_trip]
    split
    · let u : State := s.onPmg fun p => { p with recoverCount := 0 }
      exact ⟨(show SameReadings s.pmg u.pmg from ⟨rfl, rfl, rfl, rfl⟩).trans (u.powerTo_readings _ _),
        (show SameHold s.pmg u.pmg from ⟨rfl, rfl, rfl, rfl⟩).trans (u.powerTo_hold _ _)⟩
    · exact ⟨⟨rfl, rfl, rfl, rfl⟩, rfl, rfl, rfl, rfl⟩
  · by_cases h : s.pmg.latest.mv < s.pmg.cfg.vTrip
    · rw [State.judgeTrip_enters h1 h2 h]
      exact ⟨s.powerTo_readings _ _, s.powerTo_hold _ _⟩
    · rw [State.judgeTrip_stays h2 h]
      exact ⟨.refl, .refl⟩

/-! ### The current hold (R173) -/

theorem Pmg.currentCounts_readings (p : Pmg) : SameReadings p p.currentCounts := by
  unfold Pmg.currentCounts
  split_ifs <;> exact ⟨rfl, rfl, rfl, rfl⟩

/-- The counts depend on the hold and the filtered current alone. -/
theorem SameHold.currentCounts {p q : Pmg} (k : SameReadings p q) (h : SameHold p q) : SameHold p.currentCounts q.currentCounts := by
  obtain ⟨h1, h2, h3, h4⟩ := h
  unfold Pmg.currentCounts
  rw [h1, h2, h3, h4, k.cfg, k.filtered]
  split_ifs <;> exact ⟨rfl, rfl, rfl, rfl⟩

theorem Pmg.currentCounts_kept (p : Pmg) : p.currentCounts.state = p.state ∧ p.currentCounts.recoverCount = p.recoverCount
    ∧ p.currentCounts.trips = p.trips ∧ p.currentCounts.budget = p.budget ∧ p.currentCounts.loads = p.loads
    ∧ p.currentCounts.ceilings = p.ceilings := by
  unfold Pmg.currentCounts
  split_ifs <;> exact ⟨rfl, rfl, rfl, rfl, rfl, rfl⟩

/-- A current hold begins. -/
def Pmg.holdBegins (p : Pmg) : Prop := p.hold = false ∧ p.cfg.iMax < p.filtered.ma ∧ p.overCount + 1 = 4

theorem Pmg.currentCounts_begins (p : Pmg) : p.currentCounts.hold = true ∧ p.hold = false ↔ p.holdBegins := by
  unfold Pmg.currentCounts Pmg.holdBegins
  cases p.hold <;> split_ifs <;> simp_all

theorem State.judgeCurrent_steps (s : State) (h : s.pmg.holdBegins ∧ (s.pmg.state = .normal ∨ s.pmg.state = .constrained)) :
    s.judgeCurrent = (s.onPmg Pmg.currentCounts).powerTo .shed .current :=
  if_pos ⟨(s.pmg.currentCounts_begins.mpr h.1).1, h.1.1, h.2⟩

theorem State.judgeCurrent_counts (s : State) (h : ¬ (s.pmg.holdBegins ∧ (s.pmg.state = .normal ∨ s.pmg.state = .constrained))) :
    s.judgeCurrent = s.onPmg Pmg.currentCounts :=
  if_neg fun ⟨h1, h2, h3⟩ => h ⟨s.pmg.currentCounts_begins.mp ⟨h1, h2⟩, h3⟩

theorem State.judgeCurrent_kept (s : State) : SameReadings s.pmg s.judgeCurrent.pmg ∧ SameHold s.pmg.currentCounts s.judgeCurrent.pmg
    ∧ s.judgeCurrent.pmg.recoverCount = s.pmg.recoverCount := by
  let u : State := s.onPmg Pmg.currentCounts
  have hr : SameReadings s.pmg u.pmg := s.pmg.currentCounts_readings
  have hc : u.pmg.recoverCount = s.pmg.recoverCount := s.pmg.currentCounts_kept.2.1
  by_cases h : s.pmg.holdBegins ∧ (s.pmg.state = .normal ∨ s.pmg.state = .constrained)
  · rw [s.judgeCurrent_steps h]
    exact ⟨hr.trans (u.powerTo_readings _ _), u.powerTo_hold _ _, (u.powerTo_recoverCount (new := .shed) .current (by decide)).trans hc⟩
  · rw [s.judgeCurrent_counts h]
    exact ⟨hr, .refl, hc⟩

/-! ### The ladder and the end of loading (R170, R171) -/

theorem State.judgeLadder_none {st : PowerState} (h : st = .held ∨ st = .trip) : s.judgeLadder st = s := if_pos h

theorem State.judgeLadder_some {st : PowerState} (h : ¬ (st = .held ∨ st = .trip)) :
    s.judgeLadder st = s.powerTo (ladder s.pmg.cfg s.pmg.hold s.pmg.state s.pmg.filtered.mv) .ladder := if_neg h

theorem State.judgeLadder_kept (s : State) (st : PowerState) :
    SameReadings s.pmg (s.judgeLadder st).pmg ∧ SameHold s.pmg (s.judgeLadder st).pmg := by
  by_cases h : st = .held ∨ st = .trip
  · rw [State.judgeLadder_none h]
    exact ⟨.refl, .refl⟩
  · rw [State.judgeLadder_some h]
    exact ⟨s.powerTo_readings _ _, s.powerTo_hold _ _⟩

theorem State.loadEndPower_kept (s : State) : SameReadings s.pmg s.loadEndPower.pmg ∧ SameHold s.pmg s.loadEndPower.pmg := by
  unfold State.loadEndPower
  split
  · exact ⟨s.powerTo_readings _ _, s.powerTo_hold _ _⟩
  · exact ⟨.refl, .refl⟩

end Sys2Proof.Machine
end

section
/-! O51: the power state after a measurement, by the state that it found (R168, R170 to R173). -/

namespace Sys2Proof.Machine

open Sys2Proof

variable {s t : State}

/-- The state after a measurement's first three judgements, before the end of loading is looked at. -/
def State.judged (s : State) (mv ma : Nat) : State :=
  ((s.onPmg fun p => p.sense mv ma).judgeTrip s.pmg.state).judgeCurrent.judgeLadder s.pmg.state

section
variable (s : State) (mv ma : Nat)

theorem State.measure_eq : s.measure mv ma =
    if (s.judged mv ma).cfl.state = .loading then s.judged mv ma else (s.judged mv ma).loadEndPower := rfl

theorem State.judged_kept : SameReadings (s.pmg.sense mv ma) (s.judged mv ma).pmg
    ∧ SameHold (s.pmg.sense mv ma).currentCounts (s.judged mv ma).pmg := by
  let u : State := s.onPmg fun p => p.sense mv ma
  obtain ⟨r1, c1⟩ := u.judgeTrip_kept s.pmg.state
  obtain ⟨r2, c2, -⟩ := (u.judgeTrip s.pmg.state).judgeCurrent_kept
  obtain ⟨r3, c3⟩ := (u.judgeTrip s.pmg.state).judgeCurrent.judgeLadder_kept s.pmg.state
  exact ⟨(r1.trans r2).trans r3, ((SameHold.currentCounts r1 c1).trans c2).trans c3⟩

theorem State.measure_kept : SameReadings (s.pmg.sense mv ma) (s.measure mv ma).pmg
    ∧ SameHold (s.pmg.sense mv ma).currentCounts (s.measure mv ma).pmg := by
  obtain ⟨r, c⟩ := s.judged_kept mv ma
  rw [State.measure_eq]
  split
  · exact ⟨r, c⟩
  · obtain ⟨r', c'⟩ := (s.judged mv ma).loadEndPower_kept
    exact ⟨r.trans r', c.trans c'⟩

end

/-! ### A ladder state (R171 to R173) -/

/-- A power state that the ladder moves. -/
def PowerState.onLadder (st : PowerState) : Prop := st = .normal ∨ st = .constrained ∨ st = .shed

theorem PowerState.onLadder_iff {st : PowerState} : st.onLadder ↔ st ≠ .held ∧ st ≠ .trip := by
  cases st <;> simp [PowerState.onLadder]

theorem ladder_onLadder (c : PowerCfg) (hold : Bool) {st : PowerState} (f : Nat) (h : st.onLadder) : (ladder c hold st f).onLadder := by
  rcases h with rfl | rfl | rfl <;> unfold ladder <;> dsimp only <;> split_ifs <;> simp [PowerState.onLadder]

/-- Under the current hold the ladder only falls, to SHED (R173). -/
theorem ladder_holding (c : PowerCfg) {st : PowerState} (f : Nat) (h : st.onLadder) :
    ladder c true st f = if f < c.vShed then .shed else st := by
  rcases h with rfl | rfl | rfl <;> simp only [ladder, if_true, ite_self]

theorem State.loadEndPower_free (h : s.pmg.state ≠ .held) : s.loadEndPower = s := if_neg fun k => h k.1

theorem State.measure_free {mv ma : Nat} (h : (s.judged mv ma).pmg.state ≠ .held) : s.measure mv ma = s.judged mv ma := by
  rw [State.measure_eq, State.loadEndPower_free h, ite_self]

section
variable {mv ma : Nat}

theorem State.Tripped.counted (h : s.Tripped) : (s.onPmg Pmg.currentCounts).Tripped := by
  obtain ⟨hs, -, -, hb, hl, hc⟩ := s.pmg.currentCounts_kept
  exact { h with
    state := hs.trans h.state, budget := hb.trans h.budget, ceilings := hc.trans h.ceilings
    grants := fun i => by
      show s.pmg.currentCounts.loads[i].grant = 0
      rw [hl]
      exact h.grants i }

/-- A voltage below V_trip enters TRIP, and the measurement's other judgements leave it (R172). -/
theorem State.measure_trips (hl : s.pmg.state.onLadder) (h : min mv 8000 < s.pmg.cfg.vTrip) :
    (s.measure mv ma).Tripped ∧ (s.measure mv ma).pmg.recoverCount = 0 ∧ (s.measure mv ma).pmg.trips = satAdd s.pmg.trips 1 := by
  obtain ⟨h1, h2⟩ := PowerState.onLadder_iff.mp hl
  let u : State := s.onPmg fun p => p.sense mv ma
  have hne : u.pmg.state ≠ .trip := h2
  obtain ⟨b, v, c, x, hp⟩ := State.powerTo_pmg (s := u) .trip hne
  have htrip := State.powerTo_tripped (s := u) .trip hne
  let w : State := (u.powerTo .trip .trip).onPmg Pmg.currentCounts
  have hw : w.Tripped := htrip.counted
  have hcurrent : (u.powerTo .trip .trip).judgeCurrent = w := State.judgeCurrent_counts _ fun k => by
    rcases k.2 with k | k <;> exact nomatch htrip.state.symm.trans k
  have hjudged : s.judged mv ma = w := by
    have hlad : ladder w.pmg.cfg w.pmg.hold w.pmg.state w.pmg.filtered.mv = .trip := by rw [hw.state]; rfl
    show ((u.judgeTrip s.pmg.state).judgeCurrent).judgeLadder s.pmg.state = w
    rw [State.judgeTrip_enters h1 h2 (by exact h), hcurrent, State.judgeLadder_some (not_or.mpr ⟨h1, h2⟩), hlad,
      State.powerTo_same _ hw.state]
  have hm : s.measure mv ma = w := (State.measure_free (by rw [hjudged, hw.state]; exact fun k => nomatch k)).trans hjudged
  obtain ⟨-, hr, ht, -⟩ := (u.powerTo .trip .trip).pmg.currentCounts_kept
  rw [hm]
  refine ⟨hw, hr.trans ?_, ht.trans ?_⟩
  · rw [hp]; rfl
  · rw [hp]; rfl

/-- Where a current hold begins, the state is SHED (R173). -/
theorem State.measure_begins (hl : s.pmg.state.onLadder) (h : ¬ min mv 8000 < s.pmg.cfg.vTrip) (hb : (s.pmg.sense mv ma).holdBegins) :
    (s.measure mv ma).pmg.state = .shed := by
  obtain ⟨h1, h2⟩ := PowerState.onLadder_iff.mp hl
  let u : State := s.onPmg fun p => p.sense mv ma
  obtain ⟨hr, hc, -⟩ := u.judgeCurrent_kept
  have hhold : u.judgeCurrent.pmg.hold = true := hc.hold.trans (u.pmg.currentCounts_begins.mpr hb).1
  have hshed : u.judgeCurrent.pmg.state = .shed := by
    by_cases hn : u.pmg.state = .normal ∨ u.pmg.state = .constrained
    · rw [u.judgeCurrent_steps ⟨hb, hn⟩, State.powerTo_state]
    · rw [u.judgeCurrent_counts fun k => hn k.2]
      refine u.pmg.currentCounts_kept.1.trans ?_
      rcases hl with hl | hl | hl
      · exact absurd (.inl hl) hn
      · exact absurd (.inr hl) hn
      · exact hl
  have hjudged : (s.judged mv ma).pmg.state = .shed := by
    show ((u.judgeTrip s.pmg.state).judgeCurrent.judgeLadder s.pmg.state).pmg.state = _
    rw [State.judgeTrip_stays h2 (by exact h), State.judgeLadder_some (not_or.mpr ⟨h1, h2⟩), State.powerTo_state, hshed, hhold]
    simp [ladder]
  rw [State.measure_free (by rw [hjudged]; exact fun k => nomatch k), hjudged]

/-- Where none begins, the state follows the ladder (R171, R173). -/
theorem State.measure_follows (hl : s.pmg.state.onLadder) (h : ¬ min mv 8000 < s.pmg.cfg.vTrip) (hb : ¬ (s.pmg.sense mv ma).holdBegins) :
    (s.measure mv ma).pmg.state =
      ladder s.pmg.cfg (s.pmg.sense mv ma).currentCounts.hold s.pmg.state (s.pmg.sense mv ma).filtered.mv := by
  obtain ⟨h1, h2⟩ := PowerState.onLadder_iff.mp hl
  let u : State := s.onPmg fun p => p.sense mv ma
  have hcurrent : u.judgeCurrent = u.onPmg Pmg.currentCounts := u.judgeCurrent_counts fun k => hb k.1
  have hr := u.pmg.currentCounts_readings
  have hjudged : (s.judged mv ma).pmg.state =
      ladder s.pmg.cfg (s.pmg.sense mv ma).currentCounts.hold s.pmg.state (s.pmg.sense mv ma).filtered.mv := by
    show ((u.judgeTrip s.pmg.state).judgeCurrent.judgeLadder s.pmg.state).pmg.state = _
    rw [State.judgeTrip_stays h2 (by exact h), State.judgeLadder_some (not_or.mpr ⟨h1, h2⟩), State.powerTo_state, hcurrent]
    show ladder u.pmg.currentCounts.cfg u.pmg.currentCounts.hold u.pmg.currentCounts.state u.pmg.currentCounts.filtered.mv = _
    rw [hr.cfg, hr.filtered, u.pmg.currentCounts_kept.1]
    rfl
  have hfree := ladder_onLadder s.pmg.cfg (s.pmg.sense mv ma).currentCounts.hold (s.pmg.sense mv ma).filtered.mv hl
  rw [State.measure_free (by rw [hjudged]; exact (PowerState.onLadder_iff.mp hfree).1), hjudged]

/-! ### TRIP and HELD (R170, R172) -/

/-- In TRIP the full recovery count gives SHED, and anything else moves the count alone. -/
theorem State.measure_recovers (ht : s.pmg.state = .trip) :
    let p := s.pmg.sense mv ma
    let over_ := p.recovers = true ∧ p.recoverCount + 1 = 8
    (over_ → (s.measure mv ma).pmg.state = .shed ∧ (s.measure mv ma).pmg.recoverCount = 0)
      ∧ (¬ over_ → (s.measure mv ma).pmg.state = .trip
        ∧ (s.measure mv ma).pmg.recoverCount = if p.recovers = true then p.recoverCount + 1 else 0) := by
  intro p over_
  let u : State := s.onPmg fun p => p.sense mv ma
  have hjudged : s.judged mv ma = (u.judgeTrip .trip).judgeCurrent := by
    show ((u.judgeTrip s.pmg.state).judgeCurrent).judgeLadder s.pmg.state = _
    rw [ht, State.judgeLadder_none (.inr rfl)]
  have settle : ∀ {st : PowerState}, (u.judgeTrip .trip).pmg.state = st → st = .shed ∨ st = .trip →
      (s.measure mv ma).pmg.state = st ∧ (s.measure mv ma).pmg.recoverCount = (u.judgeTrip .trip).pmg.recoverCount := fun {st} h hst => by
    have hcounts : (u.judgeTrip .trip).judgeCurrent = (u.judgeTrip .trip).onPmg Pmg.currentCounts := State.judgeCurrent_counts _ fun k => by
      rw [h] at k
      rcases hst with rfl | rfl <;> rcases k.2 with k | k <;> cases k
    obtain ⟨hs, hr, -⟩ := (u.judgeTrip .trip).pmg.currentCounts_kept
    have hj : (s.judged mv ma).pmg.state = st := by
      rw [hjudged, hcounts]
      exact hs.trans h
    have hfree : (s.judged mv ma).pmg.state ≠ .held := by
      rw [hj]
      rcases hst with rfl | rfl <;> exact fun k => nomatch k
    rw [State.measure_free hfree]
    refine ⟨hj, ?_⟩
    rw [hjudged, hcounts]
    exact hr
  refine ⟨fun h => ?_, fun h => ?_⟩
  · have hto : u.judgeTrip .trip = (u.onPmg fun p => { p with recoverCount := 0 }).powerTo .shed .recovery :=
      u.judgeTrip_trip.trans (if_pos h)
    obtain ⟨h1, h2⟩ := settle (by rw [hto, State.powerTo_state]) (.inl rfl)
    exact ⟨h1, h2.trans (by rw [hto, State.powerTo_recoverCount _ _ (by decide)]; rfl)⟩
  · have hto := u.judgeTrip_trip.trans (if_neg h)
    obtain ⟨h1, h2⟩ := settle (st := .trip) (by rw [hto]; exact ht) (.inr rfl)
    exact ⟨h1, h2.trans (by rw [hto]; rfl)⟩

theorem State.judged_held (hs : s.pmg.state = .held) :
    s.judged mv ma = (s.onPmg fun p => p.sense mv ma).onPmg Pmg.currentCounts := by
  let u : State := s.onPmg fun p => p.sense mv ma
  show ((u.judgeTrip s.pmg.state).judgeCurrent).judgeLadder s.pmg.state = _
  rw [hs, State.judgeLadder_none (.inl rfl)]
  exact u.judgeCurrent_counts fun k => by rcases k.2 with k | k <;> exact nomatch hs.symm.trans k

theorem State.measure_held (hs : s.pmg.state = .held) :
    (s.cfl.state = .loading → (s.measure mv ma).pmg.state = .held ∧ (s.measure mv ma).pmg.loads = s.pmg.loads)
      ∧ (s.cfl.state ≠ .loading → (s.measure mv ma).pmg.state = loadEndChoice (s.pmg.sense mv ma).currentCounts) := by
  have hj := State.judged_held (mv := mv) (ma := ma) hs
  have hcfl : (s.judged mv ma).cfl = s.cfl := by rw [hj]; rfl
  obtain ⟨hstate, -, -, -, hloads, -⟩ := (s.pmg.sense mv ma).currentCounts_kept
  have hwindow : (s.pmg.sense mv ma).currentCounts.window ≠ [] := by
    rw [(s.pmg.sense mv ma).currentCounts_readings.window]
    simp [Pmg.sense]
  rw [State.measure_eq, hcfl]
  refine ⟨fun h => ?_, fun h => ?_⟩
  · rw [if_pos h, hj]
    exact ⟨hstate.trans hs, hloads⟩
  · rw [if_neg h, hj, State.loadEndPower_state, if_pos ⟨hstate.trans hs, hwindow⟩]
    rfl

end

/-! ### The counts of the current hold, case by case (R173) -/

section
variable {p : Pmg}

theorem Pmg.currentCounts_below (hn : p.hold = false) (hi : p.filtered.ma ≤ p.cfg.iMax) : p.currentCounts = { p with overCount := 0 } := by
  rw [Pmg.currentCounts, if_neg (by simp [hn]), if_neg (Nat.not_lt.mpr hi)]

theorem Pmg.currentCounts_above (hn : p.hold = false) (hi : p.cfg.iMax < p.filtered.ma) (h4 : p.overCount + 1 ≠ 4) :
    p.currentCounts = { p with overCount := p.overCount + 1 } := by
  rw [Pmg.currentCounts, if_neg (by simp [hn]), if_pos hi, if_neg h4]

theorem Pmg.currentCounts_holdBegins (h : p.holdBegins) :
    p.currentCounts = { p with hold := true, overCount := 0, underCount := 0, currentHolds := satInc p.currentHolds } := by
  obtain ⟨hn, hi, h4⟩ := h
  rw [Pmg.currentCounts, if_neg (by simp [hn]), if_pos hi, if_pos h4]

theorem Pmg.currentCounts_held (hy : p.hold = true) : p.currentCounts = { p with
    hold := !decide (p.filtered.ma ≤ p.cfg.iMax ∧ p.underCount + 1 = 8)
    underCount := if p.filtered.ma ≤ p.cfg.iMax ∧ p.underCount + 1 ≠ 8 then p.underCount + 1 else 0 } := by
  rw [Pmg.currentCounts, if_pos hy]
  by_cases h1 : p.filtered.ma ≤ p.cfg.iMax <;> by_cases h2 : p.underCount + 1 = 8 <;> simp [h1, h2, hy]

theorem Pmg.currentCounts_hold (p : Pmg) : p.currentCounts.hold = true ↔
    p.holdBegins ∨ (p.hold = true ∧ ¬ (p.filtered.ma ≤ p.cfg.iMax ∧ p.underCount + 1 = 8)) := by
  by_cases hb : p.holdBegins
  · simp [Pmg.currentCounts_holdBegins hb, hb]
  cases hy : p.hold
  · simp only [hb, false_or, Bool.false_eq_true, false_and, iff_false]
    exact fun h => hb (p.currentCounts_begins.mp ⟨h, hy⟩)
  · rw [Pmg.currentCounts_held hy]
    simp only [hb, Bool.not_eq_true', decide_eq_false_iff_not, false_or, true_and]

end

/-- Settles O51, by the state that the measurement finds. -/
theorem measurementMovesPowerState : Obligations.MeasurementMovesPowerState := by
  intro s mv ma hh hd w f i c ladderState good begins holds
  let u : State := s.onClock fun c => { c with measAt := c.measAt + 24576 }
  obtain ⟨m, hm⟩ := u.edged_eq_mou fun s => s.measure mv ma
  have hexec : exec (.measurement mv ma) s = .next (u.edged fun s => s.measure mv ma) := by
    show Host.Outcome.next (s.live _) = _
    rw [State.live_of_free _ hh, if_pos hd]
    rfl
  have hclass : m.sensorClass = (u.measure mv ma).mou.sensorClass := by
    have h := ((u.measure mv ma).handEdges_work u.levels (u.measure mv ma).levels).mou.sensorClass
    exact (congrArg (fun t : State => t.mou.sensorClass) hm).symm.trans h
  have hp : u.pmg.sense mv ma = { s.pmg with latest := ⟨min mv 8000, min ma 4000⟩, window := w, filtered := ⟨f, i⟩ } := by
    simp only [Pmg.sense, meanOf, List.length_map]
    rfl
  obtain ⟨⟨hcfg, hlatest, hfiltered, hwindow⟩, ⟨hhold, hover, hunder, hcounts⟩⟩ := u.measure_kept mv ma
  have hbegins : (u.pmg.sense mv ma).holdBegins ↔ begins := by rw [hp]; rfl
  have hholds : (u.measure mv ma).pmg.hold = holds := by
    rw [hhold, Bool.eq_iff_iff, Pmg.currentCounts_hold, hbegins, hp]
    simp only [holds, Bool.or_eq_true, decide_eq_true_eq, Bool.and_eq_true, Bool.not_eq_true', decide_eq_false_iff_not]
    rfl
  have hladder : ladderState ↔ u.pmg.state.onLadder := .rfl
  have hgood : (u.pmg.sense mv ma).recovers = true ↔ good := by
    rw [hp]
    simp [Pmg.recovers, good, c]
  refine ⟨_, hexec.trans (congrArg _ hm), ?_, hlatest, hwindow.trans (by rw [hp]), hfiltered.trans (by rw [hp]), fun hl hv => ?_,
    fun ht hg h8 => ?_, fun ht hg h8 => ?_, fun ht hg => ?_, hholds, fun hn hi => ?_, fun hn hi h4 => ?_, fun hb => ?_, fun hy => ?_,
    fun hl hv hb => ?_, fun hl hv hy hk => ?_, fun hl hv hk => ?_, fun hs hlo => ?_, fun hs hlo => ?_, ?_⟩
  · exact (u.measure_within mv ma).clock.resolve_left (by decide)
  · obtain ⟨h, hr, ht⟩ := u.measure_trips (ma := ma) hl hv
    exact ⟨h.state, h.budget, hr, ht, h.grants, h.ceilings, h.cap, h.capHanded, hclass.trans h.sensorClass, h.strobes .a, h.strobes .b,
      h.bridge.1, h.bridge.2.1, h.bridge.2.2, h.patterns.1, h.patterns.2⟩
  · exact (u.measure_recovers ht).1 ⟨hgood.mpr hg, h8⟩
  · obtain ⟨h1, h2⟩ := (u.measure_recovers (mv := mv) (ma := ma) ht).2 fun k => h8 k.2
    exact ⟨h1, h2.trans (if_pos (hgood.mpr hg))⟩
  · obtain ⟨h1, h2⟩ := (u.measure_recovers (mv := mv) (ma := ma) ht).2 fun k => hg (hgood.mp k.1)
    exact ⟨h1, h2.trans (if_neg (mt hgood.mp hg))⟩
  · have hc := Pmg.currentCounts_below (p := u.pmg.sense mv ma) hn (by rw [hp]; exact hi)
    exact ⟨hover.trans (by rw [hc]), hunder.trans (by rw [hc]; rfl), hcounts.trans (by rw [hc]; rfl)⟩
  · have hc := Pmg.currentCounts_above (p := u.pmg.sense mv ma) hn (by rw [hp]; exact hi) h4
    exact ⟨hover.trans (by rw [hc]; rfl), hunder.trans (by rw [hc]; rfl), hcounts.trans (by rw [hc]; rfl)⟩
  · have hc := Pmg.currentCounts_holdBegins (hbegins.mpr hb)
    exact ⟨hover.trans (by rw [hc]), hunder.trans (by rw [hc]), hcounts.trans (by rw [hc]; rfl)⟩
  · have hc := Pmg.currentCounts_held (p := u.pmg.sense mv ma) hy
    rw [hp] at hc hover hunder hcounts
    exact ⟨hover.trans (by rw [hc]), hcounts.trans (by rw [hc]), hunder.trans (by rw [hc])⟩
  · exact u.measure_begins hl (Nat.not_lt.mpr hv) (hbegins.mpr hb)
  · have hb : ¬ (u.pmg.sense mv ma).holdBegins := fun k => nomatch hy.symm.trans k.1
    have h := u.measure_follows hl (Nat.not_lt.mpr hv) hb
    rw [← hhold, hholds, hk, hp] at h
    exact h.trans (ladder_holding _ _ hl)
  · have hb : ¬ (u.pmg.sense mv ma).holdBegins := fun k => by simp [holds, hbegins.mp k] at hk
    have h := u.measure_follows hl (Nat.not_lt.mpr hv) hb
    rw [← hhold, hholds, hk, hp] at h
    refine ⟨fun hst => ?_, fun hst => ?_, fun hst => ?_⟩ <;> rw [show u.pmg.state = _ from hst] at h <;> exact h
  · exact (u.measure_held hs).1 hlo
  · have h := (u.measure_held (mv := mv) (ma := ma) hs).2 hlo
    have hr := (u.pmg.sense mv ma).currentCounts_readings
    rw [loadEndChoice, hr.latest, hr.cfg, hr.filtered, ← hhold, hholds, hp] at h
    refine h.trans ?_
    dsimp only
    split
    · rfl
    · cases holds
      · rfl
      · simp only [true_and, if_true]
        split_ifs <;> simp_all
  · have hw := u.edged_within (f := fun s => s.measure mv ma) (u.measure_within mv ma) (by decide)
    rw [hm] at hw
    exact congrArg (fun v : State => { v with clock := s.clock }) hw.restore_allocation

end Sys2Proof.Machine
end

section
/-! O53 fails for a load whose priority lies outside 0 to 7: pass 1 does not visit it, but the backlight pair's turn serves it (R179,
R180). -/

namespace Sys2Proof.Machine

open Sys2Proof

/-- A load that wants nothing. -/
def idleLoad : Load := { priority := 0, floor := 0, switch := false, request := 0, grant := 0, state := .off, sheds := 0 }

/-- Backlight B wants 100 with a floor of 50, at a priority above the last; no other load wants anything. -/
def strayLoads : Vector Load 8 :=
  #v[idleLoad, idleLoad, idleLoad, { idleLoad with priority := 8, floor := 50, request := 100 }, idleLoad, idleLoad, idleLoad, idleLoad]

/-- Entry 2's turn in pass 2 gives backlight B the whole budget of 20, which is less than its floor. -/
theorem grantsOf_strayLoads : (grantsOf strayLoads 20)[(3 : Fin 8)] = 20 := by decide

/-- Refutes O53: the statement asks for the effective floor of every load with a grant, without a bound on its priority, and with a
budget of 20 the load of priority 8 has a grant of 20 and an effective floor of 50. -/
theorem not_allocationFitsBudget : ¬ Obligations.AllocationFitsBudget := by
  rintro ⟨grants, -⟩
  obtain ⟨-, bounds, -⟩ := grants strayLoads 20
  obtain ⟨-, floored⟩ := bounds 3
  rw [grantsOf_strayLoads] at floored
  exact absurd floored (by decide)

end Sys2Proof.Machine
end

section
/-! The late shift's evaluation: the integral over the gyro history, the shifts and their limits (7.2 to 7.4). -/

namespace Sys2Proof.Machine

open Sys2Proof

variable {s t : State}

/-! ### The integral over the gyro history (R125 to R129) -/

/-- The contributions of consecutive entries, and the newest entry's extrapolation. -/
theorem integrateFrom_eq (S : Time) (p : Int) (rate : GyroEntry → Int) (e : GyroEntry) (es : List GyroEntry) :
    integrateFrom S p rate e es =
      (((e :: es).zip es).map fun x =>
        rate x.2 * overlap (max (tdiff x.1.time S) (tdiff x.2.time S - 5000)) (tdiff x.2.time S) p).sum
      + (((e :: es).getLast?.map fun e =>
        rate e * overlap (tdiff e.time S) (min 0 (tdiff e.time S + 5000)) p).getD 0) := by
  induction es generalizing e with
  | nil => simp [integrateFrom]
  | cons k ks ih =>
    rw [integrateFrom, ih, List.zip_cons_cons, List.map_cons, List.sum_cons, List.getLast?_cons_cons, Int.add_assoc]

theorem integrateAngle_eq (S P : Time) (rate : GyroEntry → Int) (h : List GyroEntry) :
    integrateAngle S P rate h = clampInt (-angleMax) angleMax
      (((h.zip h.tail).map fun x =>
        rate x.2 * overlap (max (tdiff x.1.time S) (tdiff x.2.time S - 5000)) (tdiff x.2.time S) (tdiff P S)).sum
      + ((h.getLast?.map fun e => rate e * overlap (tdiff e.time S) (min 0 (tdiff e.time S + 5000)) (tdiff P S)).getD 0)) := by
  cases h with
  | nil => rfl
  | cons e es => rw [integrateAngle, integrateFrom_eq]; rfl

/-! ### The pose case (R124) -/

theorem poseCase_ahead {S P : Time} (h : tdiff S P < 0) : poseCase (some P) S = .poseAhead := if_pos h

theorem poseCase_empty {S P : Time} (h : tdiff S P = 0) : poseCase (some P) S = .empty :=
  (if_neg (by omega)).trans (if_pos h)

theorem poseCase_integrate {S P : Time} (h : 0 < tdiff S P) : poseCase (some P) S = .integrate :=
  (if_neg (by omega)).trans (if_neg (by omega))

theorem poseCase_eq_noPose {pose : Option Time} {S : Time} : poseCase pose S = .noPose ↔ pose = none := by
  unfold poseCase
  cases pose with
  | none => simp
  | some P =>
    dsimp only
    split_ifs <;> simp

theorem poseCase_eq_poseAhead {pose : Option Time} {S : Time} : poseCase pose S = .poseAhead ↔ ∃ P, pose = some P ∧ tdiff S P < 0 := by
  unfold poseCase
  cases pose with
  | none => simp
  | some P =>
    dsimp only
    split_ifs <;> simp_all

theorem evalAngles_integrate {S P : Time} (h : 0 < tdiff S P) (history : List GyroEntry) : evalAngles S (some P) history =
    ⟨integrateAngle S P GyroEntry.yaw history, integrateAngle S P GyroEntry.pitch history⟩ := by
  unfold evalAngles
  rw [poseCase_integrate h]

theorem evalAngles_zero {pose : Option Time} {S : Time} (h : pose = none ∨ ∃ P, pose = some P ∧ tdiff S P ≤ 0)
    (history : List GyroEntry) : evalAngles S pose history = ⟨0, 0⟩ := by
  rcases h with rfl | ⟨P, rfl, h⟩
  · rfl
  · rcases Int.lt_or_eq_of_le h with h | h
    · unfold evalAngles
      rw [poseCase_ahead h]
    · unfold evalAngles
      rw [poseCase_empty h]

theorem shortHistory_iff (P : Time) (h : List GyroEntry) :
    shortHistory P h = true ↔ h = [] ∨ ∃ e, h.head? = some e ∧ 0 < tdiff e.time P := by
  cases h <;> simp [shortHistory, before]

theorem evalShort_iff {pose : Option Time} {S : Time} {h : List GyroEntry} : evalShort S pose h = true ↔
    ∃ P, pose = some P ∧ 0 < tdiff S P ∧ (h = [] ∨ ∃ e, h.head? = some e ∧ 0 < tdiff e.time P) := by
  cases pose with
  | none => simp [evalShort, poseCase]
  | some P =>
    simp only [Option.some.injEq, exists_eq_left', ← shortHistory_iff]
    rcases Int.lt_trichotomy (tdiff S P) 0 with k | k | k
    · unfold evalShort
      rw [poseCase_ahead k]
      simp [Int.not_lt.mpr (Int.le_of_lt k)]
    · unfold evalShort
      rw [poseCase_empty k]
      simp [k]
    · unfold evalShort
      rw [poseCase_integrate k]
      simp [k]

/-! ### Clamping (R131) -/

theorem clampInt_natAbs (lim : Nat) (x : Int) : (clampInt (-lim) lim x).natAbs ≤ lim := by
  unfold clampInt
  omega

/-- The state after an evaluation of a record: the record written, counted, and its two events. -/
theorem State.evaluate_eq {r : FrameRec} (hr : s.ftm.upcoming = some r) (ho : r.state = .opened) : s.evaluate =
    let r1 := evalRecord r s.now s.mou.history s.lsu.written
    let v1 := if r1.flags.historyShort = true then s.evu.take .historyShort (shortDetail r s.now s.mou.history) s.now s.timeUnset
      else s.evu
    { s with
      lsu := s.lsu.afterEval r1
      ftm := { s.ftm with upcoming := some r1 }
      evu := if r1.flags.clamped = true then v1.take .shiftClamped
        (clampDetail r (unclampedBoth (evalAngles s.now r.pose s.mou.history) s.lsu.written)) s.now s.timeUnset else v1 } := by
  unfold State.evaluate
  rw [hr]
  dsimp only
  rw [if_pos ho]
  split <;> split <;> rfl

/-- Settles O37, by the pose case and the limits. -/
theorem evaluationSetsAnglesAndShifts : Obligations.EvaluationSetsAnglesAndShifts := by
  intro s r hh hd hr c S h d ov integral
  have ho : r.state = .opened := by
    simp only [State.evaluationDue, hr, Bool.and_eq_true, decide_eq_true_eq] at hd
    exact hd.1.1.1
  let g := evalAngles S r.pose h
  let r1 := evalRecord r S h c
  have hexec : exec .evaluation s = .next s.evaluate := by
    show Host.Outcome.next (s.live _) = _
    rw [State.live_of_free _ hh, if_pos hd]
  rw [State.evaluate_eq hr ho] at hexec
  refine ⟨_, r1, g, evalShifts g c, hexec, rfl, rfl, rfl, rfl, rfl, rfl, fun P hP hS => ?_, fun hP => evalAngles_zero hP h, ?_, ?_, ?_, rfl, ?_, rfl,
    rfl⟩
  · have hint : ∀ rate, integrateAngle S P rate h = integral P rate := fun rate => integrateAngle_eq S P rate h
    show evalAngles S r.pose h = _
    rw [hP, evalAngles_integrate hS, hint, hint]
  · exact decide_eq_true_iff.trans poseCase_eq_noPose
  · exact decide_eq_true_iff.trans poseCase_eq_poseAhead
  · exact evalShort_iff
  · intro u raw limited time short clamps
    have hraw : unclampedBoth g c = ⟨raw .a, raw .b⟩ := rfl
    have hlim : clampBoth (unclampedBoth g c) c = ⟨limited .a, limited .b⟩ := rfl
    refine ⟨fun he => ?_, fun he => ?_, fun p => ⟨clampInt_natAbs _ _, clampInt_natAbs _ _⟩, ?_, fun h1 h2 => ?_, fun h1 h2 => ?_, fun h1 h2 => ?_⟩
    · exact if_neg (by simp [he])
    · exact if_pos he
    · show evalClamps g c = true ↔ _
      rw [evalClamps, hlim, hraw]
      simp only [Bool.and_eq_true, decide_eq_true_eq, ne_eq, Duo.mk.injEq, not_and_or]
    · exact (if_neg (Bool.eq_false_iff.mp h2)).trans (if_neg (Bool.eq_false_iff.mp h1))
    · exact (if_neg (Bool.eq_false_iff.mp h2)).trans (if_pos h1)
    · refine (if_pos h2).trans ?_
      exact congrArg (fun v : Evu => v.take .shiftClamped clamps s.now s.timeUnset) (if_neg (Bool.eq_false_iff.mp h1))

end Sys2Proof.Machine
end

section
/-! The numbers of a frame start, the display lock and the exposure generators at it (R62 steps 1 to 5, R67, R76). -/

namespace Sys2Proof.Machine

open Sys2Proof

variable {s : State}

/-! ### The display lock machine (R67) -/

/-- Display state and counts after the bookkeeping of a frame start (R67). -/
def Ftm.lockAfter (t : Ftm) : DisplayState × Nat × Nat × Nat :=
  if t.inForce.linked = false then (DisplayState.free, 0, 0, 0)
  else if t.targetTaken = false ∧ t.display ≠ .free then
    (if min (t.noTarget + 1) 8 = 8 ∧ t.display = .locked then DisplayState.holdover else t.display, t.inCount, t.outCount,
      min (t.noTarget + 1) 8)
  else (t.display, t.inCount, t.outCount, t.noTarget)

/-- A frame timer with the display state and the counts of four values. -/
def Ftm.withLock (t : Ftm) (x : DisplayState × Nat × Nat × Nat) : Ftm :=
  { t with display := x.1, inCount := x.2.1, outCount := x.2.2.1, noTarget := x.2.2.2 }

theorem State.lockBookkeeping_ftm (s : State) : s.lockBookkeeping.ftm = s.ftm.withLock s.ftm.lockAfter := by
  unfold State.lockBookkeeping Ftm.lockAfter
  by_cases hl : s.ftm.inForce.linked = false
  · simp only [hl, Bool.not_false, if_true]
    split <;> rfl
  · have hl' : s.ftm.inForce.linked = true := by simpa using hl
    simp only [hl', Bool.not_true, Bool.false_eq_true, if_false, reduceCtorEq]
    split
    · split <;> rfl
    · rfl

theorem State.lockBookkeeping_evu (s : State) : s.lockBookkeeping.evu =
    if s.ftm.display ≠ .locked then s.evu
    else if s.ftm.inForce.linked = false then s.evu.take .displayUnlock (unlockDetail s.ftm.F 2) s.now s.timeUnset
    else if s.ftm.targetTaken = false ∧ 8 ≤ s.ftm.noTarget + 1 then
      s.evu.take .displayUnlock (unlockDetail s.ftm.F 1) s.now s.timeUnset
    else s.evu := by
  have hmin : ∀ n, min (n + 1) 8 = 8 ↔ 8 ≤ n + 1 := by omega
  unfold State.lockBookkeeping
  by_cases hd : s.ftm.display = .locked
  · by_cases hl : s.ftm.inForce.linked = false
    · simp [hd, hl]
      rfl
    · by_cases ht : s.ftm.targetTaken = false
      · by_cases hn : 8 ≤ s.ftm.noTarget + 1
        · simp [hd, hl, ht, hn]
          rfl
        · simp [hd, hl, ht, hn, hmin]
      · simp [hd, hl, ht]
  · by_cases hl : s.ftm.inForce.linked = false
    · simp [hd, hl]
    · by_cases ht : s.ftm.targetTaken = false ∧ s.ftm.display ≠ .free
      · simp [hd, hl, ht]
      · simp [hd, hl, ht]

/-! ### Numbers (R62 steps 1 to 5) -/

theorem Ftm.nextNumber_eq (t : Ftm) : t.nextNumber =
    if t.schedule = .starting then (t.upcoming.map FrameRec.number).getD 0 else t.renumber.getD (t.scanFrame.getD 0 + 1) := by
  unfold Ftm.nextNumber
  split
  · rfl
  · cases t.renumber <;> rfl

/-- The frame timer after the numbers of a frame start. -/
def Ftm.numbered (t : Ftm) (now : Time) : Ftm :=
  (({ t with
    scanFrame := some t.nextNumber, renumber := none, sF := now, frameStarts := satInc t.frameStarts, schedule := .running
    inForce := t.written } : Ftm).withLock (t.begin t.nextNumber now).lockAfter).scheduleNext

theorem State.reportRenumber_evu (s : State) : s.reportRenumber = { s with evu := s.reportRenumber.evu } := by
  unfold State.reportRenumber
  split
  · split <;> rfl
  · rfl

theorem State.frameNumbers_ftm (s : State) : s.frameNumbers.ftm = s.ftm.numbered s.now := by
  unfold State.frameNumbers
  rw [s.reportRenumber_evu]
  simp only [State.onFtm_ftm, State.lockBookkeeping_ftm]
  rfl

/-- The event unit after a pending renumber has been reported (R62 step 1). -/
theorem State.reportRenumber_takes (s : State) : s.reportRenumber.evu = match s.ftm.renumber with
    | none => s.evu
    | some n => if s.ftm.schedule = .starting then s.evu else s.evu.take .frameRenumber
        (leBytes 2 (s.ftm.scanFrame.getD 0 + 1).toNat ++ leBytes 2 n.toNat) s.now s.timeUnset := by
  unfold State.reportRenumber
  cases s.ftm.renumber with
  | none => rfl
  | some n =>
    dsimp only
    split <;> rfl

theorem State.frameNumbers_evu (s : State) : s.frameNumbers.evu =
    if s.ftm.display ≠ .locked then s.reportRenumber.evu
    else if s.ftm.written.linked = false then
      s.reportRenumber.evu.take .displayUnlock (unlockDetail s.ftm.nextNumber 2) s.now s.timeUnset
    else if s.ftm.targetTaken = false ∧ 8 ≤ s.ftm.noTarget + 1 then
      s.reportRenumber.evu.take .displayUnlock (unlockDetail s.ftm.nextNumber 1) s.now s.timeUnset
    else s.reportRenumber.evu := by
  unfold State.frameNumbers
  rw [s.reportRenumber_evu]
  exact State.lockBookkeeping_evu _

/-! ### Generators (R76) -/

theorem Generator.frameStart_base {x : Generator} {F : FrameNo} {sF sNext : Time}
    (h : ¬ (x.written.enable = true ∧ x.written.aEnd = false ∧ F.toNat % x.written.divider = 0)) :
    x.frameStart F sF sNext = match x.state with
      | .idle => { x with inForce := x.written }
      | .pending => { x with inForce := x.written, suppressed := satInc x.suppressed, state := .idle }
      | .on => { x with inForce := x.written, crossed := true } := if_neg h

theorem Generator.frameStart_late {x : Generator} {F : FrameNo} {sF sNext : Time}
    (h : x.written.enable = true ∧ x.written.aEnd = false ∧ F.toNat % x.written.divider = 0)
    (hl : x.state = .on ∨ (sNext - (sF + BitVec.ofNat 32 x.written.offset)).toInt ≤ 0) :
    x.frameStart F sF sNext = match x.state with
      | .idle => { x with inForce := x.written, suppressed := satInc x.suppressed }
      | .pending => { x with inForce := x.written, suppressed := satInc (satInc x.suppressed), state := .idle }
      | .on => { x with inForce := x.written, crossed := true, suppressed := satInc x.suppressed } := by
  refine (if_pos h).trans ((if_pos ?_).trans ?_)
  · rw [Bool.or_eq_true, not_before_iff, decide_eq_true_eq]
    exact hl.symm
  · cases x.state <;> rfl

theorem Generator.frameStart_schedules {x : Generator} {F : FrameNo} {sF sNext : Time}
    (h : x.written.enable = true ∧ x.written.aEnd = false ∧ F.toNat % x.written.divider = 0) (ho : x.state ≠ .on)
    (hl : ¬ (sNext - (sF + BitVec.ofNat 32 x.written.offset)).toInt ≤ 0) :
    x.frameStart F sF sNext =
      { x with
        inForce := x.written, state := .pending, startAt := sF + BitVec.ofNat 32 x.written.offset
        suppressed := if x.state = .pending then satInc x.suppressed else x.suppressed } := by
  refine (if_pos h).trans ((if_neg ?_).trans ?_)
  · rw [Bool.or_eq_true, not_before_iff, decide_eq_true_eq]
    exact not_or.mpr ⟨hl, ho⟩
  · cases hx : x.state with
    | idle => rfl
    | pending => rfl
    | on => exact absurd hx ho

end Sys2Proof.Machine
end

section
/-! The frame records at a frame start (R62 step 6, R70, R97), and what the rest of it leaves of the frame timer. -/

namespace Sys2Proof.Machine

open Sys2Proof

variable {s t u : State}

/-! ### Progress of the SCANNING record -/

/-- `t` follows `s` with at most the SCANNING and DONE records and the pending panels of the frame timer changed. -/
def ScanKept (s t : State) : Prop :=
  ∃ a d p, t.ftm = { s.ftm with scanning := a, done := d, pendingPanels := p }

namespace ScanKept

theorem of_eq (h : t.ftm = s.ftm) : ScanKept s t := ⟨_, _, _, h⟩

theorem refl : ScanKept s s := of_eq rfl

theorem trans (h : ScanKept s t) (k : ScanKept t u) : ScanKept s u := by
  obtain ⟨_, _, _, h⟩ := h
  obtain ⟨a, d, p, k⟩ := k
  exact ⟨a, d, p, by rw [k, h]⟩

theorem of_within {bs : List Part} (w : Within bs s t) (h : Part.ftm ∉ bs) : ScanKept s t := of_eq (w.ftm.resolve_left h)

end ScanKept

variable (s)

theorem State.onScanning_scan (f : FrameRec → FrameRec) : ScanKept s (s.onScanning f) := ⟨_, _, _, rfl⟩

theorem State.onPanel_scan (p : Side) (f : PanelState → PanelState) : ScanKept s (s.onPanel p f) := .of_eq rfl

theorem State.raise_scan (k : EventKind) (d : List Byte) : ScanKept s (s.raise k d) := .of_eq rfl

theorem State.finishRecord_scan : ScanKept s s.finishRecord := by
  unfold State.finishRecord
  split
  · exact .refl
  · exact ⟨_, _, _, rfl⟩

theorem State.tryComplete_scan (p : Side) : ScanKept s (s.tryComplete p) := by
  have one : ScanKept s (s.completion p) := by
    unfold State.completion
    dsimp only
    split
    · split
      · exact ⟨_, _, _, rfl⟩
      · exact ScanKept.trans ⟨_, _, _, rfl⟩ (State.finishRecord_scan _)
    · exact .refl
  unfold State.tryComplete
  split
  · exact one
  · exact .refl

theorem State.endScan_scan (p : Side) : ScanKept s (s.endScan p) := by
  unfold State.endScan
  split
  · exact .refl
  · split
    · exact (State.onScanning_scan _ _).trans (State.raise_scan _ _ _)
    · exact .refl

theorem State.cutScan_scan (p : Side) (F : Option FrameNo) : ScanKept s (s.cutScan p F) :=
  (((s.onPanel_scan _ _).trans (State.onScanning_scan _ _)).trans (State.onPanel_scan _ _ _)).trans (State.endScan_scan _ _)

theorem State.cutAtStart_scan (p : Side) (F : Option FrameNo) : ScanKept s (s.cutAtStart p F) := by
  unfold State.cutAtStart
  split
  · exact s.cutScan_scan p F
  · exact .refl

theorem State.panelOff_scan (p : Side) : ScanKept s (s.panelOff p) := by
  have off : ∀ u : State, ScanKept u ((u.onPanel p fun x =>
      { x with scan := .off, ring := [], lastLine := none, strobe := x.strobe.cleared }).tryComplete p) := fun u =>
    (u.onPanel_scan _ _).trans (State.tryComplete_scan _ _)
  unfold State.panelOff
  dsimp only
  split
  · exact (s.cutScan_scan _ _).trans (off _)
  · exact off s

/-- An allocation brings at most progress of the SCANNING record. -/
theorem ScanKept.keptByAllocation : KeptByAllocation (ScanKept s) where
  loads _ _ h := h.trans (.of_eq rfl)
  ceilings _ _ _ h := h.trans (.of_eq rfl)
  cap _ _ _ h := h.trans (.of_eq rfl)
  capHanded _ _ h := h.trans (.of_eq rfl)
  raise _ k d h := h.trans (State.raise_scan _ k d)
  handClass _ c h := h.trans (.of_within (State.handClass_within _ c) (by decide))
  panelOff _ p h := h.trans (State.panelOff_scan _ p)
  panelWake _ p h := h.trans (.of_within (State.panelWake_within _ p) (by decide))

theorem State.refreshLoads_scan : ScanKept s s.refreshLoads := (ScanKept.keptByAllocation s).refreshLoads .refl

theorem State.firstLine_scan (p : Side) : ScanKept s (s.firstLine p) := by
  unfold State.firstLine
  split
  · rw [State.outputLine_eq]
    exact (s.onPanel_scan _ _).trans (State.onScanning_scan _ _)
  · exact .refl

theorem State.namePanels_scan : ScanKept s s.namePanels := by
  unfold State.namePanels
  dsimp only
  split
  · exact ⟨_, _, _, rfl⟩
  · exact ScanKept.trans ⟨_, _, _, rfl⟩ (State.finishRecord_scan _)

theorem State.picturesStart_scan (old : Option FrameNo) : ScanKept s (s.picturesStart old) :=
  (((ScanKept.of_within (s.panelsBegin_within old) (by decide)).trans (State.namePanels_scan _)).trans
    (State.firstLine_scan _ .a)).trans (State.firstLine_scan _ .b)

/-! ### The move of the records (R70) -/

/-- The upcoming record after a late evaluation (R70 step 2). -/
theorem State.lateEvaluate_ftm : ∃ r, s.lateEvaluate.ftm = { s.ftm with upcoming := r } := by
  unfold State.lateEvaluate
  split
  · rename_i r hr
    split
    · rw [State.evaluate_eq hr ‹_›]
      exact ⟨_, rfl⟩
    · exact ⟨_, rfl⟩
  · exact ⟨_, rfl⟩

/-- What the move of the records leaves of the frame timer. -/
theorem State.frameRecords_ftm (old : Option FrameNo) : ∃ a d p, (s.frameRecords old).ftm =
    { s.ftm with
      scanning := a, done := d, pendingPanels := p
      upcoming := some (FrameRec.fresh (s.ftm.scanFrame.getD 0 + 1) s.ftm.sNext) } := by
  have k : ScanKept s ((s.cutAtStart .a old).cutAtStart .b old).finishRecord :=
    ((s.cutAtStart_scan _ _).trans (State.cutAtStart_scan _ _ _)).trans (State.finishRecord_scan _)
  unfold State.frameRecords
  generalize ((s.cutAtStart .a old).cutAtStart .b old).finishRecord = v at k
  obtain ⟨a, d, p, k⟩ := k
  obtain ⟨r, h⟩ := v.lateEvaluate_ftm
  refine ⟨r.map fun r => { r with state := .scanning, start := s.ftm.sF }, d, p, ?_⟩
  rw [State.onFtm_ftm, h, k]
  rfl

theorem State.startPulses_ftm : s.startPulses.ftm = { s.ftm with pulseEnd := some (s.osc + 246) } := rfl

/-- A frame start before its reallocation, but for the records of the frame that ends and of the one that begins. -/
theorem State.framed_ftm : ∃ a d p, s.framed.ftm =
    { s.ftm.numbered s.now with
      scanning := a, done := d, pendingPanels := p
      upcoming := some (FrameRec.fresh (s.ftm.nextNumber + 1) (s.ftm.numbered s.now).sNext)
      gens := (s.ftm.numbered s.now).startGens.gens, pulseEnd := some (s.osc + 246) } := by
  obtain ⟨_, _, _, hr⟩ := s.frameNumbers.frameRecords_ftm s.ftm.scanFrame
  obtain ⟨a, d, p, hp⟩ := (s.frameNumbers.frameRecords s.ftm.scanFrame).picturesStart_scan s.ftm.scanFrame
  refine ⟨a, d, p, ?_⟩
  have hosc : ((s.frameNumbers.frameRecords s.ftm.scanFrame).picturesStart s.ftm.scanFrame).osc = s.osc :=
    congrArg Clock.osc ((((s.frameNumbers_within.mono (bs := [.lsu, .stu, .pxp, .ftm, .evu]) (by decide)).andThen
      (State.frameRecords_within _ _) (by decide)).andThen (State.picturesStart_within _ _) (by decide)).clock.resolve_left
        (by decide))
  rw [hr, State.frameNumbers_ftm] at hp
  unfold State.framed
  generalize (s.frameNumbers.frameRecords s.ftm.scanFrame).picturesStart s.ftm.scanFrame = v at hp hosc ⊢
  rw [← hosc, State.startPulses_ftm, State.onFtm_ftm, hp]
  rfl

end Sys2Proof.Machine
end

section
/-! The records of a frame start: the scans cut, the record that ends, and the one that is scanned (R62 step 6, R70, R97). -/

namespace Sys2Proof.Machine

open Sys2Proof

variable {s : State}

/-! ### A scan cut (R82, R96, R97) -/

/-- A record after the scan of a panel has been cut and judged (R96, R97). -/
def FrameRec.cutJudged (r : FrameRec) (p : Side) : FrameRec :=
  { r.cut p with flags := { (r.cut p).flags with incomplete := r.flags.incomplete || decide (0 < r.missing.get p) } }

/-- A record at a frame start: judged for the panel where its scan is cut (R97). -/
def FrameRec.cutIf (r : FrameRec) (p : Side) (active : Bool) : FrameRec := if active = true then r.cutJudged p else r

theorem FrameRec.cutIf_a (r : FrameRec) (x : Bool) : r.cutIf .a x = { r with flags := { r.flags with
    cutA := r.flags.cutA || x, incomplete := r.flags.incomplete || (x && decide (0 < r.missing.a)) } } := by
  cases x with
  | false => simp [FrameRec.cutIf]
  | true =>
    simp only [Bool.or_true, Bool.true_and]
    rfl

theorem FrameRec.cutIf_b (r : FrameRec) (x : Bool) : r.cutIf .b x = { r with flags := { r.flags with
    cutB := r.flags.cutB || x, incomplete := r.flags.incomplete || (x && decide (0 < r.missing.b)) } } := by
  cases x with
  | false => simp [FrameRec.cutIf]
  | true =>
    simp only [Bool.or_true, Bool.true_and]
    rfl

theorem State.cutScan_scanning {r : FrameRec} (h : s.ftm.scanning = some r) (p : Side) (F : Option FrameNo) :
    (s.cutScan p F).ftm.scanning = some (r.cutJudged p) := by
  unfold State.cutScan State.closeScan
  rw [State.endScan_some (r := r.cut p) (by simp [State.onScanning, h])]
  cases p <;> rfl

theorem State.cutAtStart_scanning {r : FrameRec} (h : s.ftm.scanning = some r) (p : Side) (F : Option FrameNo) :
    (s.cutAtStart p F).ftm.scanning = some (r.cutIf p (decide ((s.panel p).scan = .active))) := by
  unfold State.cutAtStart FrameRec.cutIf
  simp only [decide_eq_true_eq]
  split
  · exact State.cutScan_scanning h p F
  · exact h

theorem State.cutAtStart_other {p q : Side} (F : Option FrameNo) (h : q ≠ p) : (s.cutAtStart p F).panel q = s.panel q := by
  unfold State.cutAtStart
  split
  · exact s.cutScan_other F h
  · rfl

theorem State.cutAtStart_cutLines (p : Side) (F : Option FrameNo) : ((s.cutAtStart p F).panel p).cutLines =
    if (s.panel p).scan = .active then satAdd (s.panel p).cutLines ((s.panel p).inForce.height - 1 - (s.panel p).pos)
    else (s.panel p).cutLines := by
  unfold State.cutAtStart
  split
  · rw [State.cutScan, State.closeScan, State.panel, State.endScan_pxp]
    cases p <;> rfl
  · rfl

/-! ### The record that ends and the one that is scanned -/

/-- A frame start up to the record that ends: the scans cut, and the SCANNING record DONE (R70, R97). -/
def State.recordEnds (s : State) (old : Option FrameNo) : State := ((s.cutAtStart .a old).cutAtStart .b old).finishRecord

theorem State.frameRecords_eq (s : State) (old : Option FrameNo) :
    s.frameRecords old = (s.recordEnds old).lateEvaluate.onFtm Ftm.moveRecords := rfl

theorem State.recordEnds_within (s : State) (old : Option FrameNo) : Within [.pxp, .ftm, .evu] s (s.recordEnds old) := by
  have cut : ∀ (u : State) p, Within [.pxp, .ftm, .evu] u (u.cutAtStart p old) := by
    intro u p
    unfold State.cutAtStart
    split
    · exact (u.cutScan_within p old).mono (by decide)
    · exact .refl
  exact ((cut _ _).trans (cut _ _)).andThen (State.finishRecord_within _) (by decide)

theorem State.recordEnds_scan (s : State) (old : Option FrameNo) : ScanKept s (s.recordEnds old) :=
  ((s.cutAtStart_scan _ _).trans (State.cutAtStart_scan _ _ _)).trans (State.finishRecord_scan _)

theorem State.recordEnds_upcoming (s : State) (old : Option FrameNo) : (s.recordEnds old).ftm.upcoming = s.ftm.upcoming := by
  obtain ⟨_, _, _, h⟩ := s.recordEnds_scan old
  rw [h]

theorem State.finishRecord_done {r : FrameRec} (h : s.ftm.scanning = some r) : s.finishRecord = { s with
    ftm := { s.ftm with scanning := none, done := some { r with state := .done }, pendingPanels := ⟨false, false⟩ }
    evu := s.evu.take .frameReport (FrameRec.report { r with state := .done }) s.now s.timeUnset } := by
  unfold State.finishRecord
  rw [h]
  rfl

theorem State.recordEnds_done {r : FrameRec} (h : s.ftm.scanning = some r) (old : Option FrameNo) :
    (s.recordEnds old).ftm.done = some { (r.cutIf .a (decide ((s.panel .a).scan = .active))).cutIf .b
      (decide ((s.panel .b).scan = .active)) with state := .done } := by
  have hb := State.cutAtStart_scanning (State.cutAtStart_scanning h .a old) .b old
  rw [State.cutAtStart_other old (by decide : Side.b ≠ .a)] at hb
  unfold State.recordEnds
  rw [State.finishRecord_done hb]

theorem State.recordEnds_cutLines (s : State) (old : Option FrameNo) (p : Side) : ((s.recordEnds old).panel p).cutLines =
    if (s.panel p).scan = .active then satAdd (s.panel p).cutLines ((s.panel p).inForce.height - 1 - (s.panel p).pos)
    else (s.panel p).cutLines := by
  have hf : ∀ u : State, u.finishRecord.panel p = u.panel p := fun u => by
    rw [State.panel, u.finishRecord_within.pxp.resolve_left (by decide)]
    rfl
  unfold State.recordEnds
  rw [hf]
  cases p with
  | a => rw [State.cutAtStart_other old (by decide : Side.a ≠ .b), State.cutAtStart_cutLines]
  | b => rw [State.cutAtStart_cutLines, State.cutAtStart_other old (by decide : Side.b ≠ .a)]

/-- An evaluation of one record in two states that agree in the time, the history and the late shift unit. -/
theorem State.evaluate_upcoming {r : FrameRec} (hr : s.ftm.upcoming = some r) (ho : r.state = .opened) :
    s.evaluate.ftm.upcoming = some (evalRecord r s.now s.mou.history s.lsu.written) := by
  rw [State.evaluate_eq hr ho]

theorem State.frameRecords_evaluated {r : FrameRec} (hr : s.ftm.upcoming = some r) (he : r.state = .evaluated)
    (old : Option FrameNo) :
    (s.frameRecords old).ftm.scanning = some { r with state := .scanning, start := s.ftm.sF } := by
  obtain ⟨_, _, _, hf⟩ := s.recordEnds_scan old
  have hl : (s.recordEnds old).lateEvaluate = s.recordEnds old := by
    unfold State.lateEvaluate
    rw [s.recordEnds_upcoming old, hr]
    exact if_neg (by simp [he])
  rw [State.frameRecords_eq, hl, State.onFtm_ftm, hf]
  simp only [Ftm.moveRecords, hr, Option.map_some]

theorem State.frameRecords_opened {r : FrameRec} (hr : s.ftm.upcoming = some r) (ho : r.state = .opened)
    (old : Option FrameNo) : ∃ e, s.evaluate.ftm.upcoming = some e ∧ (s.frameRecords old).ftm.scanning =
      some { e with state := .scanning, start := s.ftm.sF, flags := { e.flags with lateEval := true } } := by
  obtain ⟨_, _, _, hf⟩ := s.recordEnds_scan old
  have w := s.recordEnds_within old
  have hu := (s.recordEnds_upcoming old).trans hr
  have hn : (s.recordEnds old).now = s.now := congrArg Lrx.tt (w.lrx.resolve_left (by decide))
  have hm := w.mou.resolve_left (by decide)
  have hl := w.lsu.resolve_left (by decide)
  refine ⟨_, State.evaluate_upcoming hr ho, ?_⟩
  rw [State.frameRecords_eq]
  have late : (s.recordEnds old).lateEvaluate =
      (s.recordEnds old).evaluate.onUpcoming fun r => { r with flags := { r.flags with lateEval := true } } := by
    unfold State.lateEvaluate
    rw [hu]
    exact if_pos ho
  have hs : (s.recordEnds old).evaluate.ftm = { (s.recordEnds old).ftm with
      upcoming := some (evalRecord r s.now s.mou.history s.lsu.written) } := by
    rw [State.evaluate_eq hu ho, hn, hm, hl]
  rw [late, State.onFtm_ftm, State.onUpcoming, State.onFtm_ftm, hs, hf]
  rfl

/-- The part of the statement on the frame records. -/
theorem State.frameRecords_done {r : FrameRec} (h : s.ftm.scanning = some r) (old : Option FrameNo) :
    (s.frameRecords old).ftm.done = some { r with
      state := .done
      flags := { r.flags with
        cutA := r.flags.cutA || decide ((s.panel .a).scan = .active), cutB := r.flags.cutB || decide ((s.panel .b).scan = .active)
        incomplete := r.flags.incomplete || (decide ((s.panel .a).scan = .active) && decide (0 < r.missing.a))
          || (decide ((s.panel .b).scan = .active) && decide (0 < r.missing.b)) } } := by
  obtain ⟨_, hl⟩ := (s.recordEnds old).lateEvaluate_ftm
  rw [State.frameRecords_eq, State.onFtm_ftm, hl]
  refine (State.recordEnds_done h old).trans ?_
  rw [FrameRec.cutIf_a, FrameRec.cutIf_b]

end Sys2Proof.Machine
end

section
/-! The picture path at a frame start: the tables in force, the contexts swept, the panels begun and their first lines (R79, R87,
R92 to R98). -/

namespace Sys2Proof.Machine

open Sys2Proof

variable {s : State} {p q : Side} {F : FrameNo}

/-! ### The tables in force (R79) -/

/-- A panel as its written values come into force (R79). -/
def PanelState.entered (x : PanelState) : PanelState :=
  { x with inForce := x.written, ring := if x.reshapes = true then [] else x.ring }

theorem State.panelInForce_same (s : State) (p : Side) : (s.panelInForce p).panel p = (s.panel p).entered := by
  unfold State.panelInForce PanelState.entered
  dsimp only
  split
  · cases p <;> rfl
  · exact State.panel_onPanel_same _ _ _

theorem State.panelInForce_other (s : State) (h : q ≠ p) : (s.panelInForce p).panel q = s.panel q := by
  unfold State.panelInForce
  dsimp only
  split <;> exact State.panel_onPanel_other _ _ h

/-- A panel's new geometry frees the contexts whose target includes it (R79). -/
theorem State.panelInForce_contexts (s : State) (p : Side) : (s.panelInForce p).pxp.contexts =
    s.pxp.contexts.map (Option.filter fun c => !((s.panel p).reshapes && c.target.includes p)) := by
  unfold State.panelInForce
  dsimp only
  by_cases hr : (s.panel p).reshapes = true
  · rw [if_pos hr, hr]
    refine congrArg (Vector.map · s.pxp.contexts) (funext fun c => ?_)
    cases c with
    | none => rfl
    | some c => cases h : c.target.includes p <;> simp [Option.filter, h]
  · rw [if_neg hr]
    refine (Vector.map_id' _).symm.trans (congrArg (Vector.map · s.pxp.contexts) (funext fun c => ?_))
    cases c with
    | none => rfl
    | some c => simp [Option.filter, hr]

/-! ### The contexts swept (R87) -/

/-- The context's frame is neither the new scan frame nor the one after (R87). -/
def SliceCtx.strays (c : SliceCtx) (F : FrameNo) : Bool := decide (c.frame ≠ F ∧ c.frame ≠ F + 1)

/-- A panel with a number of malformed slices counted. -/
def PanelState.malformedBy (x : PanelState) (n : Nat) : PanelState := { x with malformedSlices := satInc^[n] x.malformedSlices }

/-- The context holds a slice for the panel that strays (R87). -/
def strayFor (F : FrameNo) (p : Side) (k : Option SliceCtx) : Bool := k.any fun c => c.strays F && c.target.includes p

theorem State.countMalformed_panel (s : State) (t : Target) (p : Side) :
    (s.countMalformed t).panel p = (s.panel p).malformedBy (bit (t.includes p)) := by
  cases t with
  | both => cases p <;> rfl
  | one q => cases p <;> cases q <;> rfl

theorem State.sweepContext_kept (hF : s.ftm.F = F) {i : Fin 4}
    (h : (s.pxp.contexts[i]).filter (fun c => !c.strays F) = s.pxp.contexts[i]) : s.sweepContext i = s := by
  unfold State.sweepContext
  split
  · rename_i c hc
    rw [hc, Option.filter_eq_some_iff] at h
    refine if_pos ?_
    obtain ⟨-, hs⟩ := h
    simp only [SliceCtx.strays, Bool.not_eq_true', decide_eq_false_iff_not] at hs
    rw [hF]
    tauto
  · rfl

theorem State.sweepContext_aborts (hF : s.ftm.F = F) {i : Fin 4} {c : SliceCtx} (hc : s.pxp.contexts[i] = some c)
    (hs : c.strays F = true) : s.sweepContext i = (s.setCtx i none).countMalformed c.target := by
  have ha : s.abortCtx i = (s.setCtx i none).countMalformed c.target := by
    unfold State.abortCtx
    rw [hc]
  have hn : ¬ (c.frame = s.ftm.F ∨ c.frame = s.ftm.F + 1) := by
    rw [hF]
    simpa [SliceCtx.strays] using hs
  unfold State.sweepContext
  rw [hc, ← ha]
  exact if_neg hn

theorem State.countMalformed_contexts (s : State) (t : Target) : (s.countMalformed t).pxp.contexts = s.pxp.contexts := by
  cases t <;> rfl

theorem State.sweepContext_contexts (hF : s.ftm.F = F) (i j : Fin 4) : (s.sweepContext i).pxp.contexts[j] =
    if j = i then (s.pxp.contexts[i]).filter (fun c => !c.strays F) else s.pxp.contexts[j] := by
  cases hc : s.pxp.contexts[i] with
  | none =>
    rw [State.sweepContext_kept hF (by rw [hc]; rfl)]
    split
    · rename_i h
      rw [h, hc]
      rfl
    · rfl
  | some c =>
    by_cases hs : c.strays F = true
    · rw [State.sweepContext_aborts hF hc hs, State.countMalformed_contexts]
      show (s.pxp.contexts.set i none)[j] = _
      split
      · rename_i h
        subst h
        rw [Option.filter_some, hs]
        simp
      · rename_i h
        exact Vector.getElem_set_ne _ _ (fun e => h (Fin.ext e.symm))
    · rw [State.sweepContext_kept hF (by rw [hc]; simp [hs])]
      split
      · rename_i h
        rw [h, hc, Option.filter_some, if_pos (by simp [hs])]
      · rfl

theorem State.sweepContext_panel (hF : s.ftm.F = F) (i : Fin 4) (p : Side) :
    (s.sweepContext i).panel p = (s.panel p).malformedBy (bit (strayFor F p s.pxp.contexts[i])) := by
  cases hc : s.pxp.contexts[i] with
  | none => rw [State.sweepContext_kept hF (by rw [hc]; rfl)]; rfl
  | some c =>
    by_cases hs : c.strays F = true
    · rw [State.sweepContext_aborts hF hc hs, State.countMalformed_panel]
      simp only [strayFor, Option.any_some, hs, Bool.true_and]
      rfl
    · rw [State.sweepContext_kept hF (by rw [hc]; simp [hs])]
      simp only [strayFor, Option.any_some, hs, Bool.false_and]
      rfl

theorem PanelState.malformedBy_add (x : PanelState) (m n : Nat) : (x.malformedBy n).malformedBy m = x.malformedBy (m + n) := by
  unfold PanelState.malformedBy
  rw [Function.iterate_add_apply]

/-- The sweep of several contexts, each once (R87). -/
theorem State.sweepContexts_spec {xs : List (Fin 4)} (hn : xs.Nodup) (hF : s.ftm.F = F) :
    (∀ j : Fin 4, (xs.foldl State.sweepContext s).pxp.contexts[j] =
      if j ∈ xs then (s.pxp.contexts[j]).filter (fun c => !c.strays F) else s.pxp.contexts[j])
    ∧ ∀ p, (xs.foldl State.sweepContext s).panel p =
      (s.panel p).malformedBy (xs.countP fun i => strayFor F p s.pxp.contexts[i]) := by
  induction xs generalizing s with
  | nil => exact ⟨fun _ => rfl, fun _ => rfl⟩
  | cons i xs ih =>
    obtain ⟨hi, hn⟩ := List.nodup_cons.mp hn
    have hF' : (s.sweepContext i).ftm.F = F := by rw [(s.sweepContext_within i).ftm.resolve_left (by decide)]; exact hF
    obtain ⟨h1, h2⟩ := ih hn hF'
    refine ⟨fun j => ?_, fun p => ?_⟩
    · rw [List.foldl_cons, h1, State.sweepContext_contexts hF]
      by_cases hj : j = i
      · subst hj
        simp [hi]
      · simp [hj]
    · have hc : (xs.countP fun k => strayFor F p (s.sweepContext i).pxp.contexts[k])
          = xs.countP fun k => strayFor F p s.pxp.contexts[k] := by
        refine List.countP_congr fun k hk => ?_
        rw [State.sweepContext_contexts hF, if_neg (fun e : k = i => hi (e ▸ hk))]
      rw [List.foldl_cons, h2, State.sweepContext_panel hF, PanelState.malformedBy_add, hc, List.countP_cons]
      rfl

end Sys2Proof.Machine
end

section
/-! The panels begun at a frame start, and their first lines (R81, R92 to R98). -/

namespace Sys2Proof.Machine

open Sys2Proof

variable {s : State} {p q : Side} {F : FrameNo}

/-! ### A panel begun (R94, R98) -/

/-- A panel at a frame start before its scan begins or it is OFF (R79, R87, R92, R98); `n` is its number of contexts swept. -/
def PanelState.readied (x : PanelState) (n : Nat) (old : Option FrameNo) (F : FrameNo) : PanelState :=
  { (x.entered.malformedBy n).rebase old F with strobe := x.strobe.cleared }

theorem StrobeState.cleared_eq (x : StrobeState) : x.cleared = if x = .held then .held else .idle := by cases x <;> rfl

theorem PanelState.readied_eq (x : PanelState) (n : Nat) (old : Option FrameNo) (F : FrameNo) : x.readied n old F = { x with
    inForce := x.written
    ring := if x.reshapes then [] else x.ring.filter fun r => decide (r.frame = F ∧ r.line ≤ 79)
    malformedSlices := satInc^[n] x.malformedSlices, strobe := if x.strobe = .held then .held else .idle
    staleLines := satAdd x.staleLines
      (if x.reshapes then 0 else x.ring.countP fun r => decide (r.frame ≠ F ∧ some r.frame ≠ old)) } := by
  unfold PanelState.readied PanelState.rebase PanelState.malformedBy PanelState.entered
  rw [StrobeState.cleared_eq]
  cases x.reshapes with
  | true => rfl
  | false => simp only [Bool.false_eq_true, if_false, List.countP_eq_length_filter, Bool.decide_and]; rfl

theorem before_iff {a b : Time} : before a b = true ↔ 0 < (b - a).toInt := by
  rw [← not_iff_not, Bool.not_eq_true, ← Bool.not_eq_true', not_before_iff]
  exact not_lt.symm

theorem PanelState.scheduleStrobe_eq (x : PanelState) (c : Nat) (sF sNext : Time) : x.scheduleStrobe c sF sNext =
    let at_ := sF + BitVec.ofNat 32 x.inForce.strobeOffset
    { x with
      ceiling := c
      strobe := if x.strobe ≠ .held ∧ 0 < (sNext - at_).toInt then .pending else x.strobe
      strobeAt := if x.strobe ≠ .held ∧ 0 < (sNext - at_).toInt then at_ else x.strobeAt
      strobeWidth := if x.strobe ≠ .held ∧ 0 < (sNext - at_).toInt then min x.inForce.brightness c * x.inForce.maxWidth / 1023
        else x.strobeWidth } := by
  unfold PanelState.scheduleStrobe
  by_cases hh : x.strobe = .held
  · simp [hh]
  · by_cases hb : before (sF + BitVec.ofNat 32 x.inForce.strobeOffset) sNext = true
    · simp only [hh, hb, before_iff.mp hb, ne_eq, not_false_eq_true, and_self, if_true, if_false]
      rfl
    · simp only [hh, hb, mt before_iff.mpr hb, ne_eq, not_false_eq_true, and_false, if_false, Bool.false_eq_true]

/-! ### The first line (R93, R95) -/

theorem PanelState.moveTo_zero {x : PanelState} (F : FrameNo) (h : x.pos = 0) : x.moveTo (some F) 0 = x := by
  unfold PanelState.moveTo keepWindow
  simp only [Nat.zero_le, decide_true, List.filter_true]
  rw [← h]

theorem PanelState.firstSent_eq {x : PanelState} (F : FrameNo) (h : x.pos = 0) : x.lineSent (some F) 0 = { x with
    lastLine := some (x.lineFor (some F) 0), missingLines := satAdd x.missingLines (bit (x.missingAt (some F) 0)) } := by
  unfold PanelState.lineSent
  rw [PanelState.moveTo_zero F h]

theorem findLine_some (F : FrameNo) (ring : List RingLine) (n : Int) :
    findLine (some F) ring n = ring.find? fun r => decide (r.frame = F ∧ (r.line : Int) = n) := by
  unfold findLine
  simp only [Option.some.injEq]

theorem State.firstLine_panel (s : State) (p : Side) : (s.firstLine p).panel p =
    if (s.panel p).scan = .active then (s.panel p).lineSent s.ftm.scanFrame 0 else s.panel p := by
  unfold State.firstLine
  split
  · rw [State.panel, s.outputLine_pxp]
    exact State.panel_onPanel_same _ _ _
  · rfl

/-- The first line of a panel misses its source (R95). -/
def State.firstMisses (s : State) (p : Side) : Bool :=
  decide ((s.panel p).scan = .active) && ((s.panel p).moveTo s.ftm.scanFrame 0).missingAt s.ftm.scanFrame 0

/-- A first line changes its panel, and counts a missing line in the SCANNING record (R95). -/
theorem State.firstLine_rest (s : State) (p : Side) : (s.firstLine p).evu = s.evu ∧ (s.firstLine p).pxp.contexts = s.pxp.contexts
    ∧ (s.firstLine p).ftm = { s.ftm with
      scanning := s.ftm.scanning.map fun r => if s.firstMisses p = true then r.addMissing p else r } := by
  unfold State.firstLine State.firstMisses
  split
  · rename_i h
    rw [State.outputLine_eq]
    refine ⟨rfl, rfl, ?_⟩
    simp only [h, decide_true, Bool.true_and]
    rfl
  · rename_i h
    refine ⟨rfl, rfl, ?_⟩
    simp [h]

/-! ### The panels of a frame start -/

/-- The picture path before the panels begin: tables in force and contexts swept (R79, R87). -/
def State.swept (s : State) : State :=
  ([0, 1, 2, 3] : List (Fin 4)).foldl State.sweepContext ((s.panelInForce .a).panelInForce .b)

/-- The picture path once the panels have begun (R94). -/
def State.begun (s : State) (old : Option FrameNo) : State := (s.swept.panelStart .a old).panelStart .b old

theorem State.picturesStart_eq (s : State) (old : Option FrameNo) :
    s.picturesStart old = (((s.begun old).namePanels).firstLine .a).firstLine .b := rfl

/-- The contexts once the tables are in force (R79). -/
def State.kept (s : State) : Vector (Option SliceCtx) 4 := ((s.panelInForce .a).panelInForce .b).pxp.contexts

/-- How many slices of a panel the sweep counts (R87). -/
def State.sweptFor (s : State) (F : FrameNo) (p : Side) : Nat :=
  ([0, 1, 2, 3] : List (Fin 4)).countP fun i => strayFor F p s.kept[i]

theorem State.swept_within (s : State) : Within [.pxp] s s.swept :=
  ((s.panelInForce_within _).trans (State.panelInForce_within _ _)).trans
    (Within.foldl (fun _ _ => State.sweepContext_within _ _) _ _)

theorem State.entered_panel (s : State) (p : Side) : ((s.panelInForce .a).panelInForce .b).panel p = (s.panel p).entered := by
  cases p with
  | a => rw [State.panelInForce_other _ (by decide : Side.a ≠ .b), State.panelInForce_same]
  | b => rw [State.panelInForce_same, State.panelInForce_other _ (by decide : Side.b ≠ .a)]

theorem State.swept_spec (hF : s.ftm.scanFrame = some F) : (∀ p, s.swept.panel p = (s.panel p).entered.malformedBy (s.sweptFor F p))
    ∧ s.swept.pxp.contexts = s.kept.map (Option.filter fun c => !c.strays F) := by
  have hu : ((s.panelInForce .a).panelInForce .b).ftm.F = F := by
    rw [((s.panelInForce_within .a).trans (State.panelInForce_within _ .b)).ftm.resolve_left (by decide), Ftm.F, hF]
    rfl
  have he := s.entered_panel
  unfold State.swept State.sweptFor State.kept
  generalize (s.panelInForce .a).panelInForce .b = u at hu he ⊢
  obtain ⟨hc, hp⟩ := State.sweepContexts_spec (xs := [0, 1, 2, 3]) (by decide) hu
  generalize ([0, 1, 2, 3] : List (Fin 4)).foldl State.sweepContext u = v at hc hp ⊢
  refine ⟨fun p => by rw [← he p]; exact hp p, ?_⟩
  ext1 i hi
  have hm : (⟨i, hi⟩ : Fin 4) ∈ ([0, 1, 2, 3] : List (Fin 4)) := by
    generalize (⟨i, hi⟩ : Fin 4) = k
    revert k
    decide
  rw [Vector.getElem_map]
  exact (hc ⟨i, hi⟩).trans (if_pos hm)

theorem State.begun_panel (s : State) (old : Option FrameNo) (p : Side) :
    (s.begun old).panel p = (s.swept.panelStart p old).panel p := by
  unfold State.begun
  generalize s.swept = u
  cases p with
  | a => exact State.panelStart_other _ old (by decide)
  | b =>
    unfold State.panelStart
    rw [State.panel_onPanel_same, State.panel_onPanel_same]
    rfl

theorem State.begins_swept (hF : s.ftm.scanFrame = some F) (p : Side) : s.swept.begins p =
    ((s.panel p).written.enable && decide (0 < (s.pmg.loads[if p = .a then (0 : Fin 8) else 1]).grant)) := by
  unfold State.begins State.powered
  rw [(State.swept_spec hF).1 p, s.swept_within.pmg.resolve_left (by decide)]
  generalize s.sweptFor F p = n
  have hl : Side.load p = if p = .a then (0 : Fin 8) else 1 := by cases p <;> rfl
  exact congrArg (fun i : Fin 8 => (s.panel p).written.enable && decide (0 < (s.pmg.loads[i]).grant)) hl

/-- The shift that a panel scans a frame with: that of the SCANNING record (R94). -/
def State.shiftFor (s : State) (p : Side) : Shift :=
  (s.ftm.scanning.bind fun r => r.shifts.map fun d => d.get p).getD ⟨0, 0⟩

theorem State.shiftFor_eq (s : State) (p : Side) : (s.ftm.scanning.map fun r => r.shiftOr0 p).getD ⟨0, 0⟩ = s.shiftFor p := by
  unfold State.shiftFor
  cases s.ftm.scanning <;> rfl

/-- A panel that has begun a scan, before its first line (R94, R98). -/
def State.scans (s : State) (F : FrameNo) (old : Option FrameNo) (p : Side) : PanelState :=
  ((s.panel p).readied (s.sweptFor F p) old F).beginScan s.osc (s.shiftFor p) (s.pmg.ceilings.get p) s.ftm.sF s.ftm.sNext

theorem State.begun_spec (hF : s.ftm.scanFrame = some F) (old : Option FrameNo) (p : Side) : (s.begun old).panel p =
    if s.swept.begins p = true then s.scans F old p else ((s.panel p).readied (s.sweptFor F p) old F).noScan := by
  have w := s.swept_within
  have hf := w.ftm.resolve_left (by decide)
  have hFF : s.ftm.F = F := by rw [Ftm.F, hF]; rfl
  have ho : s.swept.osc = s.osc := congrArg Clock.osc (w.clock.resolve_left (by decide))
  rw [State.begun_panel, State.panelStart]
  dsimp only
  rw [State.panel_onPanel_same, (State.swept_spec hF).1 p, hf, w.pmg.resolve_left (by decide), ho, State.shiftFor_eq, hFF]
  rfl

theorem PanelState.scheduleStrobe_scan (x : PanelState) (c : Nat) (a b : Time) : (x.scheduleStrobe c a b).scan = x.scan
    ∧ (x.scheduleStrobe c a b).pos = x.pos := by
  rw [PanelState.scheduleStrobe_eq]
  exact ⟨rfl, rfl⟩

theorem State.begun_active (hF : s.ftm.scanFrame = some F) (old : Option FrameNo) (p : Side) :
    ((s.begun old).panel p).scan = .active ↔ s.swept.begins p = true := by
  rw [State.begun_spec hF]
  split
  · rename_i h
    exact iff_of_true (PanelState.scheduleStrobe_scan _ _ _ _).1 h
  · rename_i h
    exact iff_of_false (by simp [PanelState.noScan]) h

end Sys2Proof.Machine
end

section
/-! The picture path after a frame start: panels, contexts, records and the report of a frame without a scan (R70, R79, R87, R92
to R98). -/

namespace Sys2Proof.Machine

open Sys2Proof

variable {s : State} {p : Side} {F : FrameNo}

/-! ### Contexts (R79, R87) -/

/-- The context is freed by a new geometry of a panel of its target (R79). -/
def State.reshapesCtx (s : State) (c : SliceCtx) : Bool :=
  ((s.panel .a).reshapes && decide (c.target ≠ .one .b)) || ((s.panel .b).reshapes && decide (c.target ≠ .one .a))

theorem Target.includes_a (t : Target) : t.includes .a = decide (t ≠ .one .b) := by
  cases t with
  | both => rfl
  | one q => cases q <;> rfl

theorem Target.includes_b (t : Target) : t.includes .b = decide (t ≠ .one .a) := by
  cases t with
  | both => rfl
  | one q => cases q <;> rfl

theorem Target.includes_iff (t : Target) (p : Side) : t.includes p = decide (t = .one p ∨ t = .both) := by
  cases t with
  | both => simp [Target.includes]
  | one q => simp [Target.includes]

theorem filter_filter_option {α : Type} (f g : α → Bool) (k : Option α) :
    (k.filter f).filter g = k.filter fun c => f c && g c := by
  cases k with
  | none => rfl
  | some c => cases hf : f c <;> simp [Option.filter, hf]

theorem State.kept_eq (s : State) : s.kept = s.pxp.contexts.map (Option.filter fun c => !s.reshapesCtx c) := by
  unfold State.kept
  rw [State.panelInForce_contexts, State.panelInForce_contexts, State.panelInForce_other s (by decide : Side.b ≠ .a), Vector.map_map]
  refine congrArg (Vector.map · s.pxp.contexts) (funext fun k => ?_)
  simp only [Function.comp_apply, filter_filter_option, Target.includes_a, Target.includes_b, State.reshapesCtx, Bool.not_or]

theorem toList_four {α : Type} (v : Vector α 4) : v.toList = ([0, 1, 2, 3] : List (Fin 4)).map fun i => v[i] := by
  refine List.ext_getElem (by simp) fun i h1 h2 => ?_
  have hi : i < 4 := by simpa using h1
  interval_cases i <;> rfl

/-- The slices of a panel that the sweep counts: those of other frames that no new geometry has freed (R79, R87). -/
theorem State.sweptFor_eq (s : State) (F : FrameNo) (p : Side) : s.sweptFor F p = s.pxp.contexts.toList.countP fun k =>
    k.any fun c => (!s.reshapesCtx c && c.strays F) && decide (c.target = .one p ∨ c.target = .both) := by
  unfold State.sweptFor
  rw [toList_four, List.countP_map]
  refine List.countP_congr fun i _ => ?_
  rw [s.kept_eq]
  simp only [Fin.getElem_fin, Vector.getElem_map, Function.comp_apply, strayFor]
  cases s.pxp.contexts[i.val] with
  | none => exact .rfl
  | some c => cases hr : s.reshapesCtx c <;> simp [Option.filter, hr, Target.includes_iff]

/-! ### Panels (R81, R92 to R98) -/

/-- The panels before their first lines. -/
theorem State.named_panel (s : State) (old : Option FrameNo) (p : Side) : (s.begun old).namePanels.panel p = (s.begun old).panel p := by
  rw [State.panel, (s.begun old).namePanels_within.pxp.resolve_left (by decide)]
  rfl

theorem State.begun_within (s : State) (old : Option FrameNo) : Within [.pxp] s (s.begun old) := s.panelsBegin_within old

theorem ScanKept.scanFrame {t : State} (k : ScanKept s t) : t.ftm.scanFrame = s.ftm.scanFrame := by
  obtain ⟨_, _, _, h⟩ := k
  rw [h]

theorem State.named_scanFrame (s : State) (old : Option FrameNo) : (s.begun old).namePanels.ftm.scanFrame = s.ftm.scanFrame :=
  ((ScanKept.of_within (s.begun_within old) (by decide)).trans (State.namePanels_scan _)).scanFrame

theorem State.picturesStart_panel (hF : s.ftm.scanFrame = some F) (old : Option FrameNo) (p : Side) :
    (s.picturesStart old).panel p = if s.swept.begins p = true then (s.scans F old p).lineSent (some F) 0
      else ((s.panel p).readied (s.sweptFor F p) old F).noScan := by
  have hn := (s.named_scanFrame old).trans hF
  have hp := s.named_panel old
  have sent : ∀ v : State, v.ftm.scanFrame = some F → v.panel p = (s.begun old).panel p → (v.firstLine p).panel p =
      if s.swept.begins p = true then (s.scans F old p).lineSent (some F) 0
        else ((s.panel p).readied (s.sweptFor F p) old F).noScan := by
    intro v hv hvp
    rw [State.firstLine_panel, hvp, hv]
    simp only [State.begun_active hF old p]
    rw [State.begun_spec hF]
    split <;> rfl
  rw [State.picturesStart_eq]
  generalize (s.begun old).namePanels = n at hn hp
  cases p with
  | a =>
    rw [State.firstLine_other _ (by decide : Side.a ≠ .b)]
    exact sent n hn (hp .a)
  | b =>
    refine sent _ ((State.firstLine_scan n .a).scanFrame.trans hn) ?_
    rw [State.firstLine_other _ (by decide : Side.b ≠ .a)]
    exact hp .b

theorem State.begun_contexts (s : State) (old : Option FrameNo) : (s.begun old).pxp.contexts = s.swept.pxp.contexts := by
  unfold State.begun
  generalize s.swept = u
  rfl

theorem State.picturesStart_contexts (hF : s.ftm.scanFrame = some F) (old : Option FrameNo) : (s.picturesStart old).pxp.contexts =
    s.pxp.contexts.map (Option.filter fun c => !s.reshapesCtx c && !c.strays F) := by
  rw [State.picturesStart_eq, (State.firstLine_rest _ _).2.1, (State.firstLine_rest _ _).2.1,
    (s.begun old).namePanels_within.pxp.resolve_left (by decide), s.begun_contexts, (State.swept_spec hF).2, s.kept_eq, Vector.map_map]
  refine congrArg (Vector.map · s.pxp.contexts) (funext fun k => ?_)
  simp only [Function.comp_apply, filter_filter_option]

/-! ### The records (R70, R95) -/

/-- A panel's first line misses its source at a frame start (R95). -/
def State.misses (s : State) (F : FrameNo) (old : Option FrameNo) (p : Side) : Bool :=
  s.swept.begins p && (s.scans F old p).missingAt (some F) 0

theorem State.scans_pos (s : State) (F : FrameNo) (old : Option FrameNo) (p : Side) : (s.scans F old p).pos = 0 :=
  (PanelState.scheduleStrobe_scan _ _ _ _).2

theorem State.firstMisses_eq (hF : s.ftm.scanFrame = some F) (old : Option FrameNo) {v : State} (hv : v.ftm.scanFrame = some F)
    (hp : v.panel p = (s.begun old).panel p) : v.firstMisses p = s.misses F old p := by
  unfold State.firstMisses State.misses
  rw [hp, hv]
  cases hb : s.swept.begins p with
  | true =>
    rw [decide_eq_true ((State.begun_active hF old p).mpr hb), State.begun_spec hF, if_pos hb, PanelState.moveTo_zero F
      (s.scans_pos F old p)]
  | false =>
    rw [decide_eq_false (mt (State.begun_active hF old p).mp (Bool.eq_false_iff.mp hb))]
    rfl

/-- The frame timer and the event unit after the first lines. -/
theorem State.picturesStart_rest (hF : s.ftm.scanFrame = some F) (old : Option FrameNo) :
    (s.picturesStart old).evu = (s.begun old).namePanels.evu ∧ (s.picturesStart old).ftm = { (s.begun old).namePanels.ftm with
      scanning := (s.begun old).namePanels.ftm.scanning.map fun r =>
        { r with missing := ⟨r.missing.a + bit (s.misses F old .a), r.missing.b + bit (s.misses F old .b)⟩ } } := by
  have hn := (s.named_scanFrame old).trans hF
  have hp := s.named_panel old
  rw [State.picturesStart_eq]
  generalize (s.begun old).namePanels = n at hn hp
  have ha := State.firstMisses_eq hF old hn (hp .a)
  have hb := State.firstMisses_eq hF old (v := n.firstLine .a) (p := .b) ((State.firstLine_scan n .a).scanFrame.trans hn)
    ((State.firstLine_other _ (by decide : Side.b ≠ .a)).trans (hp .b))
  obtain ⟨ea, -, fa⟩ := n.firstLine_rest .a
  obtain ⟨eb, -, fb⟩ := (n.firstLine .a).firstLine_rest .b
  refine ⟨eb.trans ea, ?_⟩
  rw [fb, hb, fa, ha]
  simp only [Option.map_map]
  refine congrArg (fun x => ({ n.ftm with scanning := x } : Ftm)) (congrArg (Option.map · n.ftm.scanning) (funext fun r => ?_))
  cases s.misses F old .a <;> cases s.misses F old .b <;> rfl

section
variable {v : State} {f : Side → Bool}

/-- The panels named: a frame with a scan awaits their completions, one without is DONE at once (R70 step 4). -/
theorem State.namePanels_some (w : Within [.pxp] s v) (hf : ∀ p, (v.panel p).scan = .active ↔ f p = true)
    (h : f .a = true ∨ f .b = true) :
    v.namePanels.evu = s.evu ∧ v.namePanels.ftm = { s.ftm with pendingPanels := ⟨f .a, f .b⟩ } := by
  have active : ∀ p, decide ((v.panel p).scan = .active) = f p := fun p => Bool.eq_iff_iff.mpr (decide_eq_true_iff.trans (hf p))
  have hn : v.namePanels = v.onFtm fun t => { t with pendingPanels := ⟨f .a, f .b⟩ } := by
    unfold State.namePanels
    simp only [active]
    exact if_pos (by simpa using h)
  rw [hn, State.onFtm_ftm, w.ftm.resolve_left (by decide)]
  exact ⟨w.evu.resolve_left (by decide), rfl⟩

theorem State.namePanels_none (w : Within [.pxp] s v) (hf : ∀ p, (v.panel p).scan = .active ↔ f p = true) {r : FrameRec}
    (ha : f .a = false) (hb : f .b = false) (hr : s.ftm.scanning = some r) :
    let done : FrameRec := { r with state := .done }
    v.namePanels.ftm = { s.ftm with pendingPanels := ⟨false, false⟩, scanning := none, done := some done }
      ∧ v.namePanels.evu = s.evu.take .frameReport done.report s.now s.timeUnset := by
  have active : ∀ p, decide ((v.panel p).scan = .active) = f p := fun p => Bool.eq_iff_iff.mpr (decide_eq_true_iff.trans (hf p))
  have he := w.evu.resolve_left (by decide)
  have hl := w.lrx.resolve_left (by decide)
  have hs : v.ftm = s.ftm := w.ftm.resolve_left (by decide)
  have hn : v.namePanels = (v.onFtm fun t => { t with pendingPanels := ⟨false, false⟩ }).finishRecord := by
    unfold State.namePanels
    simp only [active, ha, hb, Bool.or_self, Bool.false_eq_true, if_false]
  rw [hn, State.finishRecord_done (r := r) (by rw [State.onFtm_ftm, hs]; exact hr), State.onFtm_ftm, hs]
  refine ⟨rfl, ?_⟩
  rw [← he]
  unfold State.timeUnset State.now
  rw [State.onFtm_lrx, hl]
  rfl

end

end Sys2Proof.Machine
end

section
/-! The frame start settled: numbers, schedule, generators and lock machine, the records, and the pictures (R62 to R98). -/

namespace Sys2Proof.Machine

open Sys2Proof

variable {s t : State}

theorem exec_frameStart (hh : s.held = false) (hd : s.frameStartDue = true) : exec .frameStart s = .next (s.edged State.frameStart) := by
  show Host.Outcome.next (s.live _) = _
  rw [State.live_of_free _ hh, if_pos hd]

/-- What a frame start leaves of the other blocks. -/
theorem Within.restore_frame (w : Within frameParts s t) : { t with
    stu := s.stu, ftm := s.ftm, pxp := s.pxp, mou := s.mou, lsu := s.lsu, auu := s.auu, pte := s.pte, pmg := s.pmg
    evu := s.evu } = s := by
  have hp := w.pending
  have hh := w.hold
  have hc := w.clock.resolve_left (by decide)
  have hl := w.lrx.resolve_left (by decide)
  have hx := w.ltx.resolve_left (by decide)
  have hm := w.mrs.resolve_left (by decide)
  have hf := w.cfl.resolve_left (by decide)
  cases s
  cases t
  simp only at hp hh hc hl hx hm hf
  simp only [hp, hh, hc, hl, hx, hm, hf]

theorem State.edgedStart_within (s : State) : Within frameParts s (s.edged State.frameStart) :=
  s.edged_within s.frameStart_within (by decide)

/-- The rising edges that a row hands on touch the motion unit alone. -/
theorem State.edged_rest (s : State) (f : State → State) : Within [.mou] (f s) (s.edged f) := (f s).handEdges_within _ _

/-- The frame timer after a frame start, but for the records of the frame that ends and of the one that begins. -/
theorem State.frameStart_ftm (s : State) : ∃ a d p, (s.edged State.frameStart).ftm =
    { s.ftm.numbered s.now with
      scanning := a, done := d, pendingPanels := p
      upcoming := some (FrameRec.fresh (s.ftm.nextNumber + 1) (s.ftm.numbered s.now).sNext)
      gens := (s.ftm.numbered s.now).startGens.gens, pulseEnd := some (s.osc + 246) } := by
  obtain ⟨_, _, _, hf⟩ := s.framed_ftm
  obtain ⟨a, d, p, hr⟩ := s.framed.refreshLoads_scan
  refine ⟨a, d, p, ?_⟩
  rw [(s.edged_rest State.frameStart).ftm.resolve_left (by decide), s.frameStart_eq, hr, hf]

theorem State.frameStart_stu (s : State) : (s.edged State.frameStart).stu =
    { s.stu with lines := s.stu.lines.map fun l => { l with pulse := decide (l.source = .frameStart) } } := by
  have w : Within [.lsu, .pxp, .ftm, .evu] s
      (((s.frameNumbers.frameRecords s.ftm.scanFrame).picturesStart s.ftm.scanFrame).onFtm Ftm.startGens) :=
    (((s.frameNumbers_within.mono (by decide)).andThen (State.frameRecords_within _ _) (by decide)).andThen
      (State.picturesStart_within _ _) (by decide)).andThen (State.onFtm_within _ _) (by decide)
  have hu := w.stu.resolve_left (by decide)
  rw [(s.edged_rest State.frameStart).stu.resolve_left (by decide), s.frameStart_eq,
    s.framed.refreshLoads_within.stu.resolve_left (by decide)]
  unfold State.framed
  generalize ((s.frameNumbers.frameRecords s.ftm.scanFrame).picturesStart s.ftm.scanFrame).onFtm Ftm.startGens = v at hu
  rw [← hu]
  rfl

theorem State.picturesStart_inForce {F : FrameNo} (hF : s.ftm.scanFrame = some F) (old : Option FrameNo) (p : Side) :
    ((s.picturesStart old).panel p).inForce = (s.panel p).written := by
  rw [State.picturesStart_panel hF]
  split
  · unfold State.scans PanelState.beginScan
    rw [PanelState.scheduleStrobe_eq]
    rfl
  · rfl

theorem State.frameStart_inForce (s : State) (p : Side) : ((s.edged State.frameStart).panel p).inForce = (s.panel p).written := by
  have hF : (s.frameNumbers.frameRecords s.ftm.scanFrame).ftm.scanFrame = some s.ftm.nextNumber := by
    rw [State.frameRecords_scanFrame, s.frameNumbers_ftm]
    rfl
  have hw : ((s.frameNumbers.frameRecords s.ftm.scanFrame).panel p).written = (s.panel p).written :=
    ((PanelsKept.of_within s.frameNumbers_within (by decide)).trans (State.frameRecords_panels _ _)).written p
  have hp : s.framed.panel p = ((s.frameNumbers.frameRecords s.ftm.scanFrame).picturesStart s.ftm.scanFrame).panel p := by
    unfold State.framed
    generalize (s.frameNumbers.frameRecords s.ftm.scanFrame).picturesStart s.ftm.scanFrame = v
    rfl
  rw [(PanelsKept.of_within (s.edged_rest State.frameStart) (by decide)).inForce, s.frameStart_eq, s.framed.refreshLoads_calm.inForce, hp,
    State.picturesStart_inForce hF, hw]

theorem State.frameStart_settled (s : State) : (s.edged State.frameStart).requestChanged = false := by
  refine OwnersKept.requestChanged (s := s.frameStart) (.of_sensors (State.handEdges_work s.frameStart _ _)) ?_
  rw [s.frameStart_eq]
  exact s.framed.refreshLoads_requestChanged

/-! ### The pictures (R79 to R98) -/

section
variable (x : PanelState) (n osc ceiling : Nat) (sh : Shift) (old : Option FrameNo) (F : FrameNo) (sF sNext : Time)

/-- A panel with a scan begun, spelled out (R94, R98). -/
theorem PanelState.beginScan_eq : x.beginScan osc sh ceiling sF sNext =
    let at_ := sF + BitVec.ofNat 32 x.inForce.strobeOffset
    { x with
      scan := .active, pos := 0, scanStart := osc, shift := sh, ceiling := ceiling
      strobe := if x.strobe ≠ .held ∧ 0 < (sNext - at_).toInt then .pending else x.strobe
      strobeAt := if x.strobe ≠ .held ∧ 0 < (sNext - at_).toInt then at_ else x.strobeAt
      strobeWidth := if x.strobe ≠ .held ∧ 0 < (sNext - at_).toInt then min x.inForce.brightness ceiling * x.inForce.maxWidth / 1023
        else x.strobeWidth } := PanelState.scheduleStrobe_eq _ _ _ _

/-- The source of a panel's first line: the ring's line dy of the scan frame (R95). -/
def PanelState.firstSource : Option RingLine := x.ring.find? fun r => decide (r.frame = F ∧ (r.line : Int) = x.shift.dy)

/-- The first line's source is inside the picture (R95). -/
def PanelState.FirstInside : Prop := 0 ≤ x.shift.dy ∧ x.shift.dy < x.inForce.height

theorem PanelState.missingAt_first : x.missingAt (some F) 0 = true ↔ x.FirstInside ∧ x.firstSource F = none := by
  have h0 : ((0 : Nat) : Int) + x.shift.dy = x.shift.dy := by simp
  unfold PanelState.missingAt PanelState.FirstInside PanelState.firstSource
  dsimp only
  rw [h0, findLine_some]
  simp

theorem PanelState.lineFor_first_outside (h : ¬ x.FirstInside) : x.lineFor (some F) 0 = List.replicate x.inForce.width .black := by
  refine PanelState.lineFor_outside ?_
  rw [show ((0 : Nat) : Int) + x.shift.dy = x.shift.dy by simp]
  exact h

theorem PanelState.lineFor_first_found {r : RingLine} (h : x.FirstInside) (hf : x.firstSource F = some r) :
    x.lineFor (some F) 0 = shiftLine x.inForce.width x.shift.dx r.pixels := by
  have h0 : ((0 : Nat) : Int) + x.shift.dy = x.shift.dy := by simp
  refine PanelState.lineFor_found (by rw [h0]; exact h) ?_
  rw [findLine_some, h0]
  exact hf

theorem PanelState.lineFor_first_missing (h : x.FirstInside) (hf : x.firstSource F = none) : x.lineFor (some F) 0 =
    if x.inForce.repeatFill then x.lastLine.getD (List.replicate x.inForce.width .black) else List.replicate x.inForce.width .black := by
  have h0 : ((0 : Nat) : Int) + x.shift.dy = x.shift.dy := by simp
  refine PanelState.lineFor_missing (by rw [h0]; exact h) ?_
  rw [findLine_some, h0]
  exact hf

end

/-- Settles O36, by its four parts: the schedule, the numbers' events, the pictures and the records. -/
theorem frameStartNumbersAndPlacesFrames : Obligations.FrameStartNumbersAndPlacesFrames := by
  refine ⟨?_, ?_, ?_, ?_⟩
  · intro s hh hd F next n
    have hFn : s.ftm.nextNumber = F := s.ftm.nextNumber_eq
    obtain ⟨a, d, q, hf⟩ := s.frameStart_ftm
    have hg : ∀ g, (s.edged State.frameStart).ftm.gens.get g = (s.ftm.gens.get g).frameStart F s.now next := fun g => by
      rw [hf, ← hFn]
      cases g <;> rfl
    refine ⟨_, exec_frameStart hh hd, ?_, by rw [hf]; rfl, by rw [hf]; rfl, by rw [hf]; rfl, by rw [hf]; rfl, by rw [hf]; rfl,
      by rw [hf]; rfl, by rw [hf]; rfl, ?_, ?_, s.frameStart_stu, s.frameStart_inForce, by rw [hf], ?_, s.frameStart_settled, rfl,
      s.edgedStart_within.restore_frame⟩
    · rw [hf, ← hFn]; rfl
    · rw [hf, ← hFn]; rfl
    · intro g x base at_ schedules late one becomes
      have hbase : ∀ {y}, (s.ftm.gens.get g).frameStart F s.now next = y → becomes y := fun h => (hg g).trans h
      refine ⟨fun hx hs => hbase ?_, fun hx hs hl => hbase ?_, fun hx hs hl => hbase ?_, fun hx hs => hbase ?_,
        fun hx hs hl => hbase ?_, fun hx hs hl => hbase ?_, fun hx hs => hbase ?_, fun hx hs => hbase ?_⟩
      · exact (Generator.frameStart_base hs).trans (by rw [hx]; exact congrArg (fun e => ({ base with state := e } : Generator)) hx.symm)
      · exact (Generator.frameStart_late hs (.inr hl)).trans (by rw [hx])
      · exact (Generator.frameStart_schedules hs (by rw [hx]; decide) hl).trans (by rw [hx]; rfl)
      · exact (Generator.frameStart_base hs).trans (by rw [hx])
      · exact (Generator.frameStart_late hs (.inr hl)).trans (by rw [hx])
      · exact (Generator.frameStart_schedules hs (by rw [hx]; decide) hl).trans (by rw [hx]; rfl)
      · exact (Generator.frameStart_base hs).trans (by rw [hx])
      · exact (Generator.frameStart_late hs (.inl hx)).trans (by rw [hx])
    · rw [hf]; rfl
  · intro s F numbered unlocks
    have hFn : s.ftm.nextNumber = F := s.ftm.nextNumber_eq
    have hn : s.reportRenumber.evu = numbered := s.reportRenumber_takes
    rw [s.frameNumbers_evu, hn, hFn]
    rfl
  · intro s old F hF u begins reshapes reshaped strays swept shift ring found inside misses black line
    have hb : ∀ p, s.swept.begins p = begins p := fun p => State.begins_swept hF p
    have hr : ∀ p, (s.panel p).reshapes = reshapes p := fun p => (Bool.decide_or _ _).symm
    have hc : ∀ c, s.reshapesCtx c = reshaped c := fun c => by
      show ((s.panel .a).reshapes && _ || (s.panel .b).reshapes && _) = _
      rw [hr .a, hr .b]
    have hn : ∀ p, s.sweptFor F p = swept p := fun p => by
      rw [s.sweptFor_eq]
      refine List.countP_congr fun k _ => ?_
      cases k with
      | none => rfl
      | some c =>
        simp only [Option.any_some, hc]
        exact .rfl
    have ready : ∀ p, (s.panel p).readied (s.sweptFor F p) old F = { s.panel p with
        inForce := (s.panel p).written, ring := ring p, malformedSlices := satInc^[swept p] (s.panel p).malformedSlices
        strobe := if (s.panel p).strobe = .held then .held else .idle
        staleLines := satAdd (s.panel p).staleLines (if reshapes p then 0 else (s.panel p).ring.countP fun r =>
          decide (r.frame ≠ F ∧ some r.frame ≠ old)) } := fun p => by
      rw [PanelState.readied_eq, hr, hn]
    have held : ∀ p, (if (s.panel p).strobe = .held then StrobeState.held else .idle) ≠ .held
        ↔ (s.panel p).strobe ≠ .held := fun p => by
      split <;> simp_all
    have scanned : ∀ p, (s.scans F old p).FirstInside = inside p ∧ (s.scans F old p).firstSource F = found p := fun p => by
      unfold State.scans
      rw [ready, PanelState.beginScan_eq]
      exact ⟨rfl, rfl⟩
    have hmiss : ∀ p, s.misses F old p = misses p := fun p => by
      unfold State.misses
      rw [hb, Bool.eq_iff_iff]
      simp only [misses, Bool.and_eq_true, decide_eq_true_eq, PanelState.missingAt_first, (scanned p).1, (scanned p).2]
    have hline : ∀ p, (s.scans F old p).lineFor (some F) 0 = line p := fun p => by
      obtain ⟨hi, hs⟩ := scanned p
      have hw : (s.scans F old p).inForce = (s.panel p).written ∧ (s.scans F old p).lastLine = (s.panel p).lastLine
          ∧ (s.scans F old p).shift = shift p := by
        unfold State.scans
        rw [ready, PanelState.beginScan_eq]
        exact ⟨rfl, rfl, rfl⟩
      obtain ⟨hw, hl, hd⟩ := hw
      by_cases h : inside p
      · cases hf : found p with
        | none =>
          rw [PanelState.lineFor_first_missing _ _ (hi ▸ h) (hs.trans hf), hw, hl]
          exact ((if_pos h).trans (by rw [hf])).symm
        | some r =>
          rw [PanelState.lineFor_first_found _ _ (hi ▸ h) (hs.trans hf), hw, hd]
          exact ((if_pos h).trans (by rw [hf] <;> rfl)).symm
      · rw [PanelState.lineFor_first_outside _ _ (hi ▸ h), hw]
        exact (if_neg h).symm
    refine ⟨fun p => ?_, ?_, ?_, ?_⟩
    · intro x at_ strobes started
      refine ⟨fun h => ?_, fun h => ?_⟩
      · have hm : (s.scans F old p).missingAt (some F) 0 = misses p := by
          rw [← hmiss p]
          show _ = (s.swept.begins p && _)
          rw [hb, h, Bool.true_and]
        refine (State.picturesStart_panel hF old p).trans ((if_pos ((hb p).trans h)).trans ?_)
        rw [PanelState.firstSent_eq F (s.scans_pos F old p), hline, hm]
        unfold State.scans
        rw [ready, PanelState.beginScan_eq]
        simp only [held]
        rfl
      · refine (State.picturesStart_panel hF old p).trans ((if_neg (by rw [hb, h]; decide)).trans ?_)
        rw [ready]
        rfl
    · rw [State.picturesStart_contexts hF]
      refine congrArg (Vector.map · s.pxp.contexts) (congrArg Option.filter (funext fun c => ?_))
      rw [hc]
      show (!reshaped c && !c.strays F) = (!reshaped c && !(!reshaped c && c.strays F))
      cases reshaped c <;> rfl
    · intro h
      obtain ⟨he, hf⟩ := State.picturesStart_rest hF old
      obtain ⟨ne, nf⟩ := State.namePanels_some (s.begun_within old) (State.begun_active hF old) (by rw [hb, hb]; exact h)
      refine ⟨he.trans ne, hf.trans ?_⟩
      rw [nf, hb, hb, hmiss, hmiss]
    · intro r ha hb' hs done
      obtain ⟨he, hf⟩ := State.picturesStart_rest hF old
      obtain ⟨nf, ne⟩ := State.namePanels_none (s.begun_within old) (State.begun_active hF old) ((hb .a).trans ha)
        ((hb .b).trans hb') hs
      refine ⟨hf.trans ?_, he.trans ne⟩
      rw [nf]
      rfl
  · intro s old active
    obtain ⟨_, _, _, hf⟩ := s.frameRecords_ftm old
    refine ⟨by rw [hf], fun r hr he => State.frameRecords_evaluated hr he old, fun r hr ho => State.frameRecords_opened hr ho old,
      fun p => ?_, fun r hr => State.frameRecords_done hr old⟩
    have hp : ((s.frameRecords old).panel p).cutLines = ((s.recordEnds old).panel p).cutLines := by
      rw [State.frameRecords_eq, State.panel, State.onFtm_pxp,
        (State.lateEvaluate_within (s.recordEnds old)).pxp.resolve_left (by decide)]
      rfl
    rw [hp, s.recordEnds_cutLines old p]
    simp only [active, decide_eq_true_eq]

end Sys2Proof.Machine
end

section
/-! The picture path's cells: targets, contexts, the lines whose bytes are complete, and the judgement of a line (R83 to R92). -/

namespace Sys2Proof.Machine

open Sys2Proof

variable {s : State}

/-! ### Targets (R79) -/

/-- The change made to each panel of a target. -/
def Target.on (t : Target) (f : PanelState → PanelState) (d : Duo PanelState) : Duo PanelState :=
  ⟨if t = .one .b then d.a else f d.a, if t = .one .a then d.b else f d.b⟩

/-- The state with the panels of a target changed. -/
theorem State.onTarget_eq (s : State) (t : Target) (f : PanelState → PanelState) :
    s.onTarget t f = { s with pxp := { s.pxp with panels := t.on f s.pxp.panels } } := by
  cases t with
  | both => rfl
  | one p => cases p <;> rfl

theorem Target.on_on (t : Target) (f g : PanelState → PanelState) (d : Duo PanelState) : t.on f (t.on g d) = t.on (f ∘ g) d := by
  cases t with
  | both => rfl
  | one p => cases p <;> rfl

theorem Target.on_id (t : Target) (d : Duo PanelState) : t.on (fun y => y) d = d := by
  cases t with
  | both => rfl
  | one p => cases p <;> rfl

/-! ### Lines (R87) -/

/-- Line `j` of those complete in a context's bytes (R83, R87). -/
def SliceCtx.lineAt (c : SliceCtx) (j : Nat) : RingLine :=
  { frame := c.frame, line := c.nextLine + j, pixels := pixelsOf c.width (c.current.drop (j * (3 * c.width))) }

/-- How many lines of a context's slice are complete in its bytes (R87). -/
def SliceCtx.ready (c : SliceCtx) : Nat := min (c.first + c.count - c.nextLine) (c.current.length / (3 * c.width))

/-- A context after a number of its lines have been committed (R87). -/
def SliceCtx.after (c : SliceCtx) (n : Nat) : SliceCtx :=
  { c with nextLine := c.nextLine + n, current := c.current.drop (n * (3 * c.width)) }

/-- A panel after a number of a context's lines have been offered to its ring, in order (R87). -/
def SliceCtx.offers (c : SliceCtx) (F : Option FrameNo) (n : Nat) (y : PanelState) : PanelState :=
  (List.range n).foldl (fun y j => y.offer F (c.lineAt j)) y

theorem SliceCtx.lineAt_after (c : SliceCtx) (j : Nat) : (c.after 1).lineAt j = c.lineAt (j + 1) := by
  unfold SliceCtx.lineAt SliceCtx.after
  simp only [RingLine.mk.injEq, true_and, List.drop_drop, one_mul]
  exact ⟨by omega, by rw [Nat.add_mul, one_mul, Nat.add_comm]⟩

theorem SliceCtx.offers_succ (c : SliceCtx) (F : Option FrameNo) (n : Nat) :
    c.offers F (n + 1) = (c.after 1).offers F n ∘ fun y => y.offer F (c.lineAt 0) := by
  funext y
  unfold SliceCtx.offers
  rw [List.range_succ_eq_map, List.foldl_cons, List.foldl_map]
  simp only [SliceCtx.lineAt_after, Nat.succ_eq_add_one]
  rfl

theorem SliceCtx.after_after (c : SliceCtx) (n : Nat) : (c.after 1).after n = c.after (n + 1) := by
  unfold SliceCtx.after
  simp only [SliceCtx.mk.injEq, true_and, List.drop_drop, one_mul, and_true]
  exact ⟨by omega, by rw [Nat.add_mul, one_mul, Nat.add_comm]⟩

theorem SliceCtx.ready_zero {c : SliceCtx} (h : ¬ (c.nextLine < c.first + c.count ∧ c.width * 3 ≤ c.current.length)) :
    c.ready = 0 := by
  unfold SliceCtx.ready
  by_cases h1 : c.nextLine < c.first + c.count
  · have h2 : c.current.length < 3 * c.width := by
      have := not_and.mp h h1
      omega
    rw [Nat.div_eq_of_lt h2, Nat.min_zero]
  · rw [Nat.sub_eq_zero_of_le (not_lt.mp h1), Nat.zero_min]

theorem SliceCtx.ready_succ {c : SliceCtx} (hw : 0 < c.width)
    (h : c.nextLine < c.first + c.count ∧ c.width * 3 ≤ c.current.length) : c.ready = (c.after 1).ready + 1 := by
  obtain ⟨h1, h2⟩ := h
  unfold SliceCtx.ready SliceCtx.after
  simp only [one_mul, List.length_drop]
  have hd : c.current.length / (3 * c.width) = (c.current.length - 3 * c.width) / (3 * c.width) + 1 := by
    rw [← Nat.add_div_right _ (by omega), Nat.sub_add_cancel (by omega)]
  omega

/-- Without a complete line nothing is committed. -/
theorem SliceCtx.commit_none {c : SliceCtx} (h : c.ready = 0) (s : State) :
    (c, s) = (c.after c.ready, s.onTarget c.target (c.offers s.ftm.scanFrame c.ready)) := by
  have h0 : c.offers s.ftm.scanFrame 0 = fun y => y := rfl
  rw [h, State.onTarget_eq, h0, Target.on_id]
  simp [SliceCtx.after]

/-- The commit of a context's complete lines, with fuel for all of them (R87). -/
theorem commitLines_eq {n : Nat} {c : SliceCtx} (hw : 0 < c.width) (hn : c.ready ≤ n) (s : State) : commitLines n c s =
    (c.after c.ready, s.onTarget c.target (c.offers s.ftm.scanFrame c.ready)) := by
  induction n generalizing c s with
  | zero => exact SliceCtx.commit_none (Nat.le_zero.mp hn) s
  | succ n ih =>
    by_cases h : c.nextLine < c.first + c.count ∧ c.width * 3 ≤ c.current.length
    · have hr := SliceCtx.ready_succ hw h
      have hl : c.lineAt 0 = { frame := c.frame, line := c.nextLine, pixels := pixelsOf c.width c.current } := by
        simp [SliceCtx.lineAt]
      have hc : ({ c with nextLine := c.nextLine + 1, current := c.current.drop (c.width * 3) } : SliceCtx) = c.after 1 := by
        simp only [SliceCtx.after, one_mul, Nat.mul_comm]
      unfold commitLines
      rw [if_pos h]
      dsimp only
      rw [hc, ← hl, ih (c := c.after 1) (by exact hw) (by omega), SliceCtx.after_after, ← hr]
      refine congrArg (Prod.mk _) ?_
      rw [hr, SliceCtx.offers_succ, State.onTarget_eq, State.onTarget_eq, State.onTarget_eq]
      simp only [← Target.on_on]
      rfl
    · unfold commitLines
      rw [if_neg h]
      exact SliceCtx.commit_none (SliceCtx.ready_zero h) s

end Sys2Proof.Machine
end

section
/-! A cell on a picture stream, case by case, and the offer of a line to a ring (R84 to R92). -/

namespace Sys2Proof.Machine

open Sys2Proof

variable {s : State} {i : Fin 4} {k : SliceCtx} {c : PicCell}

/-! ### Contexts (R84 to R87) -/

/-- A slice aborted: its context freed, and one malformed slice counted against its target. -/
def State.aborted (s : State) (i : Fin 4) (t : Target) : State :=
  { s with pxp := ⟨t.on (fun y => { y with malformedSlices := satInc y.malformedSlices }) s.pxp.panels, s.pxp.contexts.set i none⟩ }

theorem State.abortCtx_eq (h : s.pxp.contexts[i] = some k) : s.abortCtx i = s.aborted i k.target := by
  unfold State.abortCtx
  rw [h]
  exact State.onTarget_eq _ _ _

/-- A context with the bytes of a cell behind its own. -/
def SliceCtx.joined (k : SliceCtx) (bytes : List Byte) : SliceCtx :=
  { k with current := k.current ++ bytes, received := k.received + bytes.length }

/-- A cell's bytes make the slice too long, or end it short (R86). -/
def SliceCtx.Overruns (k : SliceCtx) (bytes : List Byte) (final : Bool) : Prop :=
  k.bodyBytes < k.received + bytes.length ∨ (final = true ∧ k.received + bytes.length < k.bodyBytes)

/-- A cell's bytes taken into a context: its complete lines offered, and the context kept until the slice ends (R87). -/
def State.sliceTaken (s : State) (i : Fin 4) (k : SliceCtx) (bytes : List Byte) (final : Bool) : State :=
  { s with pxp := {
    panels := k.target.on ((k.joined bytes).offers s.ftm.scanFrame (k.joined bytes).ready) s.pxp.panels
    contexts := s.pxp.contexts.set i (if final then none else some ((k.joined bytes).after (k.joined bytes).ready)) } }

theorem State.sliceBytes_refused {bytes : List Byte} {final : Bool} (h : k.Overruns bytes final) :
    s.sliceBytes i k bytes final = s.abortCtx i := if_pos h

theorem State.sliceBytes_taken {bytes : List Byte} {final : Bool} (h : ¬ k.Overruns bytes final) (hw : 0 < k.width)
    (hc : k.count ≤ 16) (hf : k.first ≤ k.nextLine) : s.sliceBytes i k bytes final = s.sliceTaken i k bytes final := by
  have hr : (k.joined bytes).ready ≤ 16 := by
    unfold SliceCtx.ready
    exact (Nat.min_le_left _ _).trans (by show k.first + k.count - k.nextLine ≤ 16; omega)
  refine (if_neg h).trans ?_
  rw [show ({ k with current := k.current ++ bytes, received := k.received + bytes.length } : SliceCtx) = k.joined bytes from rfl,
    commitLines_eq (c := k.joined bytes) hw hr, State.onTarget_eq]
  rfl

/-! ### The cell's cases (R84 to R87) -/

theorem State.pictureCell_continues (h : c.pos = .mid ∨ c.pos = .last) : s.pictureCell c = s.sliceNext c := by
  unfold State.pictureCell
  rcases h with h | h <;> rw [h]

theorem State.pictureCell_begins (h : c.pos = .first ∨ c.pos = .only) : s.pictureCell c = s.sliceFirst c := by
  unfold State.pictureCell
  rcases h with h | h <;> rw [h]

theorem State.sliceNext_orphan (h : s.pxp.ctxOf c.sn = none) :
    s.sliceNext c = s.onTarget c.target fun x => { x with orphanCells := satInc x.orphanCells } := by
  unfold State.sliceNext
  rw [h]

theorem State.sliceNext_held (h : s.pxp.ctxOf c.sn = some i) (hk : s.pxp.contexts[i] = some k) : s.sliceNext c =
    if c.gap.isSome then s.abortCtx i else s.sliceBytes i k c.bytes (decide (c.pos = .last)) := by
  unfold State.sliceNext
  rw [h]
  dsimp only
  rw [hk]

theorem State.endSlice_none {sn : Fin 32} (h : s.pxp.ctxOf sn = none) : s.endSlice sn = s := by
  unfold State.endSlice
  rw [h]

theorem State.endSlice_some {sn : Fin 32} (h : s.pxp.ctxOf sn = some i) : s.endSlice sn = s.abortCtx i := by
  unfold State.endSlice
  rw [h]

theorem Pxp.freeCtx_none {x : Pxp} (h : ∀ i : Fin 4, x.contexts[i] ≠ none) : x.freeCtx = none := by
  unfold Pxp.freeCtx
  rw [List.find?_eq_none]
  intro i _
  simpa using h i

theorem find_lowest {f : Fin 4 → Bool} (h : f i = true) (hl : ∀ j < i, f j = false) :
    ([0, 1, 2, 3] : List (Fin 4)).find? f = some i := by
  have at_ : ∀ k : Fin 4, ([0, 1, 2, 3] : List (Fin 4))[k.val] = k := by decide
  refine List.find?_eq_some_iff_getElem.mpr ⟨h, i.val, i.isLt, at_ i, fun j hj => ?_⟩
  have hj4 : j < 4 := hj.trans i.isLt
  rw [at_ ⟨j, hj4⟩, hl ⟨j, hj4⟩ hj]
  rfl

theorem Pxp.freeCtx_some {x : Pxp} (h : x.contexts[i] = none) (hl : ∀ j < i, x.contexts[j] ≠ none) : x.freeCtx = some i := by
  refine find_lowest (by rw [h]; rfl) fun j hj => ?_
  rw [Option.isNone_eq_false_iff, Option.isSome_iff_ne_none]
  exact hl j hj

/-- The header of a picture cell's slice passes the four checks (R84). -/
theorem Pxp.headerGood_iff {x : Pxp} : x.headerGood c = true ↔ 8 ≤ c.bytes.length
    ∧ (readSlice c.bytes).first + (readSlice c.bytes).count ≤ (x.panels.get c.target.lead).inForce.height
    ∧ (c.target = .both → x.panels.a.inForce.width = x.panels.b.inForce.width
      ∧ x.panels.a.inForce.height = x.panels.b.inForce.height) := by
  unfold Pxp.headerGood
  cases c.target <;> simp [and_assoc]

end Sys2Proof.Machine
end

section
/-! A good cell by stream and kind (R4, R26 to R30, R84 to R92). -/

namespace Sys2Proof.Machine

open Sys2Proof

variable {s : State} {i : Fin 4} {k : SliceCtx}

/-! ### A slice's first cell (R85) -/

theorem State.setCtx_aborted (s : State) (i : Fin 4) (x : Option SliceCtx) (t : Target) :
    (s.setCtx i x).aborted i t = s.aborted i t :=
  congrArg (fun v => ({ s with pxp := ⟨_, v⟩ } : State)) (Vector.set_set ..)

theorem State.setCtx_sliceTaken (s : State) (i : Fin 4) (x : Option SliceCtx) (k : SliceCtx) (bytes : List Byte) (final : Bool) :
    (s.setCtx i x).sliceTaken i k bytes final = s.sliceTaken i k bytes final :=
  congrArg (fun v => ({ s with pxp := ⟨_, v⟩ } : State)) (Vector.set_set ..)

theorem Target.lead_eq (t : Target) : t.lead = if t = .one .b then .b else .a := by
  cases t with
  | both => rfl
  | one p => cases p <;> rfl

theorem ofLe_take_two_lt (bs : List Byte) : ofLe (bs.take 2) < 65536 := by
  match bs with
  | [] => decide
  | [x] =>
    have hx := x.isLt
    show x.toNat + 256 * 0 < 65536
    omega
  | x :: y :: _ =>
    have hx := x.isLt
    have hy := y.isLt
    show x.toNat + 256 * (y.toNat + 256 * 0) < 65536
    omega

/-! ### Tracking (R29, R30) -/

theorem StreamEntry.gap_cases (e : StreamEntry) (seq : Byte) : e.gap seq =
    if e.tracking = false ∨ ((seq - (e.lastSeq + 1)).toNat = 0 ∧ e.gapPending = false) then none
    else if (seq - (e.lastSeq + 1)).toNat = 0 then some 1 else some (seq - (e.lastSeq + 1)).toNat := by
  unfold StreamEntry.gap
  generalize (seq - (e.lastSeq + 1)).toNat = g
  by_cases h : g = 0 <;> cases e.tracking <;> cases e.gapPending <;> simp [h]

theorem StreamEntry.track_cases (e : StreamEntry) (seq : Byte) : e.track seq = { e with
    tracking := true, lastSeq := seq, gapPending := false, goodCells := satInc e.goodCells
    gaps := satAdd e.gaps (if e.gap seq = none then 0 else 1) } := by
  unfold StreamEntry.track
  cases e.gap seq <;> rfl

/-- A change of a panel that leaves its strobe raises no side-band line. -/
theorem NoRise.onPanel (s : State) (p : Side) {f : PanelState → PanelState} (h : (f (s.panel p)).strobe = (s.panel p).strobe) :
    NoRise s (s.onPanel p f) := fun i hi => by
  have he : (s.onPanel p f).lineLevel i = s.lineLevel i := by
    refine State.lineLevel_congr i rfl rfl rfl rfl rfl ?_ rfl
    cases p with
    | a => exact h
    | b => rfl
  exact he.symm.trans hi

/-- A picture cell raises no side-band line. -/
theorem NoRise.keptBySlices (s : State) : KeptBySlices (NoRise s) where
  contexts _ _ h := h.trans fun _ => id
  pose _ _ _ h := h.trans fun _ => id
  counted _ p f hf h := h.trans (.onPanel _ p (by rw [hf]))
  offered _ p l h := h.trans (.onPanel _ p (PanelState.offer_kept _ _ l).2.2)

/-! ### Lines offered (R89, R90) -/

/-- A panel after a line has been offered that was judged so (R89, R90). -/
def PanelState.afterOffer (x : PanelState) (F : FrameNo) (l : RingLine) : Offer → PanelState
  | .noScan => { x with noScanLines := satInc x.noScanLines }
  | .early => { x with earlyLines := satInc x.earlyLines }
  | .stale => { x with staleLines := satInc x.staleLines }
  | .placed => { x with ring := placeLine F x.inForce.height l x.ring }

/-- Settles O15. -/
theorem unsteeredCellIsTracked : Obligations.UnsteeredCellIsTracked := by
  refine ⟨?_, ?_, ?_⟩
  · intro s c payload p0 p1 hh hc hl hn hg a bytes e g gap tracked mismatched destination runs pictured
    have hsteer : c.sn ≠ 0 → exec (.cellArrival payload p0 p1) s = .next (a.edged fun s => s.steering c bytes) := fun hs =>
      exec_steeredArrival hh hc hl hs hn hg
    have hzero : c.sn = 0 → exec (.cellArrival payload p0 p1) s = .next (a.streamZero c bytes) := fun hs => by
      rw [exec_goodArrival hh hc hl hn hg, State.deliver, if_pos hs]
      rfl
    obtain ⟨m, hm⟩ : ∃ m, a = { s.arrived true with mou := m } := ⟨_, s.counted_eq true⟩
    clear_value a
    subst hm
    let u : State := { s.arrived true with mou := m }
    have hgap : e.gap c.seq = gap := e.gap_cases c.seq
    have htr : e.track c.seq = { e with
        tracking := true, lastSeq := c.seq, gapPending := false, goodCells := satInc e.goodCells
        gaps := satAdd e.gaps (if gap = none then 0 else 1) } := by rw [e.track_cases, hgap]
    have streamed : ∀ f h : StreamEntry → StreamEntry, f e = h (e.track c.seq) →
        (u.onStream c.sn f) = { u with stu := tracked h } := fun f h hf =>
      congrArg (fun x => ({ u with stu := { u.stu with streams := x } } : State))
        (tabMod_congr (v := s.stu.streams) (hf.trans (congrArg h htr)))
    have htrack : u.trackCell c = { u with stu := tracked id } := streamed _ _ rfl
    have htwice : ∀ f, (u.trackCell c).onStream c.sn f = { u with stu := tracked f } := fun f =>
      (congrArg (fun x => ({ u with stu := { u.stu with streams := x } } : State)) (tabMod_tabMod _ _ _ _)).trans (streamed _ f rfl)
    have edge : ∀ f, c.sn ≠ 0 → u.steering c bytes = { u with stu := tracked f } → runs u.lrx (tracked f) := fun f hs h => by
      show exec _ s = _
      rw [hsteer hs, NoRise.edged (s := u) (f := fun s => s.steering c bytes) (by rw [h]; exact fun _ => id), h]
    have picture : ∀ d t, c.sn ≠ 0 → c.kind = .data → destination = some d →
        (∀ (v : State) x, v.steer c bytes x d = v.pictureCell { sn := c.sn, pos := c.pos, bytes := bytes, gap := x, target := t }) →
        pictured t := fun d t hs hk hd ht => by
      have hst : u.steering c bytes = (u.trackCell c).pictureCell
          { sn := c.sn, pos := c.pos, bytes := bytes, gap := gap, target := t } := by
        rw [State.steering_data (d := d) hk (by exact hd), ht, ← hgap]
        rfl
      show exec _ s = _
      rw [hsteer hs, NoRise.edged (s := u) (f := fun s => s.steering c bytes) (by
        rw [hst]
        exact (NoRise.keptBySlices u).pictureCell (show NoRise u (u.trackCell c) from fun _ => id) _), hst, htrack]
    have zero : c.sn = 0 → ∀ {v : State}, u.streamZero c bytes = v →
        exec (.cellArrival payload p0 p1) s = .next v := fun hs v h => by
      rw [hzero hs, ← h]
    have timed : ∀ l : Lrx, (u.onLrx fun _ => l).trackCell c = { u with lrx := l, stu := tracked id } := fun l =>
      congrArg (fun x : State => { x with lrx := l }) htrack
    refine ⟨fun hs hk => edge (fun e => { e with kindMismatches := satInc e.kindMismatches }) hs ?_,
      fun hs hk hd => edge (fun e => { e with unsteered := satInc e.unsteered }) hs ?_,
      fun hs hk hd => edge id hs ?_, fun hs hk hd => picture .panelA _ hs hk hd fun _ _ => rfl,
      fun hs hk hd => picture .panelB _ hs hk hd fun _ _ => rfl, fun hs hk hd => picture .panelBoth _ hs hk hd fun _ _ => rfl,
      fun hs hk => zero hs ?_, fun hs hk => zero hs ?_, fun hs hk ht => zero hs ?_, fun hs hk ht => zero hs ?_,
      fun hs hk hp => zero hs ?_⟩
    · unfold State.steering
      dsimp only
      rw [if_pos hk]
      exact htwice _
    · have hd' : (u.trackCell c).stu.destination c.sn.val = none := hd
      unfold State.steering
      dsimp only
      rw [if_neg (by simp [hk]), hd']
      exact htwice _
    · rw [State.steering_data (d := .discard) hk (by exact hd)]
      exact htrack
    · unfold State.streamZero
      rw [hk]
    · unfold State.streamZero
      rw [hk, ← hs]
      refine Eq.trans ?_ (streamed (fun e => StreamEntry.track { e with kindMismatches := satInc e.kindMismatches } c.seq)
        (fun e => { e with kindMismatches := satInc e.kindMismatches }) rfl)
      exact congrArg (fun x => ({ u with stu := { u.stu with streams := x } } : State)) (tabMod_tabMod u.stu.streams c.sn
        (fun e => { e with kindMismatches := satInc e.kindMismatches }) fun e => e.track c.seq)
    · unfold State.streamZero Lrx.checkTest
      rw [hk]
      dsimp only
      rw [State.onLrx, if_neg (by rw [show u.lrx.testMode = s.lrx.testMode from rfl, ht]; decide)]
      exact timed u.lrx
    · unfold State.streamZero Lrx.checkTest
      rw [hk]
      dsimp only
      rw [State.onLrx, if_pos (by exact ht)]
      exact timed _
    · unfold State.streamZero State.syncCell
      rw [hk]
      dsimp only
      rw [if_neg (by tauto)]
      exact timed _
  · intro s c x on malformed aborted takes word lead good frame pose posed begins continues
    have hlead : c.target.lead = if c.target = .one .b then .b else .a := c.target.lead_eq
    have hgood : s.pxp.headerGood c = true ↔ good := by
      rw [Pxp.headerGood_iff, hlead]
      exact .rfl
    have first : begins → x.ctxOf c.sn = none → s.pictureCell c =
        if s.pxp.headerGood c then posed.beginSlice c else s.countMalformed c.target := fun h hn => by
      rw [State.pictureCell_begins h, State.sliceFirst_eq, State.endSlice_none hn]
      rfl
    refine ⟨fun h hn => ?_, fun i k h hi hk hg => ?_, fun i k h hi hk hg hw hc hf => ?_, fun i k h hi hk hn => ?_, fun h hn hg => ?_,
      fun h hn hg hfull => ?_, fun i h hn hg hi hlow hw => ?_⟩
    · rw [State.pictureCell_continues h, State.sliceNext_orphan hn]
      exact State.onTarget_eq _ _ _
    · rw [State.pictureCell_continues h, State.sliceNext_held hi hk, if_pos (Option.isSome_iff_ne_none.mpr hg)]
      exact State.abortCtx_eq hk
    · rw [State.pictureCell_continues h, State.sliceNext_held hi hk, if_neg (by simp [hg])]
      by_cases ho : k.Overruns c.bytes (decide (c.pos = .last))
      · exact (State.sliceBytes_refused ho).trans ((State.abortCtx_eq hk).trans (if_pos ho).symm)
      · exact (State.sliceBytes_taken ho hw hc hf).trans (if_neg ho).symm
    · have ha : s.endSlice c.sn = aborted s i k.target := (State.endSlice_some hi).trans (State.abortCtx_eq hk)
      rw [State.pictureCell_begins h, State.pictureCell_begins h, State.sliceFirst_eq, State.sliceFirst_eq, ha,
        State.endSlice_none hn]
    · rw [first h hn, if_neg (mt hgood.mp hg)]
      exact State.onTarget_eq _ _ _
    · have hf : posed.pxp.freeCtx = none := Pxp.freeCtx_none hfull
      rw [first h hn, if_pos (hgood.mpr hg)]
      unfold State.beginSlice
      rw [hf]
      exact State.onTarget_eq _ _ _
    · have hf : posed.pxp.freeCtx = some i := Pxp.freeCtx_some hi hlow
      let k : SliceCtx := { sn := c.sn, target := c.target, frame := frame, first := word % 4096, count := word / 4096 + 1
                            width := lead.width, nextLine := word % 4096, current := [], received := 0 }
      have hk : posed.openCtx c = k := by
        unfold State.openCtx
        rw [hlead]
        rfl
      have hcount : k.count ≤ 16 := by
        have hword := ofLe_take_two_lt (c.bytes.drop 2)
        show word / 4096 + 1 ≤ 16
        have : word < 65536 := hword
        omega
      rw [first h hn, if_pos (hgood.mpr hg)]
      unfold State.beginSlice
      rw [hf, hk]
      show (posed.setCtx i (some k)).sliceBytes i k _ _ = takes posed i k _ _
      by_cases ho : k.Overruns (c.bytes.drop 8) (decide (c.pos = .only))
      · refine (State.sliceBytes_refused ho).trans ((State.abortCtx_eq (k := k) ?_).trans ?_)
        · exact Vector.getElem_set_self ..
        · exact (State.setCtx_aborted _ _ _ _).trans (if_pos ho).symm
      · exact (State.sliceBytes_taken ho hw hcount le_rfl).trans ((State.setCtx_sliceTaken _ _ _ _ _ _).trans (if_neg ho).symm)
  · intro x l ahead position early stale
    refine ⟨fun old h => ?_, fun F => ⟨fun hs => ?_, fun old => ?_⟩⟩
    · have hj : judgeLine old x l.frame l.line = .noScan := by
        unfold judgeLine
        rcases h with rfl | h
        · rfl
        · cases old with
          | none => rfl
          | some F => exact if_pos h
      unfold PanelState.offer
      rw [hj]
    · have offered : ∀ {o}, judgeLine (some F) x l.frame l.line = o → x.offer (some F) l = x.afterOffer F l o := fun h => by
        rw [← h]
        rfl
      have hj : judgeLine (some F) x l.frame l.line =
          if ahead F l ≤ 1 then
            if position F l + 16 < x.pos then .stale else if x.pos + 79 < position F l then .early else .placed
          else if ahead F l ≤ 32767 then .early else .stale := if_neg hs
      refine ⟨fun h1 h2 => offered (o := .stale) ?_, fun h1 h2 => offered (o := .early) ?_, fun h1 h2 h3 => offered (o := .placed) ?_,
        fun h1 h2 => offered (o := .early) ?_, fun h1 => offered (o := .stale) ?_⟩
      · rw [hj, if_pos h1, if_pos h2]
      · rw [hj, if_pos h1, if_neg (by omega), if_pos h2]
      · rw [hj, if_pos h1, if_neg (by omega), if_neg (by omega)]
      · rw [hj, if_neg (by omega), if_pos h2]
      · rw [hj, if_neg (by omega), if_neg (by omega)]
    · unfold PanelState.rebase
      rw [List.countP_eq_length_filter]
      simp only [Bool.decide_and]
      rfl

end Sys2Proof.Machine
end

section
/-! The time update of a SYNC, and the target that it hands on (R11 to R15, R61 to R66). -/

namespace Sys2Proof.Machine

open Sys2Proof

variable {s : State}

/-! ### The re-base (R63, R99, R112) -/

theorem tadd_toInt (t b : Time) : tadd t b.toInt = t + b := by rw [tadd, BitVec.ofInt_toInt]

theorem Generator.rebase_eq (g : Generator) (b : Time) : g.rebase b.toInt = { g with
    startAt := if g.state = .pending then g.startAt + b else g.startAt
    endAt := if g.state = .on then g.endAt + b else g.endAt } := by
  unfold Generator.rebase
  simp only [tadd_toInt]
  obtain ⟨_, _, st, _, _, _, _, _, _, _⟩ := g
  cases st <;> rfl

theorem PanelState.rebaseStrobe_eq (x : PanelState) (b : Time) : x.rebaseStrobe b.toInt = { x with
    strobeAt := if x.strobe = .pending then x.strobeAt + b else x.strobeAt
    strobeEnd := if x.strobe = .on then x.strobeEnd + b else x.strobeEnd } := by
  unfold PanelState.rebaseStrobe
  simp only [tadd_toInt]
  obtain ⟨_, _, _, _, _, _, _, _, _, strobe, _⟩ := x
  cases strobe <;> rfl

theorem BusCtl.rebase_eq (c : BusCtl) (b : Time) : c.rebase b.toInt = { c with
    queue := c.queue.map fun q => { q with trigger := q.trigger + b }
    poll := c.poll.map fun w => { w with q := { w.q with trigger := w.q.trigger + b } } } := by
  simp only [BusCtl.rebase, Queued.rebase, tadd_toInt]

theorem State.rebase_eq (s : State) (b : Time) : s.rebase b.toInt = { s with
    ftm := { s.ftm with
      sNext := if s.ftm.schedule = .starting ∨ s.ftm.schedule = .running then s.ftm.sNext + b else s.ftm.sNext
      upcoming := s.ftm.upcoming.map fun r => { r with start := r.start + b }
      gens := ⟨s.ftm.gens.a.rebase b.toInt, s.ftm.gens.b.rebase b.toInt⟩ }
    pxp := { s.pxp with panels := ⟨s.pxp.panels.a.rebaseStrobe b.toInt, s.pxp.panels.b.rebaseStrobe b.toInt⟩ }
    mou := { s.mou with
      history := s.mou.history.map fun e => { e with time := e.time + b }
      serial4 := s.mou.serial4.rebase b.toInt, twoWire := s.mou.twoWire.rebase b.toInt } } := by
  simp only [← tadd_toInt]
  rfl

/-! ### The case of a reference (R11, R12) -/

section
variable {l : Lrx} {ref : Time}

theorem syncCase_set (h : l.timeState = .unset) : syncCase l ref = .set (ref - l.tt).toInt := if_pos h

theorem syncCase_step (h : l.timeState ≠ .unset) (hd : 4096 < (ref - l.tt).toInt) : syncCase l ref = .step (ref - l.tt).toInt :=
  (if_neg h).trans (if_pos hd)

theorem syncCase_forward (h : l.timeState ≠ .unset) (h0 : 0 ≤ (ref - l.tt).toInt) (hd : (ref - l.tt).toInt ≤ 4096) :
    syncCase l ref = .forward := (if_neg h).trans ((if_neg (not_lt.mpr hd)).trans (if_pos h0))

theorem syncCase_slew (h : l.timeState ≠ .unset) (h0 : (ref - l.tt).toInt < 0) (hd : -4096 ≤ (ref - l.tt).toInt) :
    syncCase l ref = .slew (ref - l.tt).toInt.natAbs :=
  (if_neg h).trans ((if_neg (show ¬ 4096 < (ref - l.tt).toInt by omega)).trans ((if_neg (not_le.mpr h0)).trans (if_pos hd)))

theorem syncCase_fault (h : l.timeState ≠ .unset) (hd : (ref - l.tt).toInt < -4096) :
    syncCase l ref = .fault (ref - l.tt).toInt :=
  (if_neg h).trans ((if_neg (show ¬ 4096 < (ref - l.tt).toInt by omega)).trans
    ((if_neg (show ¬ 0 ≤ (ref - l.tt).toInt by omega)).trans (if_neg (not_le.mpr hd))))

end

theorem State.timeFault_more (h : s.lrx.faults + 1 < 4) (d : Int) : s.timeFault d = { s with
    lrx := { s.lrx with faults := s.lrx.faults + 1 }
    evu := s.evu.take .timeFault (leBytesInt 4 d) s.lrx.tt s.timeUnset } := if_neg (not_le.mpr h)

theorem State.timeFault_lost (h : 4 ≤ s.lrx.faults + 1) (d : Int) : s.timeFault d = { s with
    lrx := { s.lrx with timeState := .unset, deficit := 0, faults := 0, slewHalf := false }
    evu := (s.evu.take .timeFault (leBytesInt 4 d) s.lrx.tt s.timeUnset).take .timeLost [] s.lrx.tt true } := if_pos h

/-! ### A target (R61 to R66) -/

theorem State.target_used (hs : s.ftm.schedule = .running) (hl : s.ftm.inForce.linked = true) (ht : s.ftm.targetTaken = false)
    (n : FrameNo) (v : Time) : s.target n v =
      ((s.onFtm fun t => t.useTarget n v s.now).judgeLock (s.ftm.targetE n v)).evaluateIfDue := by
  unfold State.target
  rw [hs]
  simp only [hl, ht, Bool.not_true, Bool.false_eq_true, if_false]

theorem State.target_ignored (h : s.ftm.schedule = .idle ∨ (s.ftm.schedule = .starting ∧ s.ftm.targetTaken = false)
    ∨ (s.ftm.schedule = .running ∧ s.ftm.inForce.linked = false)) (n : FrameNo) (v : Time) : s.target n v = s := by
  unfold State.target
  rcases h with h | ⟨h, ht⟩ | ⟨h, hl⟩
  · rw [h]
  · rw [h]
    exact if_neg (by rw [ht]; decide)
  · rw [h]
    exact if_pos (by rw [hl]; rfl)

theorem State.target_extra (h : s.ftm.schedule = .starting ∨ (s.ftm.schedule = .running ∧ s.ftm.inForce.linked = true))
    (ht : s.ftm.targetTaken = true) (n : FrameNo) (v : Time) : s.target n v = s.onFtm Ftm.extra := by
  unfold State.target
  rcases h with h | ⟨h, hl⟩
  · rw [h]
    exact if_pos ht
  · rw [h]
    exact (if_neg (by rw [hl]; decide)).trans (if_pos ht)

theorem State.target_placed (h : s.ftm.schedule = .awaiting) (n : FrameNo) (v : Time) :
    s.target n v = (s.onFtm fun t => t.place n v s.now).evaluateIfDue := by
  unfold State.target
  rw [h]

/-- The least number of periods that brings a start at least 100 µs ahead (R61). -/
theorem placePeriods_eq {d : Int} {p j : Nat} (hp : 0 < p) (hj : 100 ≤ d + j * p) (hl : ∀ i : Nat, i < j → d + i * p < 100) :
    placePeriods d p = j := by
  unfold placePeriods ceilDiv
  cases j with
  | zero =>
    have h0 : (100 - d).toNat = 0 := by omega
    rw [h0]
    exact Nat.div_eq_of_lt (by omega)
  | succ i =>
    have hi := hl i (Nat.lt_succ_self i)
    have hs : (((i + 1 : Nat) : Int)) * p = ((i * p : Nat) : Int) + p := by push_cast; ring
    have hc : (i : Int) * p = ((i * p : Nat) : Int) := by push_cast; ring
    rw [hs] at hj
    rw [hc] at hi
    refine Nat.div_eq_of_lt_le ?_ ?_
    · rw [Nat.add_mul, Nat.one_mul]
      omega
    · rw [Nat.add_mul, Nat.add_mul, Nat.one_mul]
      omega

end Sys2Proof.Machine
end

section
/-! The SYNC settled: the time update, what follows it, and the target (R10 to R15, R61 to R66). -/

namespace Sys2Proof.Machine

open Sys2Proof

variable {s : State} {e : Int}

/-! ### The display lock machine at a target (R66) -/

/-- The state with the display LOCKED, and DISPLAY_LOCK raised with its phase error (R66, R186). -/
def State.withLock (s : State) (t : Ftm) (e : Int) : State :=
  { s with
    ftm := { t with display := .locked, outCount := 0 }
    evu := s.evu.take .displayLock (leBytes 2 (s.ftm.scanFrame.getD 0).toNat ++ leBytesInt 4 e) s.lrx.tt s.timeUnset }

theorem State.displayLocks_eq (s : State) (e : Int) : s.displayLocks e = s.withLock s.ftm e := rfl

section
variable (h : e.natAbs ≤ s.ftm.inForce.lockWindow)
include h

theorem State.judgeLock_free_in (hd : s.ftm.display = .free) : s.judgeLock e = s.onFtm fun t => t.pull 1 := by
  unfold State.judgeLock
  rw [hd, decide_eq_true h]

theorem State.judgeLock_pulling_in (hd : s.ftm.display = .pulling) (hc : s.ftm.inCount + 1 < 4) :
    s.judgeLock e = s.onFtm fun t => { t with inCount := t.inCount + 1 } := by
  unfold State.judgeLock
  rw [hd, decide_eq_true h]
  exact if_neg (not_le.mpr hc)

theorem State.judgeLock_pulling_locks (hd : s.ftm.display = .pulling) (hc : 4 ≤ s.ftm.inCount + 1) :
    s.judgeLock e = s.withLock { s.ftm with inCount := s.ftm.inCount + 1 } e := by
  unfold State.judgeLock
  rw [hd, decide_eq_true h]
  exact if_pos hc

theorem State.judgeLock_locked_in (hd : s.ftm.display = .locked) : s.judgeLock e = s.onFtm fun t => { t with outCount := 0 } := by
  unfold State.judgeLock
  rw [hd, decide_eq_true h]

theorem State.judgeLock_holdover_in (hd : s.ftm.display = .holdover) : s.judgeLock e = s.withLock s.ftm e := by
  unfold State.judgeLock
  rw [hd, decide_eq_true h]
  exact s.displayLocks_eq e

end

section
variable (h : ¬ e.natAbs ≤ s.ftm.inForce.lockWindow)
include h

theorem State.judgeLock_free_out (hd : s.ftm.display = .free) : s.judgeLock e = s.onFtm fun t => t.pull 0 := by
  unfold State.judgeLock
  rw [hd, decide_eq_false h]

theorem State.judgeLock_pulling_out (hd : s.ftm.display = .pulling) : s.judgeLock e = s.onFtm fun t => { t with inCount := 0 } := by
  unfold State.judgeLock
  rw [hd, decide_eq_false h]

theorem State.judgeLock_locked_out (hd : s.ftm.display = .locked) (hc : s.ftm.outCount + 1 < 2) :
    s.judgeLock e = s.onFtm fun t => { t with outCount := t.outCount + 1 } := by
  unfold State.judgeLock
  rw [hd, decide_eq_false h]
  exact if_neg (not_le.mpr hc)

theorem State.judgeLock_unlocks (hd : s.ftm.display = .locked) (hc : 2 ≤ s.ftm.outCount + 1) :
    s.judgeLock e = { s with
      ftm := { s.ftm with outCount := s.ftm.outCount + 1, display := .pulling, inCount := 0 }
      evu := s.evu.take .displayUnlock (leBytes 2 (s.ftm.scanFrame.getD 0).toNat ++ leBytes 1 0) s.lrx.tt s.timeUnset } := by
  unfold State.judgeLock
  rw [hd, decide_eq_false h]
  exact if_pos hc

theorem State.judgeLock_holdover_out (hd : s.ftm.display = .holdover) : s.judgeLock e = s.onFtm fun t => t.pull 0 := by
  unfold State.judgeLock
  rw [hd, decide_eq_false h]

end

/-! ### A used target (R65, R68) -/

theorem Ftm.useTarget_eq (t : Ftm) (n : FrameNo) (v now : Time) : t.useTarget n v now =
    let e := t.targetE n v
    let start := t.corrected e now
    { t with
      lastPhaseError := e, sNext := start, targetTaken := true, noTarget := 0
      renumber := if t.targetK n ≤ 3 then t.renumber else some n
      upcoming := t.upcoming.map fun r =>
        if t.targetK n ≤ 3 then { r with start := start }
        else { r with start := start, number := n, state := .opened, pose := none, evalTime := none, angles := none
                      shifts := none, flags := RecFlags.none } } := by
  unfold Ftm.useTarget
  by_cases hk : t.targetK n ≤ 3
  · simp only [hk, if_true]
  · simp only [hk, if_false, Option.map_map]
    rfl

theorem Ftm.targetE_eq (t : Ftm) (n : FrameNo) (v : Time) : t.targetE n v =
    (v - (if t.targetK n ≤ 3 then t.sNext + BitVec.ofNat 32 (t.targetK n * t.inForce.period) else t.sNext)).toInt := by
  unfold Ftm.targetE tdiff
  split <;> rfl

theorem Ftm.corrected_eq (t : Ftm) (e : Int) (now : Time) : t.corrected e now =
    let moved := t.sNext + BitVec.ofInt 32 (max (-(t.inForce.phaseStep : Int)) (min t.inForce.phaseStep e))
    if 0 < (now + 100 - moved).toInt then now + 100 else moved := by
  unfold Ftm.corrected
  simp only [before_iff]
  rfl

/-! ### The time update of an arriving SYNC (R11 to R15) -/

/-- Tether time, time state, deficit and faults after the reference of a SYNC (R11 to R14). -/
def Lrx.timedBy (l : Lrx) (ref : Time) : Time × TimeState × Nat × Nat :=
  let d := (ref - l.tt).toInt
  if l.timeState = .unset ∨ 0 ≤ d then (ref, TimeState.running, 0, 0)
  else if -4096 ≤ d then (l.tt, TimeState.slewing, d.natAbs, 0)
  else if l.faults + 1 < 4 then (l.tt, l.timeState, l.deficit, l.faults + 1)
  else (l.tt, TimeState.unset, 0, 0)

/-- The time update's link receiver, and the frame timer after a time fault. -/
theorem State.timeUpdate_lrx (s : State) (ref : Time) :
    let l := (s.timeUpdate ref).lrx
    (l.tt, l.timeState, l.deficit, l.faults) = s.lrx.timedBy ref ∧ l.targetsDropped = s.lrx.targetsDropped
      ∧ (s.lrx.timeState ≠ .unset ∧ (ref - s.lrx.tt).toInt < -4096 → (s.timeUpdate ref).ftm = s.ftm) := by
  have rebased : ∀ (u : State) d, (u.rebase d).lrx = u.lrx := fun u d => (u.rebase_within d).lrx.resolve_left (by decide)
  have loaded : ∀ u : State, u.lrx = s.lrx.load ref → s.lrx.timeState = .unset ∨ 0 ≤ (ref - s.lrx.tt).toInt →
      (u.lrx.tt, u.lrx.timeState, u.lrx.deficit, u.lrx.faults) = s.lrx.timedBy ref
        ∧ u.lrx.targetsDropped = s.lrx.targetsDropped
        ∧ (s.lrx.timeState ≠ .unset ∧ (ref - s.lrx.tt).toInt < -4096 → u.ftm = s.ftm) := fun u hu h => by
    rw [hu, Lrx.timedBy, if_pos h]
    refine ⟨rfl, rfl, fun ⟨hn, hd⟩ => ?_⟩
    rcases h with h | h
    · exact absurd h hn
    · omega
  by_cases hu : s.lrx.timeState = .unset
  · refine loaded _ ?_ (.inl hu)
    unfold State.timeUpdate
    rw [syncCase_set hu]
    exact rebased _ _
  by_cases h0 : 0 ≤ (ref - s.lrx.tt).toInt
  · refine loaded _ ?_ (.inr h0)
    unfold State.timeUpdate
    by_cases hd : (ref - s.lrx.tt).toInt ≤ 4096
    · rw [syncCase_forward hu h0 hd]
      rfl
    · rw [syncCase_step hu (not_le.mp hd)]
      exact rebased _ _
  have hn : ¬ (s.lrx.timeState = .unset ∨ 0 ≤ (ref - s.lrx.tt).toInt) := not_or.mpr ⟨hu, h0⟩
  unfold State.timeUpdate Lrx.timedBy
  rw [if_neg hn]
  by_cases hd : -4096 ≤ (ref - s.lrx.tt).toInt
  · rw [syncCase_slew hu (not_le.mp h0) hd, if_pos hd]
    exact ⟨rfl, rfl, fun h => absurd h.2 (not_lt.mpr hd)⟩
  · rw [syncCase_fault hu (not_le.mp hd), if_neg hd]
    dsimp only
    by_cases hf : s.lrx.faults + 1 < 4
    · rw [State.timeFault_more hf, if_pos hf]
      exact ⟨rfl, rfl, fun _ => rfl⟩
    · rw [State.timeFault_lost (not_lt.mp hf), if_neg hf]
      exact ⟨rfl, rfl, fun _ => rfl⟩

theorem syncCase_faulted (l : Lrx) (ref : Time) : (syncCase l ref).faulted = true ↔
    l.timeState ≠ .unset ∧ (ref - l.tt).toInt < -4096 := by
  by_cases hu : l.timeState = .unset
  · rw [syncCase_set hu]
    exact iff_of_false nofun fun h => h.1 hu
  by_cases hs : 4096 < (ref - l.tt).toInt
  · rw [syncCase_step hu hs]
    exact iff_of_false nofun fun h => by omega
  by_cases h0 : 0 ≤ (ref - l.tt).toInt
  · rw [syncCase_forward hu h0 (not_lt.mp hs)]
    exact iff_of_false nofun fun h => by omega
  by_cases hd : -4096 ≤ (ref - l.tt).toInt
  · rw [syncCase_slew hu (not_le.mp h0) hd]
    exact iff_of_false nofun fun h => by omega
  · rw [syncCase_fault hu (not_le.mp hd)]
    exact iff_of_true rfl ⟨hu, not_le.mp hd⟩

/-- A SYNC's fields stand in its first 16 bytes (12.3). -/
theorem readSync_take (payload : List Byte) : readSync (payload.take 16) =
    { ct := BitVec.ofNat 32 (ofLe (payload.take 4)), present := (payload.getD 4 0).getLsbD 0
      frame := BitVec.ofNat 16 (ofLe ((payload.drop 8).take 2))
      start := BitVec.ofNat 32 (ofLe ((payload.drop 12).take 4)) } := by
  have hp : (payload.take 16).getD 4 0 = payload.getD 4 0 := by
    rw [List.getD_eq_getElem?_getD, List.getD_eq_getElem?_getD, List.getElem?_take_of_lt (by decide)]
  unfold readSync
  simp only [hp, List.drop_take, List.take_take]
  rfl

/-- The link receiver after what a time update brings due, and after a target. -/
theorem State.takeDue_lrx (s : State) : s.takeDue.lrx = s.lrx := s.takeDue_within.lrx.resolve_left (by decide)

theorem State.edgedTarget_lrx (s : State) (n : FrameNo) (v : Time) : (s.edged fun s => s.target n v).lrx = s.lrx :=
  ((s.edged_rest _).lrx.resolve_left (by decide)).trans ((s.target_within n v).lrx.resolve_left (by decide))

/-- The state after the time update of a SYNC, with the polls that its edges trigger (R11, R38). -/
def State.updated (s : State) (ref : Time) : State := s.edged fun s => s.timeUpdate ref

theorem State.updated_lrx (s : State) (ref : Time) : (s.updated ref).lrx = (s.timeUpdate ref).lrx :=
  (s.edged_rest _).lrx.resolve_left (by decide)

/-- The reference of a SYNC (R10). -/
def State.syncRef (s : State) (x : Sync) : Time := x.ct + BitVec.ofNat 32 s.lrx.linkDelay

/-- The reference of a SYNC is a time fault (R12). -/
def State.SyncFaults (s : State) (x : Sync) : Prop :=
  s.lrx.timeState ≠ .unset ∧ (s.syncRef x - s.lrx.tt).toInt < -4096

theorem State.sync_faulted {x : Sync} (h : s.SyncFaults x) : s.sync x = if x.present = true then
      (s.updated (s.syncRef x)).onLrx fun l => { l with targetsDropped := satInc l.targetsDropped }
    else s.updated (s.syncRef x) := by
  have hf : (syncCase s.lrx (x.ct + BitVec.ofNat 32 s.lrx.linkDelay)).faulted = true := (syncCase_faulted _ _).mpr h
  unfold State.sync State.syncTarget
  simp only [hf, if_true]
  cases x.present <;> rfl

theorem State.sync_unfaulted {x : Sync} (h : ¬ s.SyncFaults x) : s.sync x = if x.present = true then
      (s.updated (s.syncRef x)).takeDue.edged fun s => s.target x.frame x.start
    else (s.updated (s.syncRef x)).takeDue := by
  have hf : (syncCase s.lrx (x.ct + BitVec.ofNat 32 s.lrx.linkDelay)).faulted = false :=
    Bool.eq_false_iff.mpr (mt (syncCase_faulted _ _).mp h)
  unfold State.sync State.syncTarget
  simp only [hf, Bool.false_eq_true, if_false]
  cases x.present <;> rfl

/-- The link receiver after a SYNC: the time update's, with a target dropped and counted after a time fault (R11 to R15). -/
theorem State.sync_lrx (s : State) (x : Sync) :
    let l := (s.sync x).lrx
    (l.tt, l.timeState, l.deficit, l.faults) = s.lrx.timedBy (s.syncRef x)
      ∧ (s.SyncFaults x ∧ x.present = true → l.targetsDropped = satInc s.lrx.targetsDropped)
      ∧ (¬ (s.SyncFaults x ∧ x.present = true) → l.targetsDropped = s.lrx.targetsDropped)
      ∧ (s.SyncFaults x → (s.sync x).ftm = s.ftm) := by
  obtain ⟨ht, hd, hf⟩ := s.timeUpdate_lrx (s.syncRef x)
  rw [← State.updated_lrx] at ht hd
  have hftm : s.SyncFaults x → (s.updated (s.syncRef x)).ftm = s.ftm := fun h =>
    ((s.edged_rest _).ftm.resolve_left (by decide)).trans (hf h)
  by_cases h : s.SyncFaults x
  · rw [State.sync_faulted h]
    generalize s.updated (s.syncRef x) = u at ht hd hftm
    cases hp : x.present with
    | true => exact ⟨ht, fun _ => congrArg satInc hd, fun k => absurd ⟨h, rfl⟩ k, hftm⟩
    | false => exact ⟨ht, fun k => Bool.noConfusion k.2, fun _ => hd, hftm⟩
  · have hl : (s.sync x).lrx = (s.updated (s.syncRef x)).lrx := by
      rw [State.sync_unfaulted h]
      split
      · rw [State.edgedTarget_lrx, State.takeDue_lrx]
      · exact State.takeDue_lrx _
    rw [hl]
    exact ⟨ht, fun k => absurd k.1 h, fun _ => hd, fun k => absurd k h⟩

/-- Settles O14. -/
theorem syncUpdatesTetherTime : Obligations.SyncUpdatesTetherTime := by
  refine ⟨?_, ?_, ?_⟩
  · intro s c payload p0 p1 hh hc hl hsn hk hpos hlen hn hg ref d present frame start faulted
    have hbytes : payload.take (4 * c.len) = payload.take 16 := by rw [hlen]
    have hexec : exec (.cellArrival payload p0 p1) s = .next (((s.counted true).sync (readSync (payload.take 16))).trackCell c) := by
      rw [exec_goodArrival hh hc hl hn (by rw [hbytes]; exact hg), State.deliver, if_pos hsn, State.streamZero, hk, hbytes]
      dsimp only
      rw [State.syncCell, if_pos ⟨hpos, hlen⟩]
    have hread := readSync_take payload
    obtain ⟨ht, hdrop, hkeep, hftm⟩ := (s.counted true).sync_lrx (readSync (payload.take 16))
    have hF : (s.counted true).SyncFaults (readSync (payload.take 16)) ↔ faulted := by
      rw [hread, State.SyncFaults, State.syncRef, s.counted_lrx]
      exact .rfl
    have hP : (readSync (payload.take 16)).present = present := by rw [hread]
    have hR : (s.counted true).syncRef (readSync (payload.take 16)) = ref := by
      rw [hread, State.syncRef, s.counted_lrx]
      rfl
    have hD : (s.counted true).lrx.targetsDropped = s.lrx.targetsDropped := by rw [s.counted_lrx]; rfl
    refine ⟨_, hexec, ?_, ?_, fun h => ?_, fun h hp => ?_, fun h hp => ?_⟩
    · refine ht.trans ?_
      rw [hR, s.counted_lrx]
      rfl
    · by_cases h : faulted ∧ present = true
      · rw [if_pos h, ← hD]
        exact hdrop ⟨hF.mpr h.1, hP.trans h.2⟩
      · rw [if_neg h, ← hD]
        exact hkeep fun k => h ⟨hF.mp k.1, hP.symm.trans k.2⟩
    · refine (hftm (hF.mpr h)).trans ?_
      rw [s.counted_eq]
      rfl
    · have hs := State.sync_unfaulted (mt hF.mp h)
      rw [if_neg (by rw [hP, hp]; decide), hR] at hs
      exact congrArg (fun v : State => v.trackCell c) hs
    · have hs := State.sync_unfaulted (mt hF.mp h)
      rw [if_pos (hP.trans hp), hR, hread] at hs
      exact congrArg (fun v : State => v.trackCell c) ((congrArg (s.counted true).sync hread).trans hs)
  · intro s ref l by_ d loaded gen panel queued bus rebased fault
    have moved : ∀ v : Evu, ({ s with lrx := loaded, evu := v } : State).rebase d = rebased v := fun v => by
      rw [State.rebase_eq, Generator.rebase_eq, Generator.rebase_eq, PanelState.rebaseStrobe_eq, PanelState.rebaseStrobe_eq,
        BusCtl.rebase_eq, BusCtl.rebase_eq]
    have set_ : l.timeState ≠ .unset → s.timeUnset = false := fun h => decide_eq_false h
    refine ⟨fun h => ?_, fun h hd => ?_, fun h h0 hd => ?_, fun h h0 hd => ?_, fun h hd hf => ?_, fun h hd hf => ?_⟩
    · unfold State.timeUpdate
      rw [syncCase_set h]
      exact moved _
    · unfold State.timeUpdate
      rw [syncCase_step h hd]
      exact moved _
    · unfold State.timeUpdate
      rw [syncCase_forward h h0 hd]
      rfl
    · unfold State.timeUpdate
      rw [syncCase_slew h h0 hd]
      have hhalf : (if l.timeState = .slewing then l.slewHalf else false) = (l.slewHalf && decide (l.timeState = .slewing)) := by
        by_cases ht : l.timeState = .slewing <;> simp [ht]
      exact congrArg (fun b => ({ s with lrx := { l with
        timeState := .slewing, deficit := d.natAbs, faults := 0, slewHalf := b } } : State)) hhalf
    · unfold State.timeUpdate
      rw [syncCase_fault h hd]
      refine (State.timeFault_more hf _).trans ?_
      rw [set_ h]
    · unfold State.timeUpdate
      rw [syncCase_fault h hd]
      refine (State.timeFault_lost hf _).trans ?_
      rw [set_ h]
  · intro s n v f now F away k e near moved start used goes locks unlocks taken
    have he : f.targetE n v = e := f.targetE_eq n v
    have hu : f.useTarget n v now = used := by
      have hc : f.corrected e now = start := f.corrected_eq e now
      rw [Ftm.useTarget_eq, he]
      dsimp only
      rw [hc]
      rfl
    have judged : taken → ∀ {g w}, ({ s with ftm := used } : State).judgeLock e = { s with ftm := g, evu := w } → goes g w :=
      fun ⟨hs, hl, ht⟩ g w h => by
        refine (State.target_used hs hl ht n v).trans (congrArg State.evaluateIfDue ?_)
        rw [← h, ← hu, ← he]
        rfl
    refine ⟨fun h => ?_, fun h ht => ?_, fun j hs hp hj hl => ?_, fun ht hd hn => judged ht (State.judgeLock_free_in hn hd),
      fun ht hd hn => judged ht (State.judgeLock_free_out hn hd), fun ht hd hn hc => judged ht (State.judgeLock_pulling_in hn hd hc),
      fun ht hd hn hc => judged ht (State.judgeLock_pulling_locks hn hd hc),
      fun ht hd hn => judged ht (State.judgeLock_pulling_out hn hd),
      fun ht hd hn => judged ht (State.judgeLock_locked_in hn hd), fun ht hd hn hc => judged ht (State.judgeLock_locked_out hn hd hc),
      fun ht hd hn hc => judged ht (State.judgeLock_unlocks hn hd hc), fun ht hd hn => judged ht (State.judgeLock_holdover_in hn hd),
      fun ht hd hn => judged ht (State.judgeLock_holdover_out hn hd)⟩
    · exact State.target_ignored h n v
    · exact State.target_extra h ht n v
    · intro first
      refine (State.target_placed hs n v).trans (congrArg State.evaluateIfDue (congrArg (fun x => ({ s with ftm := x } : State)) ?_))
      have hk : placePeriods (tdiff v s.now) s.ftm.written.period = j := placePeriods_eq hp hj hl
      unfold Ftm.place
      dsimp only
      rw [hk]

end Sys2Proof.Machine
end
